-- ==== Sys2Proof/Word.lean ====
section
/-! DEFINITION. The words, enumerations and small records that commands and state share
(00_scope.md, "Geometry and numbering" and "Number formats"). Quantities of the manual are
integers (`Nat` or `Int`); `BitVec` stands for what travels as bytes. -/

namespace Sys2Proof

abbrev Byte := BitVec 8
abbrev U16 := BitVec 16
abbrev U32 := BitVec 32

/-- The two distribution links. -/
inductive Link where
  | a
  | b
deriving DecidableEq, Repr

/-- The other link. -/
def Link.other : Link → Link
  | .a => .b
  | .b => .a

/-- An emitter colour, always in the order R, G, B. -/
inductive Emitter where
  | r
  | g
  | b
deriving DecidableEq, Repr

/-- One thing for each emitter colour. -/
structure Rgb (α : Type) where
  r : α
  g : α
  b : α
deriving DecidableEq, Repr

/-- A row of three coefficients: wall components 0 to 2, or calibration components c0 to c2. -/
structure Row3 where
  x0 : Int
  x1 : Int
  x2 : Int
deriving DecidableEq, Repr

/-- A 3×3 matrix, rows first: a factory record or render-table entry has the emitters R, G, B as
rows; a target has the calibration components as rows. -/
structure Mat3 where
  r0 : Row3
  r1 : Row3
  r2 : Row3
deriving DecidableEq, Repr

/-- A wall record (R132): generation, target, ceiling. -/
structure WallRecord where
  generation : Nat
  target     : Mat3
  ceiling    : Nat
deriving DecidableEq, Repr

/-- The composer's job kinds, in their tie order (R113). -/
inductive JobKind where
  | gain
  | thermal
  | build
  | scrub
deriving DecidableEq, Repr

/-- The five requesters of the store's port (R53). -/
inductive Requester where
  | linkA
  | linkB
  | service
  | composer
  | driftSave
deriving DecidableEq, Repr

/-- What a bank shows while lit (R14). -/
inductive BankMode where
  | render
  | direct
deriving DecidableEq, Repr

/-- How a bank goes dark (R14). -/
inductive DarkPolicy where
  | park
  | float
deriving DecidableEq, Repr

/-- The causes of a warm reset that a message asks for (R175). -/
inductive WarmCause where
  | linkA
  | linkB
  | service
deriving DecidableEq, Repr

/-- One stored item of the calibration store: the covered bytes, the stored CRC and whether the
open-program mark is present (R40, R41, R44). A block slot covers 1152 bytes, the identity record
184, the drift record 321. -/
structure Stored where
  data     : List Byte
  crc      : U16
  openMark : Bool
deriving DecidableEq, Repr

end Sys2Proof
end

