-- ==== Sys2Proof/Syntax.lean ====
section
/-! DEFINITION. The commands: one constructor of `Instr` for each row of spec/opcode_table.json,
with the operands the row's rules name. A command is an event at the part; its operands are what
the outside gives (the bytes of a message, the straps, what the store's cells read). -/

namespace Sys2Proof

/-- A unit that arrives on a link (chapter 13, "Link messages"), without its kind byte: the tag,
the body and the link check. The header's length field is the body's size. -/
structure LinkUnit where
  tag   : Byte
  body  : List Byte
  check : U16
deriving DecidableEq, Repr

/-- One byte received on the service line, and whether its stop bit read high (R168). -/
structure LineByte where
  value  : Byte
  stopOk : Bool
deriving DecidableEq, Repr

/-- The way a request comes to be handled: taken from the head of a link's prompt queue (R157),
where its content stands, or carried by a service frame that has passed its CRC (R169), which
brings its tag and content. -/
inductive Via (α : Type) where
  | port (l : Link)
  | tool (tag : Byte) (payload : α)
deriving DecidableEq, Repr

/-- A BLOCK's way in: a unit on a link (R160), or a service frame that has passed its CRC with its
1156 payload bytes (R170). -/
inductive BlockVia where
  | port (l : Link) (u : LinkUnit)
  | tool (tag : Byte) (payload : List Byte)
deriving DecidableEq, Repr

/-- The sender whose outgoing message leaves its send queue (R159, R169). -/
inductive Sender where
  | link (l : Link)
  | service
deriving DecidableEq, Repr

/-- The three straps as they stand on the pins (R176): the size codes, the service enable. -/
structure StrapPins where
  width         : Fin 4
  height        : Fin 4
  serviceEnable : Bool
deriving DecidableEq, Repr

/-- What the store's cells read at the start-up checks where they no longer hold what was last
written: stored content can decay (chapter 3, "Scrub"). Empty: everything reads as written. -/
structure StoreFindings where
  identity : Option Stored
  drift    : Option Stored
  slots    : List (Nat × Stored)
deriving DecidableEq, Repr

/-- A sensor's response frame (chapter 8): whether its check passes, its tag, its value in 16 bits
and its status: a failed conversion, or an overflowed channel of the light sensor. -/
structure SensorFrame where
  checkOk  : Bool
  tag      : BitVec 4
  value    : U16
  failed   : Bool
  overflow : Rgb Bool
deriving DecidableEq, Repr

/-- The commands and events of spec/opcode_table.json, in the table's order. -/
inductive Instr where
  | powerOn (pins : StrapPins)
  | resetPinRelease (pins : StrapPins)
  | warmReset (cause : WarmCause)
  | startupChecksDone (found : StoreFindings)
  | loadSample
  | thermalTick
  | pilotTick
  | scrubTick
  | reportTick
  | driftSaveTick
  | restWakeExpiry
  | primingTimerExpiry (bank : Fin 16)
  | settleTimerExpiry
  | linkStale (l : Link)
  | blankAfterExpiry
  | creditResendTimer (l : Link)
  | signalDetected (l : Link)
  | symbolLock (l : Link)
  | linkDown (l : Link)
  | init (l : Link) (u : LinkUnit)
  | frameHead (l : Link) (u : LinkUnit)
  | row (l : Link) (u : LinkUnit)
  | promptMessageArrival (l : Link) (kind : Byte) (u : LinkUnit)
  | answerSent (who : Sender)
  | unknownKind (l : Link)
  | block (v : BlockVia)
  | wall (l : Link)
  | take (l : Link)
  | dark (v : Via Unit)
  | light (v : Via Unit)
  | rest (v : Via Unit)
  | rebuild (v : Via (List Byte))
  | queryZoneStatus (v : Via Unit)
  | queryStoreStatus (v : Via Unit)
  | queryThermalState (v : Via Unit)
  | queryWearState (v : Via Unit)
  | queryGainState (v : Via Unit)
  | queryComposerState (v : Via Unit)
  | querySensorState (v : Via Unit)
  | queryAuthorityState (v : Via Unit)
  | queryLinkState (v : Via Unit)
  | queryConfiguration (v : Via Unit)
  | setJobLevel (v : Via (JobKind × U32))
  | setPhaseTable (v : Via (List Requester))
  | setHoldTime (v : Via U32)
  | setBlankAfter (v : Via U32)
  | setThermalInterval (v : Via U32)
  | setK (v : Via U32)
  | setRho (v : Via U32)
  | setFCap (v : Via U32)
  | setSensorMap (v : Via U32)
  | setDarkPolicy (v : Via (Fin 16 × U32))
  | setAssumedAmbient (v : Via U32)
  | setPilotInterval (v : Via U32)
  | setScrubInterval (v : Via U32)
  | setReportInterval (v : Via U32)
  | setDriftSaveInterval (v : Via U32)
  | setRestWakeInterval (v : Via U32)
  | close (v : Via Unit)
  | reset (v : Via Unit)
  | trim (tag : Byte) (codes : Rgb Byte)
  | wearClear (tag : Byte) (zone : Byte)
  | bank (tag : Byte) (entries : List (Byte × Byte))
  | latch (tag : Byte) (bank : Byte) (drive : Rgb U16)
  | identity (tag : Byte) (fields : List Byte)
  | sync (low : Nat)
  | serviceFrame (bytes : List LineByte)
  | serviceFrameTimeout
  | serviceBreak (low : Nat)
  | idle
  | sensorResponse (f : SensorFrame)
  | sensorDeadline
  | blockReadDone (cells : Option Stored)
  | blockProgramDone (cells : Option Stored)
  | identityProgramDone (cells : Option Stored)
  | driftSaveDone (cells : Option Stored)
  | thermalJobEnd
  | gainEnd
  | resetPinDrivenLow
  | powerLoss
deriving DecidableEq, Repr

end Sys2Proof
end

