-- ==== Sys2Proof/Config.lean ====
section
/-! DEFINITION. The free values: what the manual leaves open and the machine goes on. Each is a
constant with no body, so that nothing can be proved of its value. -/

namespace Sys2Proof.Config

/-- R49: an item whose program was abandoned holds "whatever the program had reached". Byte `i`
of the item abandoned at draw `draw` (the counter of the state). Log 6. -/
opaque partialByte (draw i : Nat) : Byte

/-- R49: the stored CRC field of an item whose program was abandoned. Log 6. -/
opaque partialCrc (draw : Nat) : U16

/-- R151 reads back the time left on the hold timer, which R133 defines for the authority link
only: its readback at millisecond count `millis` while no link holds authority. Log 7. -/
opaque idleHoldTimer (millis : Nat) : U32

/-- R80 divides a reading by ref_e, and R78 keeps an emitter whose ref_e is 0 out of measurement;
where ref_e has become 0 by the completion (R170 lets an IDENTITY be programmed after CLOSE) the
manual gives no observed efficiency: that of reading `r` of the emitter with index `e`. Log 31. -/
opaque observedWithoutReference (e r : Nat) : Nat

end Sys2Proof.Config
end

