-- ==== Sys2Proof/Machine/State.lean ====
section
/-! DEFINITION. The state of the 6C as plain data, block by block (00_scope.md, "Block overview"),
the reasons a step can stop, and the state right after a POWER reset. Every quantity's range is
in its rule; counters that saturate or wrap do so in the operations. -/

namespace Sys2Proof.Machine

/-! ## Sparse tables -/

/-- A table listed by rising index, that lists no entry equal to what an unlisted index reads as
(`Table.wf` in Machine/Ops.lean). -/
abbrev Table (α : Type) := List (Nat × α)

/-! ## Chip: resets, straps, configuration, power state (chapter 12) -/

/-- Where the part stands between resets: unpowered; power has come up with the reset pin low, so
that the POWER reset goes on; held in a PIN reset by the pin (R175); start-up with the store checks
under way (R52); start-up with the poll round open (R177 step 7); or started (R178). -/
inductive Phase where
  | off
  | poweringUp
  | held
  | checking
  | polling
  | running
deriving DecidableEq, Repr

inductive PowerState where
  | run
  | dark
  | restingEntry
  | rest
  | restSample
deriving DecidableEq, Repr

/-- OPEN or CLOSED (R179). -/
inductive ConfigState where
  | opened
  | closed
deriving DecidableEq, Repr

inductive HeldCommand where
  | none
  | light
  | dark
deriving DecidableEq, Repr

inductive ResetCause where
  | power
  | pin
  | linkA
  | linkB
  | service
deriving DecidableEq, Repr

structure Chip where
  phase     : Phase
  /-- The reset pin is driven low (chapter 12, "Pins"); an input that no reset changes. -/
  pinLow    : Bool
  /-- R178: a cold start-up whose step 8 has not been completed. -/
  coldStart : Bool
  straps    : StrapPins
  causes    : List ResetCause
  config    : ConfigState
  power     : PowerState
  held      : HeldCommand
  restWake  : Nat
  /-- RESETs whose answer has been sent or dropped: the warm reset begins (R157, R172). -/
  resetDue  : List WarmCause
deriving DecidableEq, Repr

/-! ## Settings and timebase (chapter 12) -/

/-- The settings of chapter 12, in the unit of its table, but for the job levels (composer), the
phase table (store) and the dark policies (driver). -/
structure Settings where
  holdTime          : Nat
  blankAfter        : Nat
  thermalInterval   : Nat
  k                 : Nat
  rho               : Nat
  fCap              : Nat
  sensorMap         : List Nat
  assumedAmbient    : Int
  pilotInterval     : Nat
  scrubInterval     : Nat
  reportInterval    : Nat
  driftSaveInterval : Nat
  restWakeInterval  : Nat
deriving DecidableEq, Repr

/-- R173: the millisecond count and the countdowns of the ticks, in milliseconds. -/
structure Timebase where
  millis    : Nat
  thermal   : Nat
  pilot     : Nat
  scrub     : Nat
  report    : Nat
  driftSave : Nat
deriving DecidableEq, Repr

/-! ## Render engine (R2) -/

structure ZoneStatus where
  built          : Bool
  generation     : Nat
  saturated      : Nat
  fallbackBlocks : Nat
deriving DecidableEq, Repr

structure Render where
  table       : Table Mat3
  zones       : List ZoneStatus
  applied     : List (Rgb Nat)
  pendingGain : Option (List (Rgb Nat))
  limited     : List Nat
deriving DecidableEq, Repr

/-! ## Driver port (R14, R19 to R23) -/

inductive Priming where
  | active
  | stopped
  | priming
  | waiting
deriving DecidableEq, Repr

structure Bank where
  mode    : BankMode
  latch   : Rgb Nat
  policy  : DarkPolicy
  priming : Priming
  timer   : Nat
deriving DecidableEq, Repr

structure Driver where
  banks      : List Bank
  /-- The rows delivered to RENDER banks that still show them: index and drive triples. -/
  rows       : Table (List (Rgb Nat))
  load       : List (Rgb Nat)
  pilotLoad  : Rgb Nat
  samples    : Nat
  pilotDrive : Rgb Nat
deriving DecidableEq, Repr

/-! ## Composer (R105) -/

structure Levels where
  gain    : Nat
  thermal : Nat
  build   : Nat
  scrub   : Nat
deriving DecidableEq, Repr

/-- One emitter's wear table: eight breakpoints of hours and value (R41). -/
abbrev WearTable := List (Nat × Nat)

/-- What GAIN takes at its start (R91). -/
structure GainInputs where
  temps   : List Int
  wear    : List (Rgb Nat)
  kappa   : Rgb Nat
  trim    : Rgb Int
  ceiling : Nat
  tRef    : Int
  beta    : Rgb Nat
  tables  : Rgb WearTable
deriving DecidableEq, Repr

/-- What THERMAL takes at its start (R63). -/
structure LoadTake where
  load      : List (Rgb Nat)
  pilotLoad : Rgb Nat
  samples   : Nat
  ticks     : Nat
  sensed    : List Int
  rho       : Nat
  k         : Nat
deriving DecidableEq, Repr

/-- The running job's work. BUILD's place stands in the staging buffer; SCRUB's in the scrub
pointer, with the blocks left in its batch and whether it stands at its preemption point. -/
inductive Work where
  | gain (inputs : GainInputs)
  | thermal (taken : LoadTake)
  | build
  | scrub (left : Nat) (atPoint : Bool)
deriving DecidableEq, Repr

structure Running where
  level : Nat
  work  : Work
deriving DecidableEq, Repr

/-- A suspension stack entry (R116): the kind, the recorded level, the blocks left. -/
structure Suspended where
  kind  : JobKind
  level : Nat
  left  : Nat
deriving DecidableEq, Repr

/-- The staging buffer's content while FILLING (R28, R29). -/
structure Filling where
  zone           : Nat
  generation     : Nat
  target         : Mat3
  fallback       : Mat3
  blocksDone     : Nat
  matrices       : List (Nat × Mat3)
  saturated      : Nat
  fallbackBlocks : Nat
deriving DecidableEq, Repr

/-- The staging buffer's content once STAGED (R28, R35). -/
structure StagedZone where
  zone           : Nat
  generation     : Nat
  matrices       : List (Nat × Mat3)
  saturated      : Nat
  fallbackBlocks : Nat
deriving DecidableEq, Repr

inductive Staging where
  | empty
  | filling (f : Filling)
  | staged (z : StagedZone)
deriving DecidableEq, Repr

inductive BlockState where
  | blank
  | valid
  | invalid
  | programming
deriving DecidableEq, Repr

/-- What a block read hands to its job: the block, its state at the grant, its content. -/
structure BlockRead where
  block   : Nat
  state   : BlockState
  content : Stored
deriving DecidableEq, Repr

structure Composer where
  levels         : Levels
  gainPending    : Bool
  thermalPending : Bool
  scrubPending   : Bool
  buildSet       : List Nat
  running        : Option Running
  parked         : Bool
  stack          : List Suspended
  staging        : Staging
  /-- R118: a read that completed while the composer was stopped. -/
  deferred       : Option BlockRead
  suspensions    : Nat
deriving DecidableEq, Repr

/-! ## Calibration store and arbiter (R39, R53) -/

/-- A block program's content (R46). -/
structure BlockProgram where
  block   : Nat
  records : List Byte
  crc     : U16
deriving DecidableEq, Repr

/-- A program request of the service line (R53). -/
inductive ServiceProgram where
  | block (p : BlockProgram)
  | identity (fields : List Byte)
deriving DecidableEq, Repr

/-- The waiting requests, one or none for each requester (R53). A drift save request carries the
REST mark or not (R87). -/
structure Waiting where
  linkA     : Option BlockProgram
  linkB     : Option BlockProgram
  service   : Option ServiceProgram
  composer  : Option Nat
  driftSave : Option Bool
deriving DecidableEq, Repr

/-- A grant in force (R55). -/
inductive Grant where
  | read (block : Nat)
  | program (who : Requester) (p : BlockProgram)
  | identity (fields : List Byte)
  | save (restMark : Bool)
deriving DecidableEq, Repr

/-- The store's access port: free, held by the start-up checks (R52), or granted. -/
inductive PortUse where
  | free
  | startUp
  | granted (g : Grant)
deriving DecidableEq, Repr

/-- The constants in use (R42), with the tile serial in use. -/
structure Constants where
  serial   : List Byte
  tRef     : Int
  beta     : Rgb Nat
  tables   : Rgb WearTable
  ref      : Rgb Nat
  fallback : Mat3
deriving DecidableEq, Repr

structure Store where
  slots           : Table Stored
  blockStates     : List BlockState
  identity        : Stored
  identityValid   : Bool
  constants       : Constants
  drift           : Stored
  driftValid      : Bool
  driftReset      : Bool
  scrubPointer    : Nat
  programFailures : Nat
  scrubFailures   : Nat
  saveFailures    : Nat
  waiting         : Waiting
  port            : PortUse
  phaseTable      : List Requester
  phasePointer    : Nat
deriving DecidableEq, Repr

/-! ## Thermal estimator (R58) -/

structure Round where
  owed    : List Nat
  thermal : Bool
  sample  : Bool
  start   : Bool
deriving DecidableEq, Repr

structure Thermal where
  temps           : List Int
  meanLoad        : List Nat
  ticks           : Nat
  round           : Option Round
  sampleAfterTake : Bool
deriving DecidableEq, Repr

/-! ## Wear unit (R73) -/

inductive ClearMark where
  | clear
  | set
  | taken
deriving DecidableEq, Repr

inductive PilotState where
  | idle
  | settle (e : Emitter)
  | read (e : Emitter)
deriving DecidableEq, Repr

inductive PilotResult where
  | none
  | applied
  | missed
  | bad
  | skipped
  | noPrediction
deriving DecidableEq, Repr

structure Wear where
  zones       : List (Rgb Nat)
  pilot       : Rgb Nat
  kappa       : Rgb Nat
  trim        : Rgb Int
  clearMarks  : List ClearMark
  state       : PilotState
  settleTimer : Nat
  staleRead   : Option Emitter
  changed     : Bool
  results     : Rgb PilotResult
  ratios      : Rgb Nat
  misses      : Nat
  sequences   : Nat
deriving DecidableEq, Repr

/-! ## Gain results (R90) -/

structure ZoneGain where
  capacity   : Nat
  limiting   : Emitter
  efficiency : Rgb Nat
  short      : Bool
  capped     : Bool
deriving DecidableEq, Repr

structure GainResults where
  zones        : List ZoneGain
  tileCapacity : Nat
  weakest      : Nat
  shortCount   : Nat
  cappedCount  : Nat
  ceilingUsed  : Nat
  runs         : Nat
deriving DecidableEq, Repr

/-! ## Sensor bus controller (R121) -/

inductive SensorRequest where
  | temp (q : Nat)
  | light (e : Emitter)
deriving DecidableEq, Repr

/-- Who placed a sensor request: the thermal estimator or the wear unit (R122). -/
inductive SensorUser where
  | thermal
  | wear
deriving DecidableEq, Repr

structure QueuedRequest where
  request    : SensorRequest
  requesters : List SensorUser
deriving DecidableEq, Repr

/-- The in-flight transaction; the deadline is the milliseconds given from its start (R123). -/
structure Transaction where
  request    : SensorRequest
  requesters : List SensorUser
  tag        : Nat
  deadline   : Nat
deriving DecidableEq, Repr

structure TempRecord where
  misses  : Nat
  reading : Option Int
deriving DecidableEq, Repr

structure LightRecord where
  misses   : Nat
  readings : Rgb (Option Nat)
deriving DecidableEq, Repr

structure SensorCounts where
  good   : Nat
  bad    : Nat
  missed : Nat
deriving DecidableEq, Repr

structure Sensors where
  queue         : List QueuedRequest
  inFlight      : Option Transaction
  tag           : Nat
  temps         : List TempRecord
  light         : LightRecord
  /-- The counts of temperature sensors 0 to 3 and of the light sensor. -/
  counts        : List SensorCounts
  late          : Nat
  checkFailures : Nat
deriving DecidableEq, Repr

/-! ## Authority unit (R132) -/

inductive OutputState where
  | rendering
  | holding
  | blanked
deriving DecidableEq, Repr

structure Authority where
  holder      : Option Link
  pendingTake : Option Link
  output      : OutputState
  /-- Time in HOLDING, in milliseconds. -/
  holdingTime : Nat
  record      : WallRecord
  lastSent    : Option Nat
  reports     : Nat
  changes     : Nat
  holdings    : Nat
deriving DecidableEq, Repr

/-! ## Link ports (R152) and the authority unit's view of each link (R132, R133) -/

inductive LinkState where
  | down
  | training
  | creditPending
  | ready
deriving DecidableEq, Repr

/-- The result codes (R158). -/
inductive Result where
  | done
  | clamped
  | kept
  | failed
  | refusedBad
  | refusedLocked
  | refusedState
deriving DecidableEq, Repr

/-- A message waiting in a prompt queue. -/
structure Message where
  kind : Byte
  tag  : Byte
  body : List Byte
deriving DecidableEq, Repr

/-- What an ANSWER on a link ends: the handling of a prompt, of a RESET, or a BLOCK. -/
inductive AnswerTo where
  | prompt
  | resetPrompt
  | bulk
deriving DecidableEq, Repr

/-- An outgoing message of a link port (R159). -/
inductive Outgoing where
  | answer (ends : AnswerTo) (tag kind : Byte) (result : Result) (content : List Byte)
  | credit (n : Nat)
  | report (body : List Byte)
deriving DecidableEq, Repr

structure BulkEntry where
  tag     : Byte
  program : BlockProgram
deriving DecidableEq, Repr

inductive Outstanding where
  | none
  | current
  | orphaned (block : Nat)
deriving DecidableEq, Repr

structure LinkCounts where
  checkFailures  : Nat
  notReady       : Nat
  unexpectedInit : Nat
  promptOverflow : Nat
  overrun        : Nat
  blockRefusals  : Nat
  sequenceGaps   : Nat
  rowCheck       : Nat
  rowIndex       : Nat
  rowLength      : Nat
deriving DecidableEq, Repr

structure LinkPort where
  state         : LinkState
  credits       : Nat
  prompts       : List Message
  /-- The answer to the last prompt handled is still to be sent (R157). -/
  awaiting      : Bool
  bulk          : List BulkEntry
  outstanding   : Outstanding
  sends         : List Outgoing
  lastSequence  : Option Nat
  resend        : Nat
  counts        : LinkCounts
  stored        : Option WallRecord
  age           : Nat
  fresh         : Bool
  rowsDiscarded : Nat
  /-- The units put on the transmit pair since the last reset, oldest first (log 21). -/
  wire          : List (List Byte)
deriving DecidableEq, Repr

/-! ## Service line (R165) -/

inductive LineState where
  | awaitSync
  | locked
deriving DecidableEq, Repr

/-- The program the line has at the store: its kind byte and tag, and whether a return to
AWAIT_SYNC has come since, so that its answer is dropped (R167). -/
structure ServiceOutstanding where
  tag     : Byte
  kind    : Byte
  dropped : Bool
deriving DecidableEq, Repr

structure HeldProgram where
  tag     : Byte
  program : ServiceProgram
deriving DecidableEq, Repr

structure ServiceAnswer where
  tag     : Byte
  kind    : Byte
  result  : Result
  content : List Byte
  /-- It answers a RESET (R172). -/
  isReset : Bool
deriving DecidableEq, Repr

structure ServiceLine where
  line            : LineState
  bitTime         : Option Nat
  /-- `none` is WAIT_START; in IN_FRAME, the bytes received since the start byte. -/
  receiving       : Option (List Byte)
  outstanding     : Option ServiceOutstanding
  hold            : Option HeldProgram
  sends           : List ServiceAnswer
  /-- Milliseconds since the last byte received, as far as a command has said. -/
  idle            : Nat
  crcFailures     : Nat
  framingDiscards : Nat
  syncRejects     : Nat
  answerDrops     : Nat
  /-- The bytes put on the transmit wire since the last reset: the unframed 0x6C of each sync and
  the answer frames, in order (log 21). -/
  wire            : List Byte
deriving DecidableEq, Repr

/-! ## The whole -/

structure State where
  chip      : Chip
  settings  : Settings
  timebase  : Timebase
  render    : Render
  driver    : Driver
  composer  : Composer
  store     : Store
  thermal   : Thermal
  wear      : Wear
  gain      : GainResults
  sensors   : Sensors
  authority : Authority
  linkA     : LinkPort
  linkB     : LinkPort
  service   : ServiceLine
  /-- The model's own: how many free values have been drawn (log 6). -/
  freeDraws : Nat
  /-- The commands waiting, first in, first out. -/
  pending   : List Instr
deriving DecidableEq, Repr

/-- No step of the 6C stops the machine with a fault (log 25). -/
inductive Fault where
deriving DecidableEq, Repr

inductive Refusal where
  /-- Raised by `exec`'s arm of a command that has no meaning yet; no arm raises it now. Safe. -/
  | notModelled (mnemonic : String)
deriving DecidableEq, Repr

/-! ## After a POWER reset -/

/-- The identity matrix in code/16384 (R42, R132). -/
def diagonal : Mat3 := ⟨⟨16384, 0, 0⟩, ⟨0, 16384, 0⟩, ⟨0, 0, 16384⟩⟩

def Rgb.zero : Rgb Nat := ⟨0, 0, 0⟩

/-- Settings take these defaults at every reset (chapter 12, settings table). -/
def Settings.default : Settings where
  holdTime := 100
  blankAfter := 10
  thermalInterval := 250
  k := 32
  rho := 288
  fCap := 98304
  sensorMap := [0, 1, 2, 3]
  assumedAmbient := 400
  pilotInterval := 10
  scrubInterval := 2000
  reportInterval := 1000
  driftSaveInterval := 10
  restWakeInterval := 30

/-- R173: at every reset end, from the defaults. -/
def Timebase.reset : Timebase where
  millis := 0
  thermal := 250
  pilot := 600000
  scrub := 2000
  report := 1000
  driftSave := 600000

/-- R42: the wear table of an invalid identity record. -/
def defaultWearTable : WearTable :=
  [(0, 65536), (1, 65536), (2, 65536), (3, 65536), (4, 65536), (5, 65536), (6, 65536), (7, 65536)]

/-- R42: the constants in use when the identity record is INVALID. -/
def Constants.default : Constants where
  serial := List.replicate 8 0
  tRef := 400
  beta := Rgb.zero
  tables := ⟨defaultWearTable, defaultWearTable, defaultWearTable⟩
  ref := Rgb.zero
  fallback := diagonal

/-- R56: the phase table after every reset. -/
def defaultPhaseTable : List Requester :=
  [.composer, .linkA, .composer, .linkB, .composer, .service, .composer, .driftSave,
   .composer, .linkA, .composer, .linkB, .composer, .service, .composer, .driftSave]

/-- An item of `n` erased bytes: every byte reads 0xFF (chapter 13), the mark byte too. -/
def erased (n : Nat) : Stored := ⟨List.replicate n 0xFF, 0xFFFF, false⟩

/-- R14, after a POWER reset. -/
def Bank.reset : Bank := ⟨.render, Rgb.zero, .park, .active, 0⟩

def Chip.reset : Chip where
  phase := .checking
  pinLow := false
  coldStart := true
  straps := ⟨0, 0, false⟩
  causes := [.power]
  config := .opened
  power := .run
  held := .none
  restWake := 0
  resetDue := []

/-- R2, after a POWER reset. -/
def Render.reset : Render where
  table := []
  zones := List.replicate 16 ⟨false, 0, 0, 0⟩
  applied := List.replicate 16 Rgb.zero
  pendingGain := none
  limited := List.replicate 16 0

def Driver.reset : Driver where
  banks := List.replicate 16 Bank.reset
  rows := []
  load := List.replicate 16 Rgb.zero
  pilotLoad := Rgb.zero
  samples := 0
  pilotDrive := Rgb.zero

/-- R105 and R24, after any reset. -/
def Composer.reset : Composer where
  levels := ⟨2, 2, 1, 0⟩
  gainPending := false
  thermalPending := false
  scrubPending := false
  buildSet := List.range 16
  running := none
  parked := false
  stack := []
  staging := .empty
  deferred := none
  suspensions := 0

def Waiting.none : Waiting := ⟨Option.none, Option.none, Option.none, Option.none, Option.none⟩

/-- R39, R53: the store after a POWER reset, before its checks; the non-volatile items erased
(log 5), the checked states as log 23 names them. -/
def Store.reset : Store where
  slots := []
  blockStates := List.replicate 256 .blank
  identity := erased 184
  identityValid := false
  constants := Constants.default
  drift := erased 321
  driftValid := false
  driftReset := false
  scrubPointer := 0
  programFailures := 0
  scrubFailures := 0
  saveFailures := 0
  waiting := Waiting.none
  port := .startUp
  phaseTable := defaultPhaseTable
  phasePointer := 0

/-- R58, after a POWER reset. -/
def Thermal.reset : Thermal where
  temps := List.replicate 16 400
  meanLoad := List.replicate 16 0
  ticks := 0
  round := none
  sampleAfterTake := false

/-- R73 with the values of R44 that stand until the drift record has been checked. -/
def Wear.reset : Wear where
  zones := List.replicate 16 Rgb.zero
  pilot := Rgb.zero
  kappa := ⟨65536, 65536, 65536⟩
  trim := ⟨0, 0, 0⟩
  clearMarks := List.replicate 16 .clear
  state := .idle
  settleTimer := 0
  staleRead := none
  changed := false
  results := ⟨.none, .none, .none⟩
  ratios := Rgb.zero
  misses := 0
  sequences := 0

/-- R90, after a POWER reset. -/
def GainResults.reset : GainResults where
  zones := List.replicate 16 ⟨0, .r, Rgb.zero, false, false⟩
  tileCapacity := 0
  weakest := 0
  shortCount := 0
  cappedCount := 0
  ceilingUsed := 0
  runs := 0

/-- R121, after a POWER reset. -/
def Sensors.reset : Sensors where
  queue := []
  inFlight := none
  tag := 0
  temps := List.replicate 4 ⟨0, none⟩
  light := ⟨0, ⟨none, none, none⟩⟩
  counts := List.replicate 5 ⟨0, 0, 0⟩
  late := 0
  checkFailures := 0

/-- R132: the wall record in force after a POWER reset. -/
def powerOnRecord : WallRecord := ⟨0, diagonal, 49152⟩

def Authority.reset : Authority where
  holder := none
  pendingTake := none
  output := .blanked
  holdingTime := 0
  record := powerOnRecord
  lastSent := none
  reports := 0
  changes := 0
  holdings := 0

/-- R152, R133, R145: after any reset. -/
def LinkPort.reset : LinkPort where
  state := .down
  credits := 0
  prompts := []
  awaiting := false
  bulk := []
  outstanding := .none
  sends := []
  lastSequence := none
  resend := 0
  counts := ⟨0, 0, 0, 0, 0, 0, 0, 0, 0, 0⟩
  stored := none
  age := 0
  fresh := false
  rowsDiscarded := 0
  wire := []

/-- R165: after any reset. -/
def ServiceLine.reset : ServiceLine where
  line := .awaitSync
  bitTime := none
  receiving := none
  outstanding := none
  hold := none
  sends := []
  idle := 0
  crcFailures := 0
  framingDiscards := 0
  syncRejects := 0
  answerDrops := 0
  wire := []

/-- The machine right after a POWER reset: start-up has begun and its checks hold the store. -/
def State.reset : State where
  chip := Chip.reset
  settings := Settings.default
  timebase := Timebase.reset
  render := Render.reset
  driver := Driver.reset
  composer := Composer.reset
  store := Store.reset
  thermal := Thermal.reset
  wear := Wear.reset
  gain := GainResults.reset
  sensors := Sensors.reset
  authority := Authority.reset
  linkA := LinkPort.reset
  linkB := LinkPort.reset
  service := ServiceLine.reset
  freeDraws := 0
  pending := []

/-! ## One field replaced (lemmas in Laws/State.lean) -/

def State.setChip (s : State) (v : Chip) : State := { s with chip := v }
def State.setSettings (s : State) (v : Settings) : State := { s with settings := v }
def State.setTimebase (s : State) (v : Timebase) : State := { s with timebase := v }
def State.setRender (s : State) (v : Render) : State := { s with render := v }
def State.setDriver (s : State) (v : Driver) : State := { s with driver := v }
def State.setComposer (s : State) (v : Composer) : State := { s with composer := v }
def State.setStore (s : State) (v : Store) : State := { s with store := v }
def State.setThermal (s : State) (v : Thermal) : State := { s with thermal := v }
def State.setWear (s : State) (v : Wear) : State := { s with wear := v }
def State.setGain (s : State) (v : GainResults) : State := { s with gain := v }
def State.setSensors (s : State) (v : Sensors) : State := { s with sensors := v }
def State.setAuthority (s : State) (v : Authority) : State := { s with authority := v }
def State.setService (s : State) (v : ServiceLine) : State := { s with service := v }
def State.setPending (s : State) (v : List Instr) : State := { s with pending := v }

/-- The context of one link port. -/
def State.link (s : State) : Link → LinkPort
  | .a => s.linkA
  | .b => s.linkB

def State.setLink (s : State) (l : Link) (v : LinkPort) : State :=
  match l with
  | .a => { s with linkA := v }
  | .b => { s with linkB := v }

end Sys2Proof.Machine
end

