-- ==== Sys2Proof/Machine/Ops.lean ====
section
/-! DEFINITION. The named operations over tables, lists of zones, colour triples, counters, bytes
and the CRC-16 that every block uses. -/

namespace Sys2Proof.Machine

/-! ## Sparse tables -/

/-- What the table reads at an index: the entry listed, or the default `d`. -/
def Table.get {α : Type} (d : α) : Table α → Nat → α
  | [], _ => d
  | (k, v) :: t, i => if k = i then v else Table.get d t i

/-- Write one index, keeping the canonical form: writing the default removes the entry. -/
def Table.put {α : Type} [DecidableEq α] (d : α) : Table α → Nat → α → Table α
  | [], i, v => if v = d then [] else [(i, v)]
  | (k, w) :: t, i, v =>
    if i < k then (if v = d then (k, w) :: t else (i, v) :: (k, w) :: t)
    else if i = k then (if v = d then t else (i, v) :: t)
    else (k, w) :: Table.put d t i v

/-- Write a list of entries, in order. -/
def Table.putAll {α : Type} [DecidableEq α] (d : α) (t : Table α) (es : List (Nat × α)) : Table α :=
  es.foldl (fun t e => Table.put d t e.1 e.2) t

/-- The canonical form: indices strictly rising from `lo` on, no entry equal to the default. -/
def Table.wfFrom {α : Type} [DecidableEq α] (d : α) : Nat → Table α → Bool
  | _, [] => true
  | lo, (k, v) :: t => decide (lo ≤ k) && !decide (v = d) && Table.wfFrom d (k + 1) t

def Table.wf {α : Type} [DecidableEq α] (d : α) (t : Table α) : Bool := Table.wfFrom d 0 t

/-- A render-table entry of a part that has just had power (R2). -/
def zeroMatrix : Mat3 := ⟨⟨0, 0, 0⟩, ⟨0, 0, 0⟩, ⟨0, 0, 0⟩⟩

/-- What a block slot that nothing has programmed reads as (log 5). -/
def erasedBlock : Stored := erased 1152

/-! ## Colour triples and zone lists -/

def Rgb.get {α : Type} (t : Rgb α) : Emitter → α
  | .r => t.r
  | .g => t.g
  | .b => t.b

def Rgb.set {α : Type} (t : Rgb α) (e : Emitter) (v : α) : Rgb α :=
  match e with
  | .r => { t with r := v }
  | .g => { t with g := v }
  | .b => { t with b := v }

def Rgb.map {α β : Type} (f : α → β) (t : Rgb α) : Rgb β := ⟨f t.r, f t.g, f t.b⟩

def Rgb.zip {α β γ : Type} (f : α → β → γ) (t : Rgb α) (u : Rgb β) : Rgb γ :=
  ⟨f t.r u.r, f t.g u.g, f t.b u.b⟩

def Rgb.toList {α : Type} (t : Rgb α) : List α := [t.r, t.g, t.b]

def Rgb.add (t u : Rgb Nat) : Rgb Nat := Rgb.zip (· + ·) t u

def Rgb.sum (l : List (Rgb Nat)) : Rgb Nat := l.foldl Rgb.add Rgb.zero

/-- A triple with one value on emitter `e` and 0 on the others. -/
def Rgb.only (e : Emitter) (v : Nat) : Rgb Nat := Rgb.set Rgb.zero e v

def Emitter.index : Emitter → Nat
  | .r => 0
  | .g => 1
  | .b => 2

/-- Change one entry of a list. -/
def setAt {α : Type} (l : List α) (i : Nat) (f : α → α) : List α := l.modify i f

/-! ## Bounds -/

def clampInt (lo hi v : Int) : Int := max lo (min hi v)

/-- Add to a counter that stops at its bound. -/
def satAdd (bound n k : Nat) : Nat := min bound (n + k)

/-- Raise a 16-bit saturating counter by one. -/
def inc16 (n : Nat) : Nat := satAdd 65535 n 1

/-- Raise a 32-bit saturating counter by one. -/
def inc32 (n : Nat) : Nat := satAdd 4294967295 n 1

/-- Raise a 16-bit counter that wraps to 0. -/
def wrap16 (n : Nat) : Nat := (n + 1) % 65536

/-! ## Bytes (chapter 13): little-endian, two's complement -/

def leBytes (n v : Nat) : List Byte := (List.range n).map fun i => BitVec.ofNat 8 (v / 256 ^ i)

def leNat : List Byte → Nat
  | [] => 0
  | b :: bs => b.toNat + 256 * leNat bs

/-- The signed value of a little-endian field. -/
def leInt (bs : List Byte) : Int :=
  let v := leNat bs
  if 2 * v < 256 ^ bs.length then v else (v : Int) - 256 ^ bs.length

def leSigned (n : Nat) (v : Int) : List Byte := leBytes n (v % 256 ^ n).toNat

def putU8 (v : Nat) : List Byte := leBytes 1 v
def putU16 (v : Nat) : List Byte := leBytes 2 v
def putU32 (v : Nat) : List Byte := leBytes 4 v
def putU48 (v : Nat) : List Byte := leBytes 6 v
def putS8 (v : Int) : List Byte := leSigned 1 v
def putS16 (v : Int) : List Byte := leSigned 2 v
def putS32 (v : Int) : List Byte := leSigned 4 v
def putFlag (b : Bool) : List Byte := putU8 (if b then 1 else 0)

/-- An optional field: a presence byte, then the value or as many zero bytes (R189). -/
def putOption {α : Type} (zeros : Nat) (f : α → List Byte) : Option α → List Byte
  | none => putU8 0 ++ List.replicate zeros 0
  | some v => putU8 1 ++ f v

/-- `len` bytes at an offset. -/
def slice (off len : Nat) (bs : List Byte) : List Byte := (bs.drop off).take len

def getU16 (off : Nat) (bs : List Byte) : Nat := leNat (slice off 2 bs)
def getU32 (off : Nat) (bs : List Byte) : Nat := leNat (slice off 4 bs)
def getU48 (off : Nat) (bs : List Byte) : Nat := leNat (slice off 6 bs)
def getS16 (off : Nat) (bs : List Byte) : Int := leInt (slice off 2 bs)
def getS8 (off : Nat) (bs : List Byte) : Int := leInt (slice off 1 bs)

/-- Nine signed coefficients, row by row (chapter 13: pixel record, fallback record, target). -/
def getMat (off : Nat) (bs : List Byte) : Mat3 where
  r0 := ⟨getS16 off bs, getS16 (off + 2) bs, getS16 (off + 4) bs⟩
  r1 := ⟨getS16 (off + 6) bs, getS16 (off + 8) bs, getS16 (off + 10) bs⟩
  r2 := ⟨getS16 (off + 12) bs, getS16 (off + 14) bs, getS16 (off + 16) bs⟩

def putRow (r : Row3) : List Byte := putS16 r.x0 ++ putS16 r.x1 ++ putS16 r.x2

def putMat (m : Mat3) : List Byte := putRow m.r0 ++ putRow m.r1 ++ putRow m.r2

/-- A mask with bit `n` for each member `n` below `bits` (R189). -/
def maskOf (bits : Nat) (member : Nat → Bool) : Nat :=
  ((List.range bits).map fun n => if member n then 2 ^ n else 0).sum

/-! ## CRC-16 (R188) -/

/-- One shift of the register, with the polynomial when a 1 is shifted out. -/
def crcShift (r : U16) : U16 := if r.msb then (r <<< 1) ^^^ 0x1021 else r <<< 1

def crcByte (r : U16) (b : Byte) : U16 :=
  let r := r ^^^ (b.zeroExtend 16 <<< 8)
  crcShift (crcShift (crcShift (crcShift (crcShift (crcShift (crcShift (crcShift r)))))))

def crc16 (bs : List Byte) : U16 := bs.foldl crcByte 0xFFFF

/-- A CRC as carried: a 16-bit field, low byte first. -/
def getCrc (off : Nat) (bs : List Byte) : U16 := BitVec.ofNat 16 (getU16 off bs)

end Sys2Proof.Machine
end

