-- ==== Sys2Proof/Machine/Flags.lean ====
section
/-! DEFINITION. The conditions and figures the manual derives from the state: the geometry, the
rendering condition, dark-hold and what a bank carries, sensor health, usable links, the
composer's stop, BUILD's pending, the built generation. They are computed, never stored. -/

namespace Sys2Proof.Machine

/-! ## Geometry (R1, R39) -/

/-- W: 32, 64, 96 or 128 by the latched width code (R176). -/
def State.width (s : State) : Nat := 32 * (s.chip.straps.width.val + 1)

/-- H, by the latched height code. -/
def State.height (s : State) : Nat := 32 * (s.chip.straps.height.val + 1)

/-- P = W×H. -/
def State.pixels (s : State) : Nat := s.width * s.height

/-- P_z: the pixels of one zone. -/
def State.zonePixels (s : State) : Nat := (s.width / 4) * (s.height / 4)

def State.blockCount (s : State) : Nat := (s.width / 8) * (s.height / 8)

/-- R1: the zone of pixel (x, y). -/
def State.zoneOf (s : State) (x y : Nat) : Nat := 4 * (y / (s.height / 4)) + x / (s.width / 4)

/-- R1: the bank of row y. -/
def bankOf (y : Nat) : Nat := y / 8

/-- R1: the quadrant of zone z = 4×zy + zx. -/
def quadrantOf (z : Nat) : Nat := 2 * (z / 4 / 2) + z % 4 / 2

/-- R30: the zone that holds block i = by×(W/8) + bx. -/
def State.zoneOfBlock (s : State) (i : Nat) : Nat :=
  4 * (i / (s.width / 8) / (s.height / 32)) + i % (s.width / 8) / (s.width / 32)

/-- R30: a zone's blocks in ascending block index. -/
def State.zoneBlocks (s : State) (z : Nat) : List Nat :=
  (List.range s.blockCount).filter fun i => s.zoneOfBlock i == z

/-! ## Phase and timebase -/

/-- The part has power and its reset pin is not low. -/
def State.live (s : State) : Bool :=
  match s.chip.phase with
  | .checking | .polling | .running => true
  | .off | .poweringUp | .held => false

/-- Start-up has ended (R178). -/
def State.started (s : State) : Bool := s.chip.phase == .running

/-- REST or REST_SAMPLE. -/
def PowerState.resting : PowerState → Bool
  | .rest | .restSample => true
  | .run | .dark | .restingEntry => false

/-- R174: the timebase runs from the reset end in RUN, DARK and RESTING_ENTRY. -/
def State.timebaseRuns (s : State) : Bool := s.live && !s.chip.power.resting

/-- R118, R119: the composer is stopped in REST and REST_SAMPLE and until start-up ends. -/
def State.composerStopped (s : State) : Bool := !s.started || s.chip.power.resting

/-! ## Render engine and banks -/

/-- R3: RUN, RENDERING and CLOSED together. -/
def State.isRendering (s : State) : Bool :=
  s.chip.power == .run && s.authority.output == .rendering && s.chip.config == .closed

/-- R15: REST and REST_SAMPLE hold every bank dark; DARK and RESTING_ENTRY hold RENDER banks. -/
def darkHeld (p : PowerState) (b : Bank) : Bool :=
  match p with
  | .rest | .restSample => true
  | .dark | .restingEntry => b.mode == .render
  | .run => false

/-- What a bank's lanes carry (R15). -/
inductive Carries where
  | zero
  | nothing
  | latch
  | rows
deriving DecidableEq, Repr

def State.bank (s : State) (b : Nat) : Bank := s.driver.banks.getD b Bank.reset

/-- R15: the first row of the table whose condition holds. -/
def State.carries (s : State) (b : Nat) : Carries :=
  let bank := s.bank b
  if s.chip.config = .opened then .zero
  else if s.height / 8 ≤ b then .zero
  else if darkHeld s.chip.power bank then
    (match bank.policy with
     | .park => .zero
     | .float => .nothing)
  else if bank.priming = .priming ∨ bank.priming = .waiting then .zero
  else match bank.mode with
    | .direct => .latch
    | .render => if s.authority.output = .blanked then .zero else .rows

/-- R15: the drive triple the lanes carry for pixel (x, y). -/
def State.laneCode (s : State) (x y : Nat) : Rgb Nat :=
  match s.carries (bankOf y) with
  | .zero | .nothing => Rgb.zero
  | .latch => (s.bank (bankOf y)).latch
  | .rows => (Table.get [] s.driver.rows y).getD x Rgb.zero

/-- The driver-enable line is on from CLOSE (R179). -/
def State.driverEnable (s : State) : Bool := s.live && s.chip.config == .closed

/-- R38: the built generation, or none for MIXED. -/
def State.builtGeneration (s : State) : Option Nat :=
  match s.render.zones with
  | [] => none
  | z :: zs =>
    if (z :: zs).all fun y => y.built && y.generation == z.generation then some z.generation else none

/-! ## Sensors (R127) -/

inductive Health where
  | absent
  | live
  | suspect
  | lost
deriving DecidableEq, Repr

/-- Health from a miss count, for a record that holds a reading (R127). -/
def healthOfMisses (n : Nat) : Health := if n = 0 then .live else if n ≤ 2 then .suspect else .lost

def State.tempRecord (s : State) (q : Nat) : TempRecord := s.sensors.temps.getD q ⟨0, none⟩

def State.tempHealth (s : State) (q : Nat) : Health :=
  if q ∉ s.settings.sensorMap then .absent
  else if (s.tempRecord q).reading = none then .lost
  else healthOfMisses (s.tempRecord q).misses

def LightRecord.health (r : LightRecord) : Health :=
  if r.readings = ⟨none, none, none⟩ then .lost else healthOfMisses r.misses

/-- R59: LIVE or SUSPECT. -/
def State.sensorUsable (s : State) (q : Nat) : Bool :=
  match s.tempHealth q with
  | .live | .suspect => true
  | .absent | .lost => false

/-- R148: temperature sensors whose health is LOST. -/
def State.sensorsLost (s : State) : Nat :=
  ((List.range 4).filter fun q => s.tempHealth q == .lost).length

/-- Where an assigned sensor temperature comes from (R59, R71). -/
inductive SensedFrom where
  | quadrant
  | mean
  | ambient
deriving DecidableEq, Repr

/-- R59: the sensor temperature assigned to zone z, and its source. -/
def State.sensed (s : State) (z : Nat) : Int × SensedFrom :=
  let held := fun q => (s.tempRecord q).reading.getD 0
  let usable := (List.range 4).filter s.sensorUsable
  if s.sensorUsable (quadrantOf z) then (held (quadrantOf z), .quadrant)
  else if usable = [] then (s.settings.assumedAmbient, .ambient)
  else ((usable.map held).sum / (usable.length : Int), .mean)

/-! ## Links and authority -/

/-- R133: READY and FRESH. -/
def LinkPort.usable (p : LinkPort) : Bool := p.state == .ready && p.fresh

/-- R133: the time left until the authority link's age reaches the hold time; a free value while
no link holds authority (log 7). -/
def State.holdTimer (s : State) : Nat :=
  match s.authority.holder with
  | some l => s.settings.holdTime - (s.link l).age
  | none => (Config.idleHoldTimer s.timebase.millis).toNat

/-! ## Composer (R109, R113) -/

def Composer.runs (c : Composer) (k : JobKind) : Bool :=
  match c.running with
  | some ⟨_, .gain _⟩ => k == .gain
  | some ⟨_, .thermal _⟩ => k == .thermal
  | some ⟨_, .build⟩ => k == .build
  | some ⟨_, .scrub _ _⟩ => k == .scrub
  | none => false

def Composer.stacked (c : Composer) (k : JobKind) : Bool := c.stack.any fun e => e.kind == k

/-- R109: BUILD's pending follows from the build set. -/
def Composer.buildPending (c : Composer) : Bool :=
  !c.buildSet.isEmpty && !c.runs .build && !c.parked && !c.stacked .build

def Composer.isPending (c : Composer) : JobKind → Bool
  | .gain => c.gainPending
  | .thermal => c.thermalPending
  | .build => c.buildPending
  | .scrub => c.scrubPending

def Levels.of (l : Levels) : JobKind → Nat
  | .gain => l.gain
  | .thermal => l.thermal
  | .build => l.build
  | .scrub => l.scrub

def Levels.set (l : Levels) (k : JobKind) (v : Nat) : Levels :=
  match k with
  | .gain => { l with gain := v }
  | .thermal => { l with thermal := v }
  | .build => { l with build := v }
  | .scrub => { l with scrub := v }

/-- The tie order (R113). -/
def tieOrder : List JobKind := [.gain, .thermal, .build, .scrub]

/-- R113: pending with a level of 0, 1 or 2. -/
def Composer.startable (c : Composer) (k : JobKind) : Bool := c.isPending k && c.levels.of k ≤ 2

/-- R113: of the startable kinds the one with the highest level, the first in tie order. -/
def Composer.chosen (c : Composer) : Option JobKind :=
  (tieOrder.filter c.startable).foldl
    (fun best k =>
      match best with
      | none => some k
      | some b => if c.levels.of b < c.levels.of k then some k else some b) none

end Sys2Proof.Machine
end

