-- ==== Sys2Proof/Machine/Driver.lean ====
section
/-! DEFINITION. The driver port (chapter 1): priming, what is still shown of the delivered rows,
latched sums, load samples, pilot drive. -/

namespace Sys2Proof.Machine

/-- R17: the priming state a bank takes where it stands: a PARK bank is ACTIVE; a FLOAT bank that
is dark-held is STOPPED, and one that ceases to be dark-held primes for 20 ms. -/
def Bank.primed (held : Bool) (b : Bank) : Bank :=
  match b.policy with
  | .park => { b with priming := .active, timer := 0 }
  | .float =>
    if held then { b with priming := .stopped, timer := 0 }
    else if b.priming = .stopped then { b with priming := .priming, timer := 20 }
    else b

/-- R17 for every bank, in the present power state. -/
def primeBanks (s : State) : State :=
  s.setDriver { s.driver with banks := s.driver.banks.map fun b => b.primed (darkHeld s.chip.power b) }

/-- R15: after a period in which a bank carried 0, a latch or nothing, its rows begin again from
0: only the rows of banks that show delivered rows are kept. -/
def forgetRows (s : State) : State :=
  s.setDriver
    { s.driver with rows := s.driver.rows.filter fun e => s.carries (bankOf e.1) == .rows }

/-- The banks after a change of power state, output state, mode, policy or configuration. -/
def settleBanks (s : State) : State := forgetRows (primeBanks s)

/-- R19: a row delivery replaces the latched codes of row y. -/
def deliverRow (y : Nat) (codes : List (Rgb Nat)) (s : State) : State :=
  s.setDriver { s.driver with rows := Table.put [] s.driver.rows y codes }

/-- R20: what row y adds to the latched sums of the zone column zx: W/4 pixels of what its bank
carries. -/
def State.rowSum (s : State) (zx y : Nat) : Rgb Nat :=
  match s.carries (bankOf y) with
  | .zero | .nothing => Rgb.zero
  | .latch => Rgb.map (s.width / 4 * ·) (s.bank (bankOf y)).latch
  | .rows =>
    Rgb.sum (((Table.get [] s.driver.rows y).drop (zx * (s.width / 4))).take (s.width / 4))

/-- R20: the latched sums of zone z, over its H/4 rows. -/
def State.latchedSum (s : State) (z : Nat) : Rgb Nat :=
  Rgb.sum ((List.range (s.height / 4)).map fun i => s.rowSum (z % 4) (z / 4 * (s.height / 4) + i))

/-- R23, R78: the drive the pilot emitters carry from a 1 ms tick on. -/
def State.pilotDriveAtTick (s : State) (sums : List (Rgb Nat)) : Rgb Nat :=
  if s.chip.config = .opened ∨ s.chip.power.resting then Rgb.zero
  else match s.wear.state with
    | .settle e | .read e => Rgb.only e 32768
    | .idle => Rgb.map (· / s.pixels) (Rgb.sum sums)

/-- The bound of a 40-bit accumulator (R21). -/
def maxLoad : Nat := 1099511627775

/-- R21, R23: one load sample. -/
def loadSample (s : State) : State :=
  let sums := (List.range 16).map s.latchedSum
  let drive := s.pilotDriveAtTick sums
  s.setDriver
    { s.driver with
      load := List.zipWith (Rgb.zip (satAdd maxLoad)) s.driver.load sums
      pilotLoad := Rgb.zip (satAdd maxLoad) s.driver.pilotLoad drive
      samples := inc32 s.driver.samples
      pilotDrive := drive }

/-- R22: the accumulators and the sample count set to 0. -/
def clearLoad (s : State) : State :=
  s.setDriver
    { s.driver with
      load := List.replicate 16 Rgb.zero, pilotLoad := Rgb.zero, samples := 0 }

/-- Set the drive of the pilot emitters at once (R78, R184). -/
def setPilotDrive (v : Rgb Nat) (s : State) : State :=
  s.setDriver { s.driver with pilotDrive := v }

/-- R18: at a frame head on the authority link every WAITING bank becomes ACTIVE. -/
def releaseWaiting (s : State) : State :=
  s.setDriver
    { s.driver with
      banks := s.driver.banks.map fun b =>
        if b.priming = .waiting then { b with priming := .active } else b }

/-- R18: bank b's priming timer has run out. -/
def primingExpired (b : Nat) (s : State) : State :=
  s.setDriver
    { s.driver with
      banks := setAt s.driver.banks b fun k =>
        if k.priming = .priming then
          { k with timer := 0
                   priming := (match k.mode with | .direct => .active | .render => .waiting) }
        else k }

/-- R16, R17, R18: one bank takes a mode; a WAITING bank that becomes DIRECT is ACTIVE at once. -/
def setBankMode (b : Nat) (m : BankMode) (s : State) : State :=
  settleBanks (s.setDriver
    { s.driver with
      banks := setAt s.driver.banks b fun k =>
        { k with mode := m
                 priming := if m = .direct ∧ k.priming = .waiting then .active else k.priming } })

/-- R16: a bank's direct latch replaced at once. -/
def setBankLatch (b : Nat) (v : Rgb Nat) (s : State) : State :=
  s.setDriver { s.driver with banks := setAt s.driver.banks b fun k => { k with latch := v } }

/-- R17: a bank's dark policy changed. -/
def setBankPolicy (b : Nat) (p : DarkPolicy) (s : State) : State :=
  settleBanks (s.setDriver
    { s.driver with banks := setAt s.driver.banks b fun k => { k with policy := p } })

/-- R14: a bank after a warm reset. -/
def Bank.warm (b : Bank) : Bank := { b with policy := .park, priming := .active, timer := 0 }

/-- A priming timer counts down with the timebase (R17). -/
def Bank.tick (b : Bank) : Bank :=
  if b.priming = .priming then { b with timer := b.timer - 1 } else b

def tickBanks (s : State) : State :=
  s.setDriver { s.driver with banks := s.driver.banks.map Bank.tick }

end Sys2Proof.Machine
end

