-- ==== Sys2Proof/Machine/Render.lean ====
section
/-! DEFINITION. The render engine (chapter 1): the arithmetic of a pixel, a row, and the moves of
staged zones and pending gain sets into force. -/

namespace Sys2Proof.Machine

/-- R5: one emitter's matrix product, clamped below at 0 and scaled back, rounded. -/
def productDrive (row : Row3) (p : Rgb Nat) : Nat :=
  let acc := row.x0 * (p.r : Int) + row.x1 * (p.g : Int) + row.x2 * (p.b : Int)
  if acc ≤ 0 then 0 else ((acc + 8192) / 16384).toNat

/-- R6: the row factor applied, rounded. -/
def applyFactor (d f : Nat) : Nat := (d * f + 32768) / 65536

/-- R7: the limiter: the drive codes, and whether the pixel was limited. -/
def limitPixel (d : Rgb Nat) : Rgb Nat × Bool :=
  let m := max d.r (max d.g d.b)
  if m ≤ 65535 then (d, false) else (Rgb.map (· * 65535 / m) d, true)

/-- R5 to R8: the drive codes of pixel (x, y) for input `p`, and whether it was limited. -/
def State.renderPixel (s : State) (x y : Nat) (p : Rgb Nat) : Rgb Nat × Bool :=
  let z := s.zoneOf x y
  if (s.render.zones.getD z ⟨false, 0, 0, 0⟩).built then
    let m := Table.get zeroMatrix s.render.table (y * s.width + x)
    let d : Rgb Nat := ⟨productDrive m.r0 p, productDrive m.r1 p, productDrive m.r2 p⟩
    limitPixel (Rgb.zip applyFactor d (s.render.applied.getD z Rgb.zero))
  else (Rgb.zero, false)

/-- The bound of a limited-pixel count (R2). -/
def maxLimited : Nat := 4294967295

/-- R4: a ROW computed and delivered, in ascending x; each limited pixel counts in its zone. -/
def computeRow (y : Nat) (pixels : List (Rgb Nat)) (s : State) : State :=
  let out := pixels.zipIdx.map fun e => s.renderPixel e.2 y e.1
  let limitedIn := fun z =>
    ((out.zipIdx.filter fun e => e.1.2 && s.zoneOf e.2 y == z)).length
  deliverRow y (out.map Prod.fst)
    (s.setRender
      { s.render with
        limited := s.render.limited.zipIdx.map fun e => satAdd maxLimited e.1 (limitedIn e.2) })

/-- R4: the render engine computes an admitted ROW while rendering and while the row's bank is in
RENDER mode and ACTIVE; otherwise it discards it. -/
def renderRow (y : Nat) (pixels : List (Rgb Nat)) (s : State) : State :=
  if s.isRendering ∧ (s.bank (bankOf y)).mode = .render ∧ (s.bank (bankOf y)).priming = .active then
    computeRow y pixels s
  else s

/-- R10, R117: a STAGED zone moves into the render table, and the parked BUILD ends or is pending
again. -/
def commitStaged (s : State) : State :=
  match s.composer.staging with
  | .staged z =>
    (s.setRender
      { s.render with
        table := Table.putAll zeroMatrix s.render.table z.matrices
        zones := setAt s.render.zones z.zone fun _ =>
          ⟨true, z.generation, z.saturated, z.fallbackBlocks⟩ }).setComposer
      { s.composer with staging := .empty, parked := false }
  | .empty | .filling _ => s

/-- R11, R13: a pending gain set becomes the applied gain set. -/
def applyPendingGain (s : State) : State :=
  match s.render.pendingGain with
  | some g => s.setRender { s.render with applied := g, pendingGain := none }
  | none => s

/-- R11, R12: staged work moves into force. -/
def moveIntoForce (s : State) : State := applyPendingGain (commitStaged s)

/-- R3, R12: while the engine is not rendering, work moves into force at once. -/
def settleRender (s : State) : State := if s.isRendering then s else moveIntoForce s

/-- R102: every factor above the new f_cap is lowered to it. -/
def capGains (cap : Nat) (s : State) : State :=
  s.setRender
    { s.render with
      applied := s.render.applied.map (Rgb.map (min cap))
      pendingGain := s.render.pendingGain.map (List.map (Rgb.map (min cap))) }

/-- R9: the total of the zone counts, saturating. -/
def State.limitedTotal (s : State) : Nat := min maxLimited s.render.limited.sum

/-- R9: every zone count set to 0. -/
def clearLimited (s : State) : State :=
  s.setRender { s.render with limited := List.replicate 16 0 }

end Sys2Proof.Machine
end

