-- ==== Sys2Proof/Machine/Gain.lean ====
section
/-! DEFINITION. Efficiencies, row factors and capacities (chapters 5 and 6): the arithmetic of a
GAIN run and its results. -/

namespace Sys2Proof.Machine

/-- R92: the temperature efficiency at temperature `t`; the loss truncates toward zero. -/
def tempEfficiency (beta : Nat) (tRef t : Int) : Nat :=
  (clampInt 32768 98304 (65536 - ((beta : Int) * (t - tRef)).tdiv 16)).toNat

/-- R76: a wear counter in sixteenths of a full-drive hour. -/
def wearHours (w : Nat) : Nat := w / 921600000

/-- R76: the wear efficiency at h16 = `h`, by the breakpoints of the table. R93 says of a saturated
counter (h16 305,419) that it lies beyond any breakpoint, though R41 admits hours up to 65535; the
model's choice is R76's lookup there too (log 32). -/
def wearEfficiency : WearTable → Nat → Nat
  | [], _ => 0
  | [(_, v)], _ => v
  | (h0, v0) :: (h1, v1) :: t, h =>
    if h < 16 * h0 then v0
    else if h < 16 * h1 then
      ((v0 : Int) + ((v1 : Int) - v0) * ((h : Int) - 16 * h0) / (16 * ((h1 : Int) - h0))).toNat
    else wearEfficiency ((h1, v1) :: t) h

/-- R94: the effective efficiency; the inner product is floored before κ is applied. -/
def effectiveEfficiency (etaT etaW kappa : Nat) : Nat :=
  max 16384 (min 98304 (etaT * etaW / 65536 * kappa / 65536))

/-- R95: the gain, the inverse of the efficiency. -/
def gainOf (eff : Nat) : Nat := 4294967296 / eff

/-- The trim factor τ (R96). -/
def trimFactor (trim : Int) : Nat := (65536 + 64 * trim).toNat

/-- R96: the raw row factor at ceiling `s`. -/
def rawFactor (eff tau s : Nat) : Nat := gainOf eff * tau / 65536 * s / 65536

/-- R97: the capacity of one emitter. -/
def emitterCapacity (eff tau : Nat) : Nat := min 65536 (eff * 65536 / tau)

/-- R97: the emitter with the least capacity, the first in the order R, G, B. -/
def limitingEmitter (c : Rgb Nat) : Emitter :=
  if c.r ≤ c.g ∧ c.r ≤ c.b then .r else if c.g ≤ c.b then .g else .b

/-- R92 to R94 for zone z: the three efficiencies from the inputs taken. -/
def GainInputs.efficiency (i : GainInputs) (z : Nat) : Rgb Nat :=
  let one := fun e =>
    effectiveEfficiency (tempEfficiency (Rgb.get i.beta e) i.tRef (i.temps.getD z 400))
      (wearEfficiency (Rgb.get i.tables e) (wearHours (Rgb.get (i.wear.getD z Rgb.zero) e)))
      (Rgb.get i.kappa e)
  ⟨one .r, one .g, one .b⟩

/-- R96 for zone z: the raw row factors. -/
def GainInputs.rawFactors (i : GainInputs) (z : Nat) : Rgb Nat :=
  Rgb.zip (fun eff trim => rawFactor eff (trimFactor trim) i.ceiling) (i.efficiency z) i.trim

/-- R96 to R98 for zone z, with the f_cap of the run's end. -/
def GainInputs.zoneGain (i : GainInputs) (fCap z : Nat) : ZoneGain :=
  let eff := i.efficiency z
  let c := Rgb.zip (fun f trim => emitterCapacity f (trimFactor trim)) eff i.trim
  let limiting := limitingEmitter c
  let raw := i.rawFactors z
  { capacity := Rgb.get c limiting
    limiting := limiting
    efficiency := eff
    short := decide (Rgb.get c limiting < i.ceiling)
    capped := decide (fCap < raw.r ∨ fCap < raw.g ∨ fCap < raw.b) }

/-- R96: the 48 row factors, each at most f_cap. -/
def GainInputs.factors (i : GainInputs) (fCap : Nat) : List (Rgb Nat) :=
  (List.range 16).map fun z => Rgb.map (min fCap) (i.rawFactors z)

/-- R98: the least capacity of a list of zones. -/
def leastCapacity (zs : List ZoneGain) : Nat := (zs.map (·.capacity)).foldl min 65536

/-- R97 to R99: the results of a run, after `runs` earlier ones. -/
def GainInputs.results (i : GainInputs) (fCap runs : Nat) : GainResults :=
  let zs := (List.range 16).map (i.zoneGain fCap)
  let least := leastCapacity zs
  { zones := zs
    tileCapacity := least
    weakest := zs.findIdx fun z => z.capacity == least
    shortCount := (zs.filter (·.short)).length
    cappedCount := (zs.filter (·.capped)).length
    ceilingUsed := i.ceiling
    runs := wrap16 runs }

end Sys2Proof.Machine
end

