-- ==== Sys2Proof/Machine/Store.lean ====
section
/-! DEFINITION. The calibration store and its arbiter (chapter 3): the checks of what it holds,
the records' layouts, the phase scan and the grants. -/

namespace Sys2Proof.Machine

/-! ## Checks -/

def allErased (c : Stored) : Bool := c.data.all (· == 0xFF) && c.crc == 0xFFFF

/-- The computed CRC over the covered bytes equals the stored one. -/
def crcMatches (c : Stored) : Bool := crc16 c.data == c.crc

/-- R40: a block's state from its stored content. -/
def checkBlock (c : Stored) : BlockState :=
  if c.openMark then .invalid
  else if allErased c then .blank
  else if crcMatches c then .valid
  else .invalid

/-- R47: a program's read-back ends VALID or INVALID, never BLANK. -/
def readBackValid (c : Stored) : Bool := !c.openMark && crcMatches c

/-! ## Identity record (R41, chapter 13) -/

/-- Breakpoint i of emitter e's wear table. -/
def getBreakpoint (e i : Nat) (bs : List Byte) : Nat × Nat :=
  (getU16 (16 + 48 * e + 6 * i) bs, getU32 (18 + 48 * e + 6 * i) bs)

def getWearTable (e : Nat) (bs : List Byte) : WearTable :=
  (List.range 8).map fun i => getBreakpoint e i bs

/-- The identity record's fields. -/
def readIdentity (bs : List Byte) : Constants where
  serial := slice 0 8 bs
  tRef := getS16 8 bs
  beta := ⟨getU16 10 bs, getU16 12 bs, getU16 14 bs⟩
  tables := ⟨getWearTable 0 bs, getWearTable 1 bs, getWearTable 2 bs⟩
  ref := ⟨getU16 160 bs, getU16 162 bs, getU16 164 bs⟩
  fallback := getMat 166 bs

/-- Hours strictly increasing within a table, values at most 98304 (R41). -/
def WearTable.inRange : WearTable → Bool
  | [] => true
  | [(_, v)] => v ≤ 98304
  | (h0, v0) :: (h1, v1) :: t =>
    v0 ≤ 98304 && h0 < h1 && WearTable.inRange ((h1, v1) :: t)

/-- R41: every field of the record lies in its range (the others admit any value). -/
def identityInRange (bs : List Byte) : Bool :=
  let c := readIdentity bs
  decide (-640 ≤ c.tRef) && decide (c.tRef ≤ 2000) &&
    decide (c.beta.r ≤ 1023) && decide (c.beta.g ≤ 1023) && decide (c.beta.b ≤ 1023) &&
    WearTable.inRange c.tables.r && WearTable.inRange c.tables.g && WearTable.inRange c.tables.b

/-- R41: the record is valid. -/
def identityValid (c : Stored) : Bool :=
  !c.openMark && !allErased c && crcMatches c && identityInRange c.data

/-- R42: the identity state and the constants in use from what the record holds. -/
def loadIdentity (s : State) : State :=
  let ok := identityValid s.store.identity
  s.setStore
    { s.store with
      identityValid := ok
      constants := if ok then readIdentity s.store.identity.data else Constants.default }

/-! ## Drift record (R44, chapter 13) -/

def putWear (t : Rgb Nat) : List Byte := putU48 t.r ++ putU48 t.g ++ putU48 t.b

/-- The drift record of the wear unit's live values: 321 bytes. -/
def driftBytes (w : Wear) : List Byte :=
  (w.zones.map putWear).flatten ++ putWear w.pilot ++
    putU32 w.kappa.r ++ putU32 w.kappa.g ++ putU32 w.kappa.b ++
    putS8 w.trim.r ++ putS8 w.trim.g ++ putS8 w.trim.b

def getWear (off : Nat) (bs : List Byte) : Rgb Nat :=
  ⟨getU48 off bs, getU48 (off + 6) bs, getU48 (off + 12) bs⟩

def driftKappa (bs : List Byte) : Rgb Nat := ⟨getU32 306 bs, getU32 310 bs, getU32 314 bs⟩

def kappaInRange (k : Nat) : Bool := 49152 ≤ k && k ≤ 81920

/-- R44: the drift record is valid. -/
def driftValid (c : Stored) : Bool :=
  let k := driftKappa c.data
  !c.openMark && crcMatches c && kappaInRange k.r && kappaInRange k.g && kappaInRange k.b

/-- R44: at a cold start-up the drift record is checked and its values, or the values of the
table, become the live ones. -/
def loadDrift (s : State) : State :=
  let bs := s.store.drift.data
  let ok := driftValid s.store.drift
  (s.setStore { s.store with driftValid := ok, driftReset := !ok }).setWear
    (if ok then
      { s.wear with
        zones := (List.range 16).map fun z => getWear (18 * z) bs
        pilot := getWear 288 bs
        kappa := driftKappa bs
        trim := ⟨getS8 318 bs, getS8 319 bs, getS8 320 bs⟩ }
    else
      { s.wear with
        zones := List.replicate 16 Rgb.zero
        pilot := Rgb.zero
        kappa := ⟨65536, 65536, 65536⟩
        trim := ⟨0, 0, 0⟩ })

/-! ## Slots and block states -/

def State.slot (s : State) (i : Nat) : Stored := Table.get erasedBlock s.store.slots i

def setSlot (i : Nat) (c : Stored) (s : State) : State :=
  s.setStore { s.store with slots := Table.put erasedBlock s.store.slots i c }

def State.blockState (s : State) (i : Nat) : BlockState := s.store.blockStates.getD i .blank

def setBlockState (i : Nat) (b : BlockState) (s : State) : State :=
  s.setStore { s.store with blockStates := setAt s.store.blockStates i fun _ => b }

/-- R52: every block below the block count takes the state of its check. -/
def checkBlocks (s : State) : State :=
  s.setStore
    { s.store with
      blockStates := s.store.blockStates.zipIdx.map fun e =>
        if e.2 < s.blockCount then checkBlock (s.slot e.2) else e.1 }

def setPort (p : PortUse) (s : State) : State := s.setStore { s.store with port := p }

/-! ## Arbiter (R53, R54) -/

def setWaiting (w : Waiting) (s : State) : State := s.setStore { s.store with waiting := w }

/-- A requester has a request waiting (R53). -/
def Waiting.has (w : Waiting) : Requester → Bool
  | .linkA => w.linkA.isSome
  | .linkB => w.linkB.isSome
  | .service => w.service.isSome
  | .composer => w.composer.isSome
  | .driftSave => w.driftSave.isSome

/-- R54: the request takes part in the scan; a COMPOSER request is passed over while the composer
is stopped. -/
def State.eligible (s : State) (r : Requester) : Bool :=
  s.store.waiting.has r && !(r == .composer && s.composerStopped)

/-- R54: the first phase from the pointer on, wrapping after 15, that names a requester with a
request waiting. -/
def State.winningPhase (s : State) : Option Nat :=
  ((List.range 16).map fun i => (s.store.phasePointer + i) % 16).find? fun p =>
    s.eligible (s.store.phaseTable.getD p .composer)

/-- R47: at the grant the block is PROGRAMMING and the slot holds the open-program mark and what
the program writes. -/
def beginProgram (who : Requester) (p : BlockProgram) (s : State) : State :=
  setPort (.granted (.program who p))
    (setBlockState p.block .programming (setSlot p.block ⟨p.records, p.crc, true⟩ s))

/-- R43: at the grant the store writes the open-program mark, the fields and the CRC. -/
def beginIdentity (fields : List Byte) (s : State) : State :=
  s.setStore
    { s.store with
      identity := ⟨fields, crc16 fields, true⟩, port := .granted (.identity fields) }

/-- R45: at the grant the store takes the wear unit's values as they stand. -/
def beginSave (mark : Bool) (s : State) : State :=
  s.setStore
    { s.store with
      drift := ⟨driftBytes s.wear, crc16 (driftBytes s.wear), true⟩
      port := .granted (.save mark) }

/-- R54: the winning requester's request leaves the waiting place and its grant begins. -/
def grantRequest (r : Requester) (s : State) : State :=
  let w := s.store.waiting
  match r with
  | .linkA =>
    (match w.linkA with
     | some p => beginProgram .linkA p (setWaiting { w with linkA := none } s)
     | none => s)
  | .linkB =>
    (match w.linkB with
     | some p => beginProgram .linkB p (setWaiting { w with linkB := none } s)
     | none => s)
  | .service =>
    (match w.service with
     | some (.block p) => beginProgram .service p (setWaiting { w with service := none } s)
     | some (.identity fs) => beginIdentity fs (setWaiting { w with service := none } s)
     | none => s)
  | .composer =>
    (match w.composer with
     | some i => setPort (.granted (.read i)) (setWaiting { w with composer := none } s)
     | none => s)
  | .driftSave =>
    (match w.driftSave with
     | some m => beginSave m (setWaiting { w with driftSave := none } s)
     | none => s)

/-- R54: while the port is free and a request waits, the scan grants one and moves the pointer
past the winning phase. It stands at the end of every step that places a request, frees the port
or lifts the composer's stop. -/
def settleStore (s : State) : State :=
  if s.store.port = .free then
    match s.winningPhase with
    | some p =>
      grantRequest (s.store.phaseTable.getD p .composer)
        (s.setStore { s.store with phasePointer := (p + 1) % 16 })
    | none => s
  else s

/-! ## Placing requests -/

/-- R45, R87: a drift save request; one already waiting takes the REST mark with it. -/
def requestSave (mark : Bool) (s : State) : State :=
  let w := s.store.waiting
  setWaiting { w with driftSave := some (w.driftSave.getD false || mark) } s

def placeRead (i : Nat) (s : State) : State :=
  setWaiting { s.store.waiting with composer := some i } s

def placeProgram (l : Link) (p : BlockProgram) (s : State) : State :=
  match l with
  | .a => setWaiting { s.store.waiting with linkA := some p } s
  | .b => setWaiting { s.store.waiting with linkB := some p } s

def placeService (p : ServiceProgram) (s : State) : State :=
  setWaiting { s.store.waiting with service := some p } s

/-! ## A grant abandoned (R49) -/

/-- R49: the open-program mark stays written and the content is whatever the program had
reached: a free value. -/
def abandonedItem (draw n : Nat) : Stored :=
  ⟨(List.range n).map (Config.partialByte draw), Config.partialCrc draw, true⟩

/-- R49, R53: a reset or a loss of power abandons the grant in force. A block that was
PROGRAMMING is INVALID from then on, as its next check finds (log 23). -/
def abandonGrant (s : State) : State :=
  let s' := { s with freeDraws := s.freeDraws + 1 }
  match s.store.port with
  | .granted (.program _ p) =>
    setBlockState p.block .invalid (setSlot p.block (abandonedItem s.freeDraws 1152) s')
  | .granted (.identity _) =>
    s'.setStore { s'.store with identity := abandonedItem s.freeDraws 184 }
  | .granted (.save _) => s'.setStore { s'.store with drift := abandonedItem s.freeDraws 321 }
  | .granted (.read _) | .free | .startUp => s

end Sys2Proof.Machine
end

