-- ==== Sys2Proof/Machine/Build.lean ====
section
/-! DEFINITION. BUILD and SCRUB on the blocks they read (chapter 2; chapter 3, "Scrub"): the
build set, the zone take, the matrices of a block, the park; SCRUB's check. -/

namespace Sys2Proof.Machine

/-! ## The build set (R24) -/

/-- Zones join the build set; a member that joins again changes nothing. -/
def joinBuild (zs : List Nat) (s : State) : State :=
  s.setComposer
    { s.composer with
      buildSet := (List.range 16).filter fun z => zs.contains z || s.composer.buildSet.contains z }

/-- All 16 zones join. -/
def joinAll (s : State) : State := joinBuild (List.range 16) s

/-! ## One zone (R29, R30) -/

/-- The block BUILD reads next for the zone it fills. -/
def State.nextBlock (s : State) (f : Filling) : Option Nat := (s.zoneBlocks f.zone)[f.blocksDone]?

/-- Place BUILD's request for the next block of the zone, if there is one. -/
def requestBlock (f : Filling) (s : State) : State :=
  match s.nextBlock f with
  | some i => placeRead i s
  | none => s

/-- The zone BUILD takes: the lowest of the build set. -/
def State.lowestZone (s : State) : Option Nat :=
  (List.range 16).find? fun z => s.composer.buildSet.contains z

/-- What R29 records with the zone at the take. -/
def State.fillingFor (s : State) (z : Nat) : Filling where
  zone := z
  generation := s.authority.record.generation
  target := s.authority.record.target
  fallback := s.store.constants.fallback
  blocksDone := 0
  matrices := []
  saturated := 0
  fallbackBlocks := 0

/-- R29: BUILD takes the lowest zone and requests its first block. -/
def takeZone (s : State) : State :=
  match s.lowestZone with
  | some z =>
    requestBlock (s.fillingFor z)
      (s.setComposer
        { s.composer with
          buildSet := s.composer.buildSet.filter (· ≠ z)
          staging := .filling (s.fillingFor z) })
  | none => s

/-! ## Matrices (R32 to R34) -/

/-- R33: one coefficient before saturation, from a factory row and a target column. -/
def rawCoefficient (m : Row3) (t0 t1 t2 : Int) : Int :=
  (m.x0 * t0 + m.x1 * t1 + m.x2 * t2 + 8192) / 16384

/-- R34: a coefficient brought into 16 bits. -/
def saturate (v : Int) : Int := clampInt (-32768) 32767 v

/-- R33: one emitter's row of the product, before saturation. -/
def rawRow (m : Row3) (t : Mat3) : Row3 where
  x0 := rawCoefficient m t.r0.x0 t.r1.x0 t.r2.x0
  x1 := rawCoefficient m t.r0.x1 t.r1.x1 t.r2.x1
  x2 := rawCoefficient m t.r0.x2 t.r1.x2 t.r2.x2

def saturateRow (r : Row3) : Row3 := ⟨saturate r.x0, saturate r.x1, saturate r.x2⟩

/-- R34: how many of a row's coefficients saturate. -/
def saturatedIn (r : Row3) : Nat :=
  ([r.x0, r.x1, r.x2].filter fun v => saturate v != v).length

/-- R33, R34: a pixel's matrix and how many of its coefficients saturated. -/
def buildMatrix (m t : Mat3) : Mat3 × Nat :=
  let a := rawRow m.r0 t
  let b := rawRow m.r1 t
  let c := rawRow m.r2 t
  (⟨saturateRow a, saturateRow b, saturateRow c⟩, saturatedIn a + saturatedIn b + saturatedIn c)

/-- R32, R1: the render-table index of record r of block i. -/
def State.recordIndex (s : State) (i r : Nat) : Nat :=
  (8 * (i / (s.width / 8)) + r / 8) * s.width + (8 * (i % (s.width / 8)) + r % 8)

/-- R31: the factory record of record r. -/
def factoryRecord (f : Filling) (read : BlockRead) (r : Nat) : Mat3 :=
  if read.state = .valid then getMat (18 * r) read.content.data else f.fallback

/-- R31 to R34: the zone after one more of its blocks. -/
def State.fillBlock (s : State) (f : Filling) (read : BlockRead) : Filling :=
  let built := (List.range 64).map fun r =>
    (s.recordIndex read.block r, buildMatrix (factoryRecord f read r) f.target)
  { f with
    blocksDone := f.blocksDone + 1
    matrices := f.matrices ++ built.map fun e => (e.1, e.2.1)
    saturated := f.saturated + (built.map fun e => e.2.2).sum
    fallbackBlocks := f.fallbackBlocks + (if read.state = .valid then 0 else 1) }

/-- R35: the zone's last block has been computed; BUILD parks and frees the composer. -/
def park (f : Filling) (s : State) : State :=
  s.setComposer
    { s.composer with
      staging := .staged ⟨f.zone, f.generation, f.matrices, f.saturated, f.fallbackBlocks⟩
      parked := true
      running := none }

/-- BUILD takes the data of a block read. -/
def absorbBuild (read : BlockRead) (s : State) : State :=
  match s.composer.staging with
  | .filling f =>
    let f' := s.fillBlock f read
    if f'.blocksDone < (s.zoneBlocks f.zone).length then
      requestBlock f' (s.setComposer { s.composer with staging := .filling f' })
    else park f' s
  | .empty | .staged _ => s

/-! ## SCRUB (R50, R51) -/

/-- R51: the check finds a block that the store held VALID or BLANK to be something else. A VALID
block that reads wholly erased is in mismatch by R26 (log 27). -/
def scrubFails (read : BlockRead) : Bool :=
  match read.state with
  | .valid => checkBlock read.content != .valid
  | .blank => checkBlock read.content != .blank
  | .invalid | .programming => false

/-- R51: the block becomes INVALID, its zone joins the build set, the failure is counted. The
block's state of this moment is replaced whatever it is. Where the read was kept over a rest (R118)
and a program has made the block VALID or PROGRAMMING since, the spec is silent and this is the
model's choice, unsafe (log 33). -/
def scrubFailure (i : Nat) (s : State) : State :=
  let s := joinBuild [s.zoneOfBlock i] (setBlockState i .invalid s)
  s.setStore { s.store with scrubFailures := inc16 s.store.scrubFailures }

/-- R50: the scrub pointer advances by one and wraps at the block count. -/
def advanceScrub (s : State) : State :=
  let p := s.store.scrubPointer + 1
  s.setStore { s.store with scrubPointer := if s.blockCount ≤ p then 0 else p }

/-- SCRUB takes the data of a block read, with `left` blocks of its batch still to check; after
the last the batch ends, after any other it stands at its preemption point (R115). -/
def absorbScrub (level left : Nat) (read : BlockRead) (s : State) : State :=
  let s := advanceScrub (if scrubFails read then scrubFailure read.block s else s)
  s.setComposer
    { s.composer with
      running := if left ≤ 1 then none else some ⟨level, .scrub (left - 1) true⟩ }

/-- The running job takes the data of its block read. -/
def absorbRead (read : BlockRead) (s : State) : State :=
  match s.composer.running with
  | some ⟨_, .build⟩ => absorbBuild read s
  | some ⟨level, .scrub left _⟩ => absorbScrub level left read s
  | some ⟨_, .gain _⟩ | some ⟨_, .thermal _⟩ | none => s

end Sys2Proof.Machine
end

