-- ==== Sys2Proof/Machine/Composer.lean ====
section
/-! DEFINITION. The composer (chapter 7): requests, what a job takes at its start, decisions, and
the settling of a step: the effects that follow inside the step that causes them (log 4). -/

namespace Sys2Proof.Machine

/-! ## Requests (R106 to R108) -/

/-- R106: a GAIN request. -/
def requestGain (s : State) : State := s.setComposer { s.composer with gainPending := true }

/-- R107: a THERMAL request; it merges into a pending or a running THERMAL. -/
def requestThermal (s : State) : State :=
  if s.composer.runs .thermal then s
  else s.setComposer { s.composer with thermalPending := true }

/-- R108: a SCRUB request; it merges into a pending, running or stacked SCRUB. -/
def requestScrub (s : State) : State :=
  if s.composer.runs .scrub || s.composer.stacked .scrub then s
  else s.setComposer { s.composer with scrubPending := true }

/-! ## Starts (R112) -/

/-- R91: the inputs GAIN takes. -/
def State.gainInputs (s : State) : GainInputs where
  temps := s.thermal.temps
  wear := s.wear.zones
  kappa := s.wear.kappa
  trim := s.wear.trim
  ceiling := s.authority.record.ceiling
  tRef := s.store.constants.tRef
  beta := s.store.constants.beta
  tables := s.store.constants.tables

/-- R63: what THERMAL takes. -/
def State.loadTake (s : State) : LoadTake where
  load := s.driver.load
  pilotLoad := s.driver.pilotLoad
  samples := s.driver.samples
  ticks := s.thermal.ticks
  sensed := (List.range 16).map fun z => (s.sensed z).1
  rho := s.settings.rho
  k := s.settings.k

/-- R74: what a clear mark becomes at a load take. -/
def ClearMark.atTake : ClearMark → ClearMark
  | .set => .taken
  | .taken | .clear => .clear

/-- R63, R22, R74: the load take. -/
def takeLoad (s : State) : State :=
  ((clearLoad s).setThermal { s.thermal with ticks := 0, sampleAfterTake := false }).setWear
    { s.wear with clearMarks := s.wear.clearMarks.map ClearMark.atTake }

def setRunning (r : Running) (s : State) : State :=
  s.setComposer { s.composer with running := some r }

/-- R110, R112: a job of kind `k` starts at its kind's level. -/
def startJob (k : JobKind) (s : State) : State :=
  let level := s.composer.levels.of k
  match k with
  | .gain =>
    setRunning ⟨level, .gain s.gainInputs⟩
      (s.setComposer { s.composer with gainPending := false })
  | .thermal =>
    takeLoad (setRunning ⟨level, .thermal s.loadTake⟩
      (s.setComposer { s.composer with thermalPending := false }))
  | .build => takeZone (setRunning ⟨level, .build⟩ s)
  | .scrub =>
    placeRead s.store.scrubPointer (setRunning ⟨level, .scrub 8 false⟩
      (s.setComposer { s.composer with scrubPending := false }))

/-! ## Decisions (R113 to R116) -/

/-- R114, R116: the top entry, a SCRUB, resumes at its recorded level with the block at the scrub
pointer. -/
def resumeTop (e : Suspended) (rest : List Suspended) (s : State) : State :=
  placeRead s.store.scrubPointer
    (s.setComposer
      { s.composer with running := some ⟨e.level, .scrub e.left false⟩, stack := rest })

/-- R114: the decision of a free composer. -/
def takeDecision (s : State) : State :=
  match s.composer.stack, s.composer.chosen with
  | [], none => s
  | [], some k => startJob k s
  | e :: rest, none => resumeTop e rest s
  | e :: rest, some k =>
    if e.level < s.composer.levels.of k then startJob k s else resumeTop e rest s

/-- R116: the running SCRUB is pushed aside. -/
def pushScrub (level left : Nat) (s : State) : State :=
  s.setComposer
    { s.composer with
      stack := ⟨.scrub, level, left⟩ :: s.composer.stack
      suspensions := inc16 s.composer.suspensions }

/-- R115: the decision at SCRUB's preemption point. -/
def decideAtPoint (level left : Nat) (s : State) : State :=
  match s.composer.chosen with
  | some k =>
    if level < s.composer.levels.of k then startJob k (pushScrub level left s)
    else placeRead s.store.scrubPointer (setRunning ⟨level, .scrub left false⟩ s)
  | none => placeRead s.store.scrubPointer (setRunning ⟨level, .scrub left false⟩ s)

/-- The composer's decision at the end of a step, where one is due. -/
def settleComposer (s : State) : State :=
  if s.composerStopped then s
  else match s.composer.running with
    | none => takeDecision s
    | some ⟨level, .scrub left true⟩ => decideAtPoint level left s
    | some _ => s

/-- R118: once the composer runs again, the job takes the data of a read that completed while it
was stopped. It takes that data as it was read, also where a program of the block has begun or
ended since; that a SCRUB check of it acts on the block all the same is the model's choice, unsafe
(log 33). -/
def takeDeferred (s : State) : State :=
  if s.composerStopped then s
  else match s.composer.deferred with
    | some read => absorbRead read (s.setComposer { s.composer with deferred := none })
    | none => s

/-! ## Settling -/

/-- The decision and the arbiter's scan at the end of a step. -/
def settleWork (s : State) : State := settleStore (settleComposer s)

/-- All that follows inside a step: banks (R15, R17), a deferred read (R118), work moving into
force (R12), the composer's decision (R114), the arbiter's scan (R54). -/
def settle (s : State) : State := settleWork (settleRender (takeDeferred (settleBanks s)))

end Sys2Proof.Machine
end

