-- ==== Sys2Proof/Machine/Sensors.lean ====
section
/-! DEFINITION. The sensor bus controller's queue and health records (chapter 8). -/

namespace Sys2Proof.Machine

def setSensorQueue (q : List QueuedRequest) (s : State) : State :=
  s.setSensors { s.sensors with queue := q }

/-! ## Requests (R122) -/

/-- A requester joins the end of a list it is not already on. -/
def addRequester (u : SensorUser) (l : List SensorUser) : List SensorUser :=
  if l.contains u then l else l ++ [u]

/-- R122: a request merges with an equal one in flight or in the queue, or joins the tail. -/
def placeSensor (r : SensorRequest) (u : SensorUser) (s : State) : State :=
  let queued : State :=
    if s.sensors.queue.any fun e => e.request == r then
      setSensorQueue
        (s.sensors.queue.map fun e =>
          if e.request = r then { e with requesters := addRequester u e.requesters } else e) s
    else setSensorQueue (s.sensors.queue ++ [⟨r, [u]⟩]) s
  match s.sensors.inFlight with
  | some t =>
    if t.request = r then
      s.setSensors
        { s.sensors with inFlight := some { t with requesters := addRequester u t.requesters } }
    else queued
  | none => queued

/-! ## Completions and health (R127) -/

/-- A completion's status: good with its value, BAD, or a substitute MISSED. -/
inductive Completion where
  | good (value : Int)
  | bad
  | missed
deriving DecidableEq, Repr

/-- A miss count after a completion. -/
def missesAfter (c : Completion) (n : Nat) : Nat :=
  match c with
  | .good _ => 0
  | .bad | .missed => satAdd 255 n 1

/-- R127: the counts of a sensor after a completion. -/
def SensorCounts.after (c : Completion) (k : SensorCounts) : SensorCounts :=
  match c with
  | .good _ => { k with good := inc16 k.good }
  | .bad => { k with bad := inc16 k.bad }
  | .missed => { k with missed := inc16 k.missed }

def TempRecord.after (c : Completion) (r : TempRecord) : TempRecord where
  misses := missesAfter c r.misses
  reading := (match c with | .good v => some v | .bad | .missed => r.reading)

def LightRecord.after (e : Emitter) (c : Completion) (r : LightRecord) : LightRecord where
  misses := missesAfter c r.misses
  readings :=
    (match c with | .good v => Rgb.set r.readings e (some v.toNat) | .bad | .missed => r.readings)

/-- The sensor's place among the five counts: temperature sensors 0 to 3, then light. -/
def SensorRequest.sensor : SensorRequest → Nat
  | .temp q => q
  | .light _ => 4

/-- R127: a completion updates its sensor's record and count. -/
def recordCompletion (r : SensorRequest) (c : Completion) (s : State) : State :=
  let n := s.sensors
  s.setSensors
    { n with
      temps := (match r with
        | .temp q => setAt n.temps q (TempRecord.after c)
        | .light _ => n.temps)
      light := (match r with
        | .temp _ => n.light
        | .light e => n.light.after e c)
      counts := setAt n.counts r.sensor (SensorCounts.after c) }

/-- R129: the records when the sensor map becomes `map`: a sensor that leaves or joins starts
afresh. -/
def remapSensors (map : List Nat) (s : State) : State :=
  let old := s.settings.sensorMap
  (s.setSensors
    { s.sensors with
      temps := s.sensors.temps.zipIdx.map fun e =>
        if map.contains e.2 == old.contains e.2 then e.1 else ⟨0, none⟩ }).setSettings
    { s.settings with sensorMap := map }

end Sys2Proof.Machine
end

