-- ==== Sys2Proof/Machine/Pilot.lean ====
section
/-! DEFINITION. The wear unit (chapter 5): the pilot measurement sequence, wear increments, trims
and wear clears. -/

namespace Sys2Proof.Machine

/-! ## The sequence (R77 to R79, R82, R83) -/

/-- R82: after emitter B the sequence ends. -/
def endSequence (s : State) : State :=
  let s' := s.setWear
    { s.wear with state := .idle, settleTimer := 0, sequences := wrap16 s.wear.sequences }
  if s.wear.changed then requestGain s' else s'

/-- R78: the emitter is driven and settles for 20 ms. -/
def settleEmitter (e : Emitter) (s : State) : State :=
  setPilotDrive (Rgb.only e 32768) (s.setWear { s.wear with state := .settle e, settleTimer := 20 })

def setPilotResult (e : Emitter) (r : PilotResult) (s : State) : State :=
  s.setWear { s.wear with results := Rgb.set s.wear.results e r }

/-- R78: the sequence takes emitter e, or skips it and goes on by `next`. -/
def takeEmitter (e : Emitter) (next : State → State) (s : State) : State :=
  if Rgb.get s.store.constants.ref e = 0 then next (setPilotResult e .skipped s)
  else settleEmitter e s

def takeBlue (s : State) : State := takeEmitter .b endSequence s
def takeGreen (s : State) : State := takeEmitter .g takeBlue s
def takeRed (s : State) : State := takeEmitter .r takeGreen s

/-- What follows the measurement of an emitter, in the order R, G, B. -/
def takeAfter : Emitter → State → State
  | .r => takeGreen
  | .g => takeBlue
  | .b => endSequence

/-- R77: the conditions under which a pilot tick starts a sequence. -/
def State.sequenceMayStart (s : State) : Bool :=
  s.wear.state == .idle && (s.chip.power == .run || s.chip.power == .dark) &&
    s.chip.config == .closed && s.wear.staleRead == none

/-- R77. -/
def startSequence (s : State) : State :=
  if s.sequenceMayStart then takeRed (s.setWear { s.wear with changed := false }) else s

/-- R79: the settle timer has expired in SETTLE(e): READ(e), and the read is placed. -/
def beginRead (e : Emitter) (s : State) : State :=
  placeSensor (.light e) .wear (s.setWear { s.wear with state := .read e, settleTimer := 0 })

/-- R83: the sequence in progress is abandoned. What the pilot emitters carry from here to the next
1 ms tick the manual gives for a sequence's end only (R82); the model's choice is the same: the
measurement drive stays until the next LOAD_SAMPLE or the entry to REST (log 29). -/
def abandonSequence (s : State) : State :=
  let stop := fun (stale : Option Emitter) =>
    let s' := s.setWear { s.wear with state := .idle, settleTimer := 0, staleRead := stale }
    if s.wear.changed then requestGain s' else s'
  match s.wear.state with
  | .idle => s
  | .settle _ => stop s.wear.staleRead
  | .read e => stop (some e)

/-! ## A measurement (R80, R81) -/

/-- R80 steps 2 and 3: the predicted efficiency of pilot emitter e. -/
def State.predicted (s : State) (e : Emitter) : Nat :=
  let c := s.store.constants
  tempEfficiency (Rgb.get c.beta e) c.tRef (s.sensed 0).1 *
    wearEfficiency (Rgb.get c.tables e) (wearHours (Rgb.get s.wear.pilot e)) / 65536

/-- R80 step 1: the observed efficiency for reading `r`; a free value where ref_e is 0 by the
completion (log 31). -/
def State.observed (s : State) (e : Emitter) (r : Nat) : Nat :=
  let ref := Rgb.get s.store.constants.ref e
  if ref = 0 then Config.observedWithoutReference (Emitter.index e) r else r * 65536 / ref

/-- R80 step 5. -/
def ratioOf (obs pred : Nat) : Nat := min 4294967295 (obs * 65536 / pred)

/-- R80 step 6: floor, for a negative difference too. -/
def kappaAfter (kappa ratio : Nat) : Nat :=
  (clampInt 49152 81920 ((kappa : Int) + ((ratio : Int) - kappa) / 8)).toNat

/-- R81: a measurement that gives no ratio. -/
def missMeasurement (e : Emitter) (r : PilotResult) (s : State) : State :=
  let s' := setPilotResult e r s
  s'.setWear { s'.wear with misses := inc16 s'.wear.misses }

/-- R80: a measurement that gives a ratio. -/
def applyRatio (e : Emitter) (ratio : Nat) (s : State) : State :=
  let old := Rgb.get s.wear.kappa e
  let new := kappaAfter old ratio
  let s' := setPilotResult e .applied s
  s'.setWear
    { s'.wear with
      kappa := Rgb.set s'.wear.kappa e new
      ratios := Rgb.set s'.wear.ratios e ratio
      changed := s'.wear.changed || new != old }

/-- R80, R81: the completion of the read in READ(e). -/
def measure (e : Emitter) (c : Completion) (s : State) : State :=
  match c with
  | .good v =>
    if s.predicted e = 0 then missMeasurement e .noPrediction s
    else applyRatio e (ratioOf (s.observed e v.toNat) (s.predicted e)) s
  | .bad => missMeasurement e .bad s
  | .missed => missMeasurement e .missed s

/-- R79, R83: a READ_LIGHT(e) completion reaches the wear unit. -/
def lightCompletion (e : Emitter) (c : Completion) (s : State) : State :=
  if s.wear.staleRead = some e then s.setWear { s.wear with staleRead := none }
  else if s.wear.state = .read e then takeAfter e (measure e c s)
  else s

/-! ## Wear (R74, R75) -/

/-- The bound of a wear counter. -/
def maxWear : Nat := 281474976710655

/-- R74: a zone's increments for the load `a` of `pz` pixels. -/
def wearIncrement (pz : Nat) (a : Rgb Nat) : Rgb Nat := Rgb.map (fun x => x * 4096 / (pz * 65535)) a

/-- R74: a zone counter after the job; a marked zone receives no increment. -/
def zoneWearAfter (mark : ClearMark) (w inc : Rgb Nat) : Rgb Nat :=
  match mark with
  | .clear => Rgb.zip (satAdd maxWear) w inc
  | .set | .taken => w

/-- R74, R75: the increments of a THERMAL job's take are added. -/
def addWear (t : LoadTake) (s : State) : State :=
  s.setWear
    { s.wear with
      zones := s.wear.zones.zipIdx.map fun e =>
        zoneWearAfter (s.wear.clearMarks.getD e.2 .clear) e.1
          (wearIncrement s.zonePixels (t.load.getD e.2 Rgb.zero))
      pilot := Rgb.zip (satAdd maxWear) s.wear.pilot (wearIncrement 1 t.pilotLoad) }

/-- R85: the trims are set; GAIN if any changed; a drift save in every case. -/
def setTrims (t : Rgb Int) (s : State) : State :=
  let s' := requestSave false (s.setWear { s.wear with trim := t })
  if t = s.wear.trim then s' else requestGain s'

/-- R86: one zone's counters are cleared and its clear mark set; GAIN and a drift save. -/
def clearWear (z : Nat) (s : State) : State :=
  requestSave false (requestGain (s.setWear
    { s.wear with
      zones := setAt s.wear.zones z fun _ => Rgb.zero
      clearMarks := setAt s.wear.clearMarks z fun _ => .set }))

end Sys2Proof.Machine
end

