-- ==== Sys2Proof/Machine/Power.lean ====
section
/-! DEFINITION. The power-state logic (chapter 12, "Power states"). -/

namespace Sys2Proof.Machine

def setPower (p : PowerState) (s : State) : State := s.setChip { s.chip with power := p }

def setHeld (h : HeldCommand) (s : State) : State := s.setChip { s.chip with held := h }

/-- R183: entry to RESTING_ENTRY from RUN or DARK. -/
def enterResting (s : State) : State :=
  abandonSequence (requestSave true
    (s.setChip { s.chip with power := .restingEntry, held := .none }))

/-- R186: the part leaves REST for RUN or DARK. -/
def leaveRest (target : PowerState) (s : State) : State :=
  requestGain (s.setChip { s.chip with power := target, held := .none, restWake := 0 })

/-- R184: the part enters REST and stays. -/
def stayInRest (s : State) : State :=
  s.setChip { s.chip with power := .rest, restWake := s.settings.restWakeInterval }

/-- R183, R185: REST is entered, at the marked save's completion or a sample's end; a held command
leaves it in the same step, and then no wake counter starts. -/
def enterRest (s : State) : State :=
  let s' := setPilotDrive Rgb.zero s
  match s.chip.held with
  | .none => stayInRest s'
  | .light => leaveRest .run s'
  | .dark => leaveRest .dark s'

/-- R181: DARK. -/
def commandDark (s : State) : State :=
  match s.chip.power with
  | .run => setPower .dark s
  | .dark => s
  | .restingEntry | .restSample => setHeld .dark s
  | .rest => leaveRest .dark s

/-- R181: LIGHT. -/
def commandLight (s : State) : State :=
  match s.chip.power with
  | .run => s
  | .dark => setPower .run s
  | .restingEntry | .restSample => setHeld .light s
  | .rest => leaveRest .run s

/-- R181: REST. -/
def commandRest (s : State) : State :=
  match s.chip.power with
  | .run | .dark => enterResting s
  | .restingEntry | .restSample => setHeld .none s
  | .rest => s

/-- R181: a sync of the service line. -/
def reportSync (s : State) : State :=
  match s.chip.power with
  | .run | .dark => s
  | .restingEntry | .restSample => if s.chip.held = .none then setHeld .dark s else s
  | .rest => leaveRest .dark s

/-- R185: the SAMPLE round's end is reported. -/
def sampleReported (s : State) : State :=
  if s.chip.power = .restSample then enterRest s else s

end Sys2Proof.Machine
end

