-- ==== Sys2Proof/Machine/Thermal.lean ====
section
/-! DEFINITION. The thermal estimator (chapter 4): poll rounds, the arithmetic of the THERMAL job,
and the delivery of sensor completions with the start of the next transaction (chapter 8). -/

namespace Sys2Proof.Machine

/-! ## Rounds (R60 to R62, R68, R69) -/

inductive RoundMark where
  | thermal
  | sample
  | start
deriving DecidableEq, Repr

def Round.add (m : RoundMark) (r : Round) : Round :=
  match m with
  | .thermal => { r with thermal := true }
  | .sample => { r with sample := true }
  | .start => { r with start := true }

def setRound (r : Option Round) (s : State) : State := s.setThermal { s.thermal with round := r }

/-- Every zone temperature set to its assigned sensor temperature (R68, R69). -/
def senseZones (s : State) : State :=
  s.setThermal { s.thermal with temps := (List.range 16).map fun z => (s.sensed z).1 }

/-- R68, R178: the START mark; start-up ends. -/
def endStartRound (s : State) : State :=
  let s' := if s.chip.coldStart then senseZones s else s
  s'.setChip { s'.chip with phase := .running, coldStart := false }

/-- R69: the SAMPLE mark. -/
def endSampleRound (s : State) : State :=
  let s' := senseZones s
  sampleReported (s'.setThermal
    { s'.thermal with
      ticks := 0
      sampleAfterTake := s'.thermal.sampleAfterTake || s'.composer.runs .thermal })

/-- R62: a round ends and its marks act in their order. -/
def endRound (r : Round) (s : State) : State :=
  let s := setRound none s
  let s := if r.start then endStartRound s else s
  let s := if r.sample then endSampleRound s else s
  if r.thermal then requestThermal s else s

/-- The sensors present in the sensor map. -/
def State.present (s : State) : List Nat := (List.range 4).filter s.settings.sensorMap.contains

/-- R60, R61: a round opens with one mark and a request for each present sensor; with none
present it ends at once. -/
def openRound (m : RoundMark) (s : State) : State :=
  let r := Round.add m ⟨s.present, false, false, false⟩
  if s.present.isEmpty then endRound r s
  else s.present.foldl (fun s q => placeSensor (.temp q) .thermal s) (setRound (some r) s)

/-- R60, R69: a cause adds its mark to the open round or opens one. -/
def joinRound (m : RoundMark) (s : State) : State :=
  match s.thermal.round with
  | some r => setRound (some (r.add m)) s
  | none => openRound m s

/-- R61: a READ_TEMP(q) completion reaches the estimator. -/
def tempCompletion (q : Nat) (s : State) : State :=
  match s.thermal.round with
  | some r =>
    if r.owed.contains q then
      let r' := { r with owed := r.owed.filter (· ≠ q) }
      if r'.owed.isEmpty then endRound r' s else setRound (some r') s
    else s
  | none => s

/-! ## Delivery and the next transaction (R123, R128) -/

/-- R128: the completion reaches one requester. -/
def deliverTo (r : SensorRequest) (c : Completion) (u : SensorUser) (s : State) : State :=
  match u, r with
  | .thermal, .temp q => tempCompletion q s
  | .wear, .light e => lightCompletion e c s
  | .thermal, .light _ | .wear, .temp _ => s

/-- R128: each requester in the order in which it joined. -/
def deliver (r : SensorRequest) (c : Completion) (us : List SensorUser) (s : State) : State :=
  us.foldl (fun s u => deliverTo r c u s) s

/-- R123: the sensor is ABSENT at the start. -/
def State.absentFor (s : State) : SensorRequest → Bool
  | .temp q => s.tempHealth q == .absent
  | .light _ => false

/-- R123: the oldest entry starts with the tag counter's value. An ABSENT sensor's entry takes a
tag too (log 12) and is answered at once, and the next entry starts in the same step. `fuel`
bounds the entries. -/
def startTransactions : Nat → State → State
  | 0, s => s
  | fuel + 1, s =>
    match s.sensors.inFlight, s.sensors.queue with
    | some _, _ => s
    | none, [] => s
    | none, e :: rest =>
      let tagged := { s.sensors with queue := rest, tag := (s.sensors.tag + 1) % 16 }
      if s.absentFor e.request then
        startTransactions fuel (deliver e.request .missed e.requesters (s.setSensors tagged))
      else
        s.setSensors
          { tagged with inFlight := some ⟨e.request, e.requesters, s.sensors.tag, 5⟩ }

/-- Entries waiting now all fit, and delivering places none. -/
def startNext (s : State) : State := startTransactions s.sensors.queue.length s

/-- R124, R125, R127, R128: the transaction ends with a completion; the record is updated, the
completion delivered and the next entry started. -/
def endTransaction (t : Transaction) (c : Completion) (s : State) : State :=
  startNext (deliver t.request c t.requesters
    (recordCompletion t.request c (s.setSensors { s.sensors with inFlight := none })))

/-- R124: a response with the right tag classified. -/
def classify (r : SensorRequest) (f : SensorFrame) : Completion :=
  if f.failed then .bad
  else match r with
    | .temp _ =>
      if f.value.toInt < -640 ∨ 2000 < f.value.toInt then .bad else .good f.value.toInt
    | .light e => if Rgb.get f.overflow e then .bad else .good f.value.toNat

/-- R124, R126: a response frame arrives. -/
def sensorResponse (f : SensorFrame) (s : State) : State :=
  let late := s.setSensors { s.sensors with late := inc16 s.sensors.late }
  if f.checkOk then
    match s.sensors.inFlight with
    | some t => if f.tag.toNat = t.tag then endTransaction t (classify t.request f) s else late
    | none => late
  else s.setSensors { s.sensors with checkFailures := inc16 s.sensors.checkFailures }

/-- R125: the deadline of the transaction in flight expires. -/
def sensorDeadline (s : State) : State :=
  match s.sensors.inFlight with
  | some t => endTransaction t .missed s
  | none => s

/-! ## The THERMAL job (R64 to R67) -/

/-- R64: a zone's mean load. -/
def meanLoad (a : Rgb Nat) (n pz : Nat) : Nat :=
  (a.r + a.g + a.b) * 4096 / (n * 3 * pz * 65535)

/-- R65. -/
def equilibrium (sensed : Int) (rho mean : Nat) : Int := sensed + ((rho * mean / 4096 : Nat) : Int)

/-- R66: the step toward the equilibrium: truncated, at least 1 while apart. -/
def thermalStep (k : Nat) (d : Int) : Int :=
  let t := (d * (k : Int)).tdiv 256
  if t ≠ 0 then t else if 0 < d then 1 else if d < 0 then -1 else 0

/-- R66: one step of a zone temperature. -/
def stepTemp (k : Nat) (e t : Int) : Int := clampInt (-640) 2000 (t + thermalStep k (e - t))

/-- R66: `c` steps, each from the temperature the previous one left. -/
def stepsTemp (k : Nat) (e : Int) : Nat → Int → Int
  | 0, t => t
  | c + 1, t => stepsTemp k e c (stepTemp k e t)

/-- R64 for zone z. -/
def LoadTake.mean (t : LoadTake) (pz z : Nat) : Nat :=
  meanLoad (t.load.getD z Rgb.zero) t.samples pz

/-- R65, R66 for zone z, from the temperature `now`. -/
def LoadTake.tempAfter (t : LoadTake) (pz z : Nat) (now : Int) : Int :=
  stepsTemp t.k (equilibrium (t.sensed.getD z 400) t.rho (t.mean pz z)) t.ticks now

/-- R67: the end of the THERMAL job. -/
def endThermal (t : LoadTake) (s : State) : State :=
  let written := s.setThermal
    { s.thermal with
      temps :=
        if s.thermal.sampleAfterTake then s.thermal.temps
        else s.thermal.temps.zipIdx.map fun e => t.tempAfter s.zonePixels e.2 e.1
      meanLoad := (List.range 16).map (t.mean s.zonePixels) }
  let worn := addWear t written
  requestGain (worn.setComposer { worn.composer with running := none })

end Sys2Proof.Machine
end

