-- ==== Sys2Proof/Machine/Authority.lean ====
section
/-! DEFINITION. The authority unit (chapter 9): wall records, freshness, the moves of authority,
holding and blanking. -/

namespace Sys2Proof.Machine

/-! ## Wall records (R142 to R144) -/

/-- R144: a record takes force; a differing target fills the build set, a differing ceiling
requests GAIN. -/
def putInForce (r : WallRecord) (s : State) : State :=
  let old := s.authority.record
  let s := s.setAuthority { s.authority with record := r }
  let s := if r.target = old.target then s else joinAll s
  if r.ceiling = old.ceiling then s else requestGain s

/-- R143: the stored record of a link, if present, takes force. -/
def adoptRecord (l : Link) (s : State) : State :=
  match (s.link l).stored with
  | some r => putInForce r s
  | none => s

/-- R142: a WALL's record becomes the link's stored record and, on the authority link, the record
in force. -/
def storeRecord (l : Link) (r : WallRecord) (s : State) : State :=
  let s := s.setLink l { s.link l with stored := some r }
  if s.authority.holder = some l then putInForce r s else s

/-! ## Freshness (R133, R141) -/

/-- A link becomes STALE, clearing a pending take that names it. -/
def becomeStale (l : Link) (s : State) : State :=
  let s := s.setLink l { s.link l with fresh := false }
  if s.authority.pendingTake = some l then
    s.setAuthority { s.authority with pendingTake := none }
  else s

/-- R133: a FRAME_HEAD passed on by a READY link. -/
def refresh (l : Link) (s : State) : State :=
  s.setLink l { s.link l with age := 0, fresh := true }

/-! ## Moves of authority (R134, R135, R137, R139) -/

/-- Authority moves to `l`: the count, the pending take, the record. -/
def moveAuthority (l : Link) (s : State) : State :=
  adoptRecord l (s.setAuthority
    { s.authority with
      holder := some l, pendingTake := none, changes := inc16 s.authority.changes })

/-- R137: the output state becomes HOLDING. -/
def enterHolding (s : State) : State :=
  if s.authority.output = .rendering then
    s.setAuthority
      { s.authority with
        output := .holding, holdingTime := 0, holdings := inc16 s.authority.holdings }
  else s

/-- R134: a frame head on the authority link. -/
def openFrame (s : State) : State :=
  let s := releaseWaiting (moveIntoForce s)
  s.setAuthority { s.authority with output := .rendering, holdingTime := 0 }

/-- R135: L takes authority at its frame head. -/
def State.takesAtHead (s : State) (l : Link) : Bool :=
  match s.authority.holder with
  | none => true
  | some h => h != l && (!(s.link h).usable || s.authority.pendingTake == some l)

/-- R133 to R135: the authority unit takes a FRAME_HEAD from link `l`; during start-up it sets
freshness only (R132). -/
def takeFrameHead (l : Link) (s : State) : State :=
  let s := refresh l s
  if s.started then
    if s.takesAtHead l then openFrame (moveAuthority l s)
    else if s.authority.holder = some l then openFrame s
    else s
  else s

/-- R136: a ROW that passed the port's checks is admitted, or discarded and counted; during
start-up it is discarded without count (R132). -/
def takeRow (l : Link) (y : Nat) (pixels : List (Rgb Nat)) (s : State) : State :=
  if s.started then
    if s.authority.holder = some l ∧ s.authority.output = .rendering ∧ s.chip.power = .run then
      renderRow y pixels s
    else s.setLink l { s.link l with rowsDiscarded := inc32 (s.link l).rowsDiscarded }
  else s

/-- R137: the hold expiry of the authority link `l`, just become STALE. -/
def holdExpiry (l : Link) (s : State) : State :=
  if s.authority.holder = some l then
    if (s.link l.other).usable then moveAuthority l.other s else enterHolding s
  else s

/-- R133, R137: the frame-head age of `l` reaches the hold time. -/
def linkStale (l : Link) (s : State) : State := holdExpiry l (becomeStale l s)

/-- R139: link `l` has gone DOWN. -/
def authorityDown (l : Link) (s : State) : State :=
  let s := becomeStale l s
  let s := s.setLink l { s.link l with stored := none }
  if s.authority.holder = some l then
    if (s.link l.other).usable then moveAuthority l.other s
    else
      enterHolding (s.setAuthority
        { s.authority with holder := none, changes := inc16 s.authority.changes })
  else s

/-- R138: the output state becomes BLANKED. -/
def blank (s : State) : State :=
  s.setAuthority { s.authority with output := .blanked, holdingTime := 0 }

/-- R150: a new hold time acts at once on both links' freshness; a STALE authority link is a hold
expiry. -/
def applyHoldTime (v : Nat) (s : State) : State :=
  let s := s.setSettings { s.settings with holdTime := v }
  let expires := fun l => (s.link l).fresh && decide (v ≤ (s.link l).age)
  let s' := if expires .a then becomeStale .a s else s
  let s' := if expires .b then becomeStale .b s' else s'
  let s' := if expires .a then holdExpiry .a s' else s'
  if expires .b then holdExpiry .b s' else s'

/-- R138, R150: a new blank-after acts at once on the time in HOLDING. -/
def applyBlankAfter (v : Nat) (s : State) : State :=
  let s := s.setSettings { s.settings with blankAfter := v }
  if s.authority.output = .holding ∧ v ≠ 0 ∧ v * 1000 ≤ s.authority.holdingTime then blank s else s

/-! ## TAKE (R140) -/

/-- The state after a TAKE from `l`, or none where it is refused. A TAKE from the authority link
while that link is not usable meets both the first and the last row of R140's table, to which the
spec gives no order: that the first row is taken, so that the answer is DONE, is the model's choice,
unsafe (log 34). -/
def takeCommand (l : Link) (s : State) : Option State :=
  if s.authority.holder = some l then
    some (s.setAuthority { s.authority with pendingTake := none })
  else if (s.link l).usable then
    some (s.setAuthority { s.authority with pendingTake := some l })
  else none

end Sys2Proof.Machine
end

