-- ==== Sys2Proof/Machine/Reports.lean ====
section
/-! DEFINITION. Outgoing messages and capacity reports (chapter 9, "Capacity reports"; chapter 10,
"Outgoing traffic"; chapter 13 for the codes and layouts). -/

namespace Sys2Proof.Machine

/-! ## Codes (R189) -/

def Result.code : Result → Nat
  | .done => 0
  | .clamped => 1
  | .kept => 2
  | .failed => 3
  | .refusedBad => 4
  | .refusedLocked => 5
  | .refusedState => 6

/-- Authority and pending take. -/
def holderCode : Option Link → Nat
  | none => 0
  | some .a => 1
  | some .b => 2

def OutputState.code : OutputState → Nat
  | .rendering => 0
  | .holding => 1
  | .blanked => 2

def PowerState.code : PowerState → Nat
  | .run => 0
  | .dark => 1
  | .restingEntry => 2
  | .rest => 3
  | .restSample => 4

/-! ## Bytes on the wires (R158, R169, R188, R189; chapter 13) -/

def kindAnswer : Byte := 0x40
def kindCredit : Byte := 0x41
def kindReport : Byte := 0x42

/-- R188: bytes with their CRC behind them, low byte first. -/
def withCrc (bs : List Byte) : List Byte := bs ++ putU16 (crc16 bs).toNat

/-- The header and the body of a link unit: all that its link check covers. -/
def linkBytes (kind tag : Byte) (body : List Byte) : List Byte :=
  kind :: tag :: (putU16 body.length ++ body)

/-- What an answer carries after its tag: the kind answered, the result code, the content. -/
def answerBody (kind : Byte) (r : Result) (content : List Byte) : List Byte :=
  kind :: (putU8 r.code ++ content)

/-- An outgoing message as the unit that goes out: an ANSWER with the tag it echoes, a CREDIT or a
capacity report with tag 0, each with its link check. -/
def Outgoing.unit : Outgoing → List Byte
  | .answer _ tag kind r content => withCrc (linkBytes kindAnswer tag (answerBody kind r content))
  | .credit n => withCrc (linkBytes kindCredit 0 (putU8 n))
  | .report body => withCrc (linkBytes kindReport 0 body)

/-- R169: an answer as the frame that goes out: the start byte, the length, kind ANSWER, the tag it
echoes, the kind answered, the result code, the content, and the CRC over length and body. -/
def ServiceAnswer.frame (a : ServiceAnswer) : List Byte :=
  let body := kindAnswer :: a.tag :: answerBody a.kind a.result a.content
  0x7E :: withCrc (putU16 body.length ++ body)

/-! ## Send queues (R159) -/

/-- A message joins the send queue of a port. -/
def send (l : Link) (m : Outgoing) (s : State) : State :=
  s.setLink l { s.link l with sends := (s.link l).sends ++ [m] }

/-! ## The report (R147 to R149) -/

inductive Cause where
  | periodic
  | capacity
  | short
  | authority
  | output
  | power
deriving DecidableEq, Repr

def Cause.bit : Cause → Nat
  | .periodic => 0
  | .capacity => 1
  | .short => 2
  | .authority => 3
  | .output => 4
  | .power => 5

def causesMask (cs : List Cause) : Nat := maskOf 6 fun n => cs.any fun c => c.bit == n

/-- R148: MIXED, IDENTITY_INVALID, DRIFT_RESET, CONFIG_OPEN. -/
def State.reportFlags (s : State) : Nat :=
  maskOf 4 fun n =>
    match n with
    | 0 => s.builtGeneration == none
    | 1 => !s.store.identityValid
    | 2 => s.store.driftReset
    | _ => s.chip.config == .opened

/-- R148 and chapter 13, "Capacity report": the 43 bytes of a report with number `n`. -/
def State.reportBody (s : State) (n : Nat) (cs : List Cause) : List Byte :=
  putU16 n ++ putU8 (causesMask cs) ++ s.store.constants.serial ++
    putU32 s.gain.tileCapacity ++
    putU8 s.gain.weakest ++ putU8 s.gain.shortCount ++ putU8 s.gain.cappedCount ++
    putU32 s.limitedTotal ++
    putU16 s.authority.record.generation ++ putU16 (s.builtGeneration.getD 0) ++
    putU8 s.reportFlags ++
    putU8 (holderCode s.authority.holder) ++ putU8 s.authority.output.code ++
    putU8 s.chip.power.code ++ putU8 s.sensorsLost ++
    putU32 s.wear.kappa.r ++ putU32 s.wear.kappa.g ++ putU32 s.wear.kappa.b

/-- R149: the report goes out on a READY link. -/
def sendReport (l : Link) (body : List Byte) (s : State) : State :=
  if (s.link l).state = .ready then send l (.report body) s else s

/-- R148, R149: one report, if a link is READY. -/
def report (cs : List Cause) (s : State) : State :=
  if s.linkA.state = .ready ∨ s.linkB.state = .ready then
    let n := wrap16 s.authority.reports
    let body := s.reportBody n cs
    let s := clearLimited (s.setAuthority
      { s.authority with reports := n, lastSent := some s.gain.tileCapacity })
    sendReport .b body (sendReport .a body s)
  else s

/-- R147: the causes a step gives by what it changed, with those its own rule names. -/
def causesOf (extra : List Cause) (before after : State) : List Cause :=
  extra ++
    (if before.authority.holder = after.authority.holder then [] else [.authority]) ++
    (if before.authority.output = after.authority.output then [] else [.output]) ++
    (if before.chip.power = after.chip.power ∧ before.chip.phase = after.chip.phase then []
      else [.power])

/-- R147: the step's triggers give one report; before the end of start-up they give none. -/
def conclude (extra : List Cause) (before after : State) : State :=
  let cs := causesOf extra before after
  if after.started ∧ cs ≠ [] then report cs after else after

end Sys2Proof.Machine
end

