-- ==== Sys2Proof/Machine/Operands.lean ====
section
/-! DEFINITION. What a message or frame asks: the requests, their layouts (chapter 13, "Link
messages", "Service frames") and the form check (R157, R169, R189). -/

namespace Sys2Proof.Machine

/-- The subjects of a QUERY (R189). -/
inductive Subject where
  | zoneStatus
  | storeStatus
  | thermalState
  | wearState
  | gainState
  | composerState
  | sensorState
  | authorityState
  | linkState
  | configuration
deriving DecidableEq, Repr

/-- The settings whose SET carries index 0 and an s32 value (R180). -/
inductive Setting where
  | holdTime
  | blankAfter
  | thermalInterval
  | k
  | rho
  | fCap
  | sensorMap
  | assumedAmbient
  | pilotInterval
  | scrubInterval
  | reportInterval
  | driftSaveInterval
  | restWakeInterval
deriving DecidableEq, Repr

inductive SetOp where
  | jobLevel (k : JobKind) (v : Int)
  | phaseTable (t : List Requester)
  | darkPolicy (bank : Nat) (v : Int)
  | value (x : Setting) (v : Int)
deriving DecidableEq, Repr

/-- The requests a link's prompt message or a service frame makes. -/
inductive Request where
  | wall (r : WallRecord)
  | take
  | dark
  | light
  | rest
  | rebuild (zones : List Nat)
  | query (q : Subject)
  | set (op : SetOp)
  | close
  | reset
deriving DecidableEq, Repr

/-- The requests of a service frame: those it shares with the links, and its own kinds. -/
inductive ToolRequest where
  | shared (r : Request)
  | block (p : BlockProgram)
  | identity (fields : List Byte)
  | trim (codes : Rgb Int)
  | wearClear (zone : Nat)
  | bank (entries : List (Nat × BankMode))
  | latch (bank : Nat) (drive : Rgb Nat)
deriving DecidableEq, Repr

/-! ## Codes of incoming fields (R189) -/

def jobKindOfCode : Nat → Option JobKind
  | 0 => some .gain
  | 1 => some .thermal
  | 2 => some .build
  | 3 => some .scrub
  | _ => none

def requesterOfCode : Nat → Option Requester
  | 0 => some .linkA
  | 1 => some .linkB
  | 2 => some .service
  | 3 => some .composer
  | 4 => some .driftSave
  | _ => none

def modeOfCode : Nat → Option BankMode
  | 0 => some .render
  | 1 => some .direct
  | _ => none

def subjectOfCode : Nat → Option Subject
  | 1 => some .zoneStatus
  | 2 => some .storeStatus
  | 3 => some .thermalState
  | 4 => some .wearState
  | 5 => some .gainState
  | 6 => some .composerState
  | 7 => some .sensorState
  | 8 => some .authorityState
  | 9 => some .linkState
  | 10 => some .configuration
  | _ => none

/-- Settings by their number (R180), but for the job level, the phase table and the dark policy,
which are numbers 1, 2 and 10. -/
def settingOfCode : Nat → Option Setting
  | 3 => some .holdTime
  | 4 => some .blankAfter
  | 5 => some .thermalInterval
  | 6 => some .k
  | 7 => some .rho
  | 8 => some .fCap
  | 9 => some .sensorMap
  | 11 => some .assumedAmbient
  | 12 => some .pilotInterval
  | 13 => some .scrubInterval
  | 14 => some .reportInterval
  | 15 => some .driftSaveInterval
  | 16 => some .restWakeInterval
  | _ => none

/-! ## Kind codes (chapter 13) -/

def kindWall : Byte := 0x10
def kindTake : Byte := 0x11
def kindDark : Byte := 0x12
def kindLight : Byte := 0x13
def kindRest : Byte := 0x14
def kindRebuild : Byte := 0x15
def kindQuery : Byte := 0x16
def kindSet : Byte := 0x17
def kindClose : Byte := 0x18
def kindReset : Byte := 0x19
def kindBlock : Byte := 0x20
def kindTrim : Byte := 0x30
def kindBank : Byte := 0x31
def kindLatch : Byte := 0x32
def kindIdentity : Byte := 0x33
def kindWearClear : Byte := 0x34

/-! ## Layouts -/

/-- A request that carries nothing has an empty body. -/
def parseEmpty (r : Request) (body : List Byte) : Option Request :=
  if body.isEmpty then some r else none

def parseWall (body : List Byte) : Option Request :=
  if body.length = 24 then some (.wall ⟨getU16 0 body, getMat 2 body, getU32 20 body⟩) else none

/-- A count, then that many zone indices. -/
def parseRebuild : List Byte → Option Request
  | [] => none
  | n :: zs => if zs.length = n.toNat then some (.rebuild (zs.map BitVec.toNat)) else none

def parseQuery : List Byte → Option Request
  | [q] => (subjectOfCode q.toNat).map .query
  | _ => none

/-- The s32 value of a SET. -/
def signed32 (v : U32) : Int := v.toInt

/-- R180, R157: a SET's form: the setting's number, an index that its setting admits, and the
length its setting has. -/
def parseSet (body : List Byte) : Option SetOp :=
  let setting := leNat (slice 0 1 body)
  let index := leNat (slice 1 1 body)
  if setting = 2 then
    if body.length = 18 ∧ index = 0 then
      ((body.drop 2).mapM fun b => requesterOfCode b.toNat).map .phaseTable
    else none
  else if body.length = 6 then
    let v := leInt (slice 2 4 body)
    if setting = 1 then (jobKindOfCode index).map fun k => .jobLevel k v
    else if setting = 10 then (if index ≤ 15 then some (.darkPolicy index v) else none)
    else if index = 0 then (settingOfCode setting).map fun x => .value x v
    else none
  else none

/-- R157: the form check of a prompt message; none is a message answered REFUSED_BAD. -/
def parseRequest (kind : Byte) (body : List Byte) : Option Request :=
  if kind = kindWall then parseWall body
  else if kind = kindTake then parseEmpty .take body
  else if kind = kindDark then parseEmpty .dark body
  else if kind = kindLight then parseEmpty .light body
  else if kind = kindRest then parseEmpty .rest body
  else if kind = kindRebuild then parseRebuild body
  else if kind = kindQuery then parseQuery body
  else if kind = kindSet then (parseSet body).map .set
  else if kind = kindClose then parseEmpty .close body
  else if kind = kindReset then parseEmpty .reset body
  else none

/-- A BLOCK's 1156 bytes: block index, 64 pixel records, content CRC. -/
def parseBlock (body : List Byte) : Option BlockProgram :=
  if body.length = 1156 then some ⟨getU16 0 body, slice 2 1152 body, getCrc 1154 body⟩ else none

def parseTrim (body : List Byte) : Option ToolRequest :=
  if body.length = 3 then some (.trim ⟨getS8 0 body, getS8 1 body, getS8 2 body⟩) else none

/-- Pairs of bank and mode. -/
def parsePairs : List Byte → Option (List (Nat × BankMode))
  | [] => some []
  | [_] => none
  | b :: m :: rest =>
    match modeOfCode m.toNat, parsePairs rest with
    | some mode, some l => some ((b.toNat, mode) :: l)
    | _, _ => none

/-- R171: one to 16 entries, each a bank up to 15 and a mode. -/
def bankEntries (es : List (Nat × BankMode)) : Option ToolRequest :=
  if 1 ≤ es.length ∧ es.length ≤ 16 ∧ es.all fun e => decide (e.1 ≤ 15) then some (.bank es)
  else none

def parseBank : List Byte → Option ToolRequest
  | [] => none
  | n :: rest =>
    match parsePairs rest with
    | some es => if es.length = n.toNat then bankEntries es else none
    | none => none

/-- R171: a bank up to 15. -/
def latchRequest (bank : Nat) (drive : Rgb Nat) : Option ToolRequest :=
  if bank ≤ 15 then some (.latch bank drive) else none

def parseLatch (body : List Byte) : Option ToolRequest :=
  if body.length = 7 then
    latchRequest (leNat (slice 0 1 body)) ⟨getU16 1 body, getU16 3 body, getU16 5 body⟩
  else none

/-- R86, R171: a zone up to 15. -/
def wearClearRequest (zone : Nat) : Option ToolRequest :=
  if zone ≤ 15 then some (.wearClear zone) else none

def parseWearClear (body : List Byte) : Option ToolRequest :=
  if body.length = 1 then wearClearRequest (leNat body) else none

def parseIdentity (body : List Byte) : Option ToolRequest :=
  if body.length = 184 then some (.identity body) else none

/-- R169: WALL and TAKE do not come from the tool. -/
def forTool : Request → Option ToolRequest
  | .wall _ | .take => none
  | r => some (.shared r)

/-- R169: the form check of a service frame, with the field checks whose failure is answered
REFUSED_BAD in every state; none is a frame answered REFUSED_BAD. -/
def parseTool (kind : Byte) (body : List Byte) : Option ToolRequest :=
  if kind = kindBlock then (parseBlock body).map .block
  else if kind = kindTrim then parseTrim body
  else if kind = kindBank then parseBank body
  else if kind = kindLatch then parseLatch body
  else if kind = kindIdentity then parseIdentity body
  else if kind = kindWearClear then parseWearClear body
  else (parseRequest kind body).bind forTool

end Sys2Proof.Machine
end

