-- ==== Sys2Proof/Machine/Readback.lean ====
section
/-! DEFINITION. The content of a QUERY answer, subject by subject (R37, R57, R71, R88, R104, R120,
R131, R151, R164, R187), in the forms of R189; log 9 names the choices those leave. -/

namespace Sys2Proof.Machine

/-! ## Codes (R189) -/

def JobKind.code : JobKind → Nat
  | .gain => 0
  | .thermal => 1
  | .build => 2
  | .scrub => 3

def Requester.code : Requester → Nat
  | .linkA => 0
  | .linkB => 1
  | .service => 2
  | .composer => 3
  | .driftSave => 4

def BlockState.code : BlockState → Nat
  | .blank => 0
  | .valid => 1
  | .invalid => 2
  | .programming => 3

def Health.code : Health → Nat
  | .absent => 0
  | .live => 1
  | .suspect => 2
  | .lost => 3

def LinkState.code : LinkState → Nat
  | .down => 0
  | .training => 1
  | .creditPending => 2
  | .ready => 3

def SensedFrom.code : SensedFrom → Nat
  | .quadrant => 0
  | .mean => 1
  | .ambient => 2

def PilotResult.code : PilotResult → Nat
  | .none => 0
  | .applied => 1
  | .missed => 2
  | .bad => 3
  | .skipped => 4
  | .noPrediction => 5

def ClearMark.code : ClearMark → Nat
  | .clear => 0
  | .set => 1
  | .taken => 2

def HeldCommand.code : HeldCommand → Nat
  | .none => 0
  | .light => 1
  | .dark => 2

def ResetCause.code : ResetCause → Nat
  | .power => 0
  | .pin => 1
  | .linkA => 2
  | .linkB => 3
  | .service => 4

def ConfigState.code : ConfigState → Nat
  | .opened => 0
  | .closed => 1

def DarkPolicy.code : DarkPolicy → Nat
  | .park => 0
  | .float => 1

/-- The kind and requester of a grant in force. -/
def Grant.codes : Grant → Requester × Nat
  | .read _ => (.composer, 0)
  | .program who _ => (who, 1)
  | .identity _ => (.service, 2)
  | .save _ => (.driftSave, 3)

/-! ## Shared forms -/

/-- One thing for each of a list's members, in order. -/
def putEach {α : Type} (f : α → List Byte) (l : List α) : List Byte := (l.map f).flatten

/-- One thing for each emitter, R, G, B. -/
def putRgb {α : Type} (f : α → List Byte) (t : Rgb α) : List Byte := f t.r ++ f t.g ++ f t.b

/-- A list of varying length. -/
def putCounted {α : Type} (f : α → List Byte) (l : List α) : List Byte :=
  putU8 l.length ++ putEach f l

/-- A setting's value. -/
def putSetting (v : Int) : List Byte := putS32 v

def putSettings (vs : List Int) : List Byte := putEach putSetting vs

def putEmitter (e : Emitter) : List Byte := putU8 (Emitter.index e)

def zoneIndices : List Nat := List.range 16

/-! ## The subjects -/

/-- R37. -/
def State.readZones (s : State) : List Byte :=
  putEach (fun z : ZoneStatus =>
    putFlag z.built ++ putU16 z.generation ++ putU16 z.saturated ++ putU8 z.fallbackBlocks)
    s.render.zones

/-- The states of the blocks below the block count. -/
def State.blocksInUse (s : State) : List BlockState := s.store.blockStates.take s.blockCount

def State.countBlocks (s : State) (b : BlockState) : Nat := (s.blocksInUse.filter (· == b)).length

/-- R57: the requesters with a request waiting. -/
def Waiting.mask (w : Waiting) : Nat :=
  maskOf 5 fun n =>
    match requesterOfCode n with
    | some r => w.has r
    | Option.none => false

/-- R57: the grant in force. -/
def PortUse.grant : PortUse → Option Grant
  | .granted g => some g
  | .free | .startUp => none

/-- R57. -/
def State.readStore (s : State) : List Byte :=
  putU16 s.blocksInUse.length ++ putEach (fun b => putU8 b.code) s.blocksInUse ++
    putU16 (s.countBlocks .blank) ++ putU16 (s.countBlocks .valid) ++
    putU16 (s.countBlocks .invalid) ++ putU16 (s.countBlocks .programming) ++
    putFlag s.store.identityValid ++ putFlag (!s.store.identityValid) ++
    s.store.constants.serial ++
    putFlag s.store.driftValid ++ putFlag s.store.driftReset ++
    putU16 s.store.scrubPointer ++ putU16 s.store.programFailures ++
    putU16 s.store.scrubFailures ++ putU16 s.store.saveFailures ++
    putU8 s.store.waiting.mask ++
    putOption 2 (fun g : Grant => putU8 (Requester.code g.codes.1) ++ putU8 g.codes.2)
      s.store.port.grant

/-- R71, R189: a round's owed sensors and marks. -/
def putRound (r : Round) : List Byte :=
  putU8 (maskOf 4 r.owed.contains) ++
    putU8 (maskOf 3 fun n => match n with | 0 => r.thermal | 1 => r.sample | _ => r.start)

/-- R71. -/
def State.readThermal (s : State) : List Byte :=
  putEach (fun z => putS16 (s.thermal.temps.getD z 400) ++ putU16 (s.thermal.meanLoad.getD z 0))
    zoneIndices ++
    putEach (fun z => putS16 (s.sensed z).1 ++ putU8 (s.sensed z).2.code) zoneIndices ++
    putU8 s.thermal.ticks ++ putOption 2 putRound s.thermal.round ++
    putSettings [s.settings.thermalInterval, s.settings.rho, s.settings.k,
      s.settings.assumedAmbient]

/-- R88, R189: the pilot state with its emitter. -/
def PilotState.bytes : PilotState → List Byte
  | .idle => putU8 0 ++ putU8 0
  | .settle e => putU8 1 ++ putEmitter e
  | .read e => putU8 2 ++ putEmitter e

/-- R88. The order is the model's choice where the rule's words leave it open (log 9): all 51
counters first, then the h16 of all 51; κ and trim, and result and ratio, emitter by emitter. -/
def State.readWear (s : State) : List Byte :=
  let w := s.wear
  let counters := w.zones ++ [w.pilot]
  putEach (putRgb putU48) counters ++ putEach (putRgb fun c => putU32 (wearHours c)) counters ++
    putU32 w.kappa.r ++ putS8 w.trim.r ++ putU32 w.kappa.g ++ putS8 w.trim.g ++
    putU32 w.kappa.b ++ putS8 w.trim.b ++
    w.state.bytes ++ putOption 1 putEmitter w.staleRead ++ putU16 w.misses ++
    putU16 w.sequences ++
    putU8 w.results.r.code ++ putU32 w.ratios.r ++ putU8 w.results.g.code ++ putU32 w.ratios.g ++
    putU8 w.results.b.code ++ putU32 w.ratios.b ++
    putEach (fun m : ClearMark => putU8 m.code) w.clearMarks ++
    putSettings [s.settings.pilotInterval, s.settings.driftSaveInterval]

def putGains (g : List (Rgb Nat)) : List Byte := putEach (putRgb putU32) g

/-- R104. -/
def State.readGain (s : State) : List Byte :=
  let g := s.gain
  putEach (fun z : ZoneGain =>
    putU32 z.capacity ++ putEmitter z.limiting ++ putFlag z.short ++ putFlag z.capped ++
      putRgb putU32 z.efficiency) g.zones ++
    putU32 g.tileCapacity ++ putU8 g.weakest ++ putU8 g.shortCount ++ putU8 g.cappedCount ++
    putU32 g.ceilingUsed ++ putU32 s.authority.record.ceiling ++
    putGains s.render.applied ++ putOption 192 putGains s.render.pendingGain ++
    putU16 g.runs ++ putSetting s.settings.fCap

/-- The kind of a job's work. -/
def Work.kind : Work → JobKind
  | .gain _ => .gain
  | .thermal _ => .thermal
  | .build => .build
  | .scrub _ _ => .scrub

/-- R120. -/
def State.readComposer (s : State) : List Byte :=
  let c := s.composer
  putU8 c.levels.gain ++ putU8 c.levels.thermal ++ putU8 c.levels.build ++ putU8 c.levels.scrub ++
    putFlag c.gainPending ++ putFlag c.thermalPending ++ putFlag c.scrubPending ++
    putFlag c.buildPending ++
    putOption 2 (fun r : Running => putU8 (JobKind.code r.work.kind) ++ putU8 r.level) c.running ++
    putFlag c.parked ++
    putCounted (fun e : Suspended => putU8 (JobKind.code e.kind) ++ putU8 e.level)
      c.stack.reverse ++
    putFlag s.composerStopped ++ putU16 c.suspensions

def SensorRequest.bytes : SensorRequest → List Byte
  | .temp q => putU8 0 ++ putU8 q
  | .light e => putU8 1 ++ putEmitter e

/-- R131. -/
def State.readSensors (s : State) : List Byte :=
  let n := s.sensors
  putEach (fun q =>
    putU8 (s.tempHealth q).code ++ putU8 (s.tempRecord q).misses ++
      putOption 2 putS16 (s.tempRecord q).reading ++ putFlag (s.settings.sensorMap.contains q))
    (List.range 4) ++
    putU8 n.light.health.code ++ putU8 n.light.misses ++
    putRgb (putOption 2 putU16) n.light.readings ++
    putEach (fun k : SensorCounts => putU16 k.good ++ putU16 k.bad ++ putU16 k.missed) n.counts ++
    putU16 n.late ++ putU16 n.checkFailures ++
    putCounted (fun e : QueuedRequest => e.request.bytes ++ putU8 e.requesters.length) n.queue ++
    putOption 3 (fun t : Transaction => t.request.bytes ++ putU8 t.requesters.length) n.inFlight

def putRecord (r : WallRecord) : List Byte :=
  putU16 r.generation ++ putMat r.target ++ putU32 r.ceiling

/-- R151: the authority unit's view of one link. -/
def LinkPort.readView (p : LinkPort) : List Byte :=
  putFlag p.fresh ++ putU32 p.age ++ putOption 24 putRecord p.stored ++ putU32 p.rowsDiscarded

/-- R151. -/
def State.readAuthority (s : State) : List Byte :=
  let a := s.authority
  putU8 (holderCode a.holder) ++ putU8 (holderCode a.pendingTake) ++ putU8 a.output.code ++
    putU32 s.holdTimer ++ putU32 a.holdingTime ++ s.linkA.readView ++ s.linkB.readView ++
    putRecord a.record ++ putOption 4 putU32 a.lastSent ++ putU16 a.reports ++
    putU16 a.changes ++ putU16 a.holdings ++
    putSettings [s.settings.holdTime, s.settings.blankAfter, s.settings.reportInterval]

/-- R164: the program outstanding and its block. -/
def LinkPort.outstandingBlock (p : LinkPort) : Nat × Option Nat :=
  match p.outstanding with
  | .none => (0, none)
  | .current => (1, p.bulk.head?.map fun e => e.program.block)
  | .orphaned b => (2, some b)

def LinkCounts.bytes (k : LinkCounts) : List Byte :=
  putU32 k.checkFailures ++ putU32 k.notReady ++ putU32 k.unexpectedInit ++
    putU32 k.promptOverflow ++ putU32 k.overrun ++ putU32 k.blockRefusals ++
    putU32 k.sequenceGaps ++ putU32 k.rowCheck ++ putU32 k.rowIndex ++ putU32 k.rowLength

/-- R164: the context of one port. The model's choice (log 9): the bulk queue's depth is sent as a
field of its own, and the list of block indices behind it has its own count. -/
def LinkPort.readContext (p : LinkPort) : List Byte :=
  putU8 p.state.code ++ putU8 p.credits ++ putU8 p.prompts.length ++ putU8 p.bulk.length ++
    putCounted (fun e : BulkEntry => putU16 e.program.block) p.bulk ++
    putU8 p.outstandingBlock.1 ++ putOption 2 putU16 p.outstandingBlock.2 ++
    putOption 2 putU16 p.lastSequence ++ p.counts.bytes

/-- R164. The model's choice (log 9): all of port A's context, then all of port B's. -/
def State.readLinks (s : State) : List Byte := s.linkA.readContext ++ s.linkB.readContext

/-- R187: every setting, in the order of the settings table. -/
def State.readSettings (s : State) : List Byte :=
  let c := s.composer.levels
  let v := s.settings
  putSettings [c.gain, c.thermal, c.build, c.scrub] ++
    putEach (fun r => putU8 (Requester.code r)) s.store.phaseTable ++
    putSettings [v.holdTime, v.blankAfter, v.thermalInterval, v.k, v.rho, v.fCap,
      maskOf 4 v.sensorMap.contains] ++
    putEach (fun b : Bank => putSetting (DarkPolicy.code b.policy)) s.driver.banks ++
    putSettings [v.assumedAmbient, v.pilotInterval, v.scrubInterval, v.reportInterval,
      v.driftSaveInterval, v.restWakeInterval]

/-- R187. -/
def State.readConfiguration (s : State) : List Byte :=
  let c := s.chip
  putU8 c.config.code ++ putU8 c.power.code ++ putU8 c.held.code ++
    putU8 (maskOf 5 fun n => c.causes.any fun x => x.code == n) ++
    putU8 c.straps.width.val ++ putU8 c.straps.height.val ++ putFlag c.straps.serviceEnable ++
    putU16 s.width ++ putU16 s.height ++ putU16 s.blockCount ++
    putU32 s.timebase.millis ++ putU16 c.restWake ++ s.readSettings ++
    putU16 s.service.crcFailures ++ putU16 s.service.framingDiscards ++
    putU16 s.service.syncRejects ++ putU16 s.service.answerDrops

/-- The owner's content for a subject. -/
def State.content (s : State) : Subject → List Byte
  | .zoneStatus => s.readZones
  | .storeStatus => s.readStore
  | .thermalState => s.readThermal
  | .wearState => s.readWear
  | .gainState => s.readGain
  | .composerState => s.readComposer
  | .sensorState => s.readSensors
  | .authorityState => s.readAuthority
  | .linkState => s.readLinks
  | .configuration => s.readConfiguration

end Sys2Proof.Machine
end

