-- ==== Sys2Proof/Machine/Settings.lean ====
section
/-! DEFINITION. The SETs (R180 and the settings table of chapter 12): locks, ranges, and what each
new value does at its owner. -/

namespace Sys2Proof.Machine

/-- What handling a request gives: the answer's result and content, and the state. -/
structure Acted where
  result  : Result
  content : List Byte
  state   : State

/-- A request carried out with an answer that carries no content. -/
def acted (r : Result) (s : State) : Acted := ⟨r, [], s⟩

def State.isClosed (s : State) : Bool := s.chip.config == .closed

/-- Settings locked while configuration is CLOSED (settings table). -/
def Setting.locked : Setting → Bool
  | .thermalInterval | .k | .rho | .fCap | .sensorMap => true
  | .holdTime | .blankAfter | .assumedAmbient | .pilotInterval | .scrubInterval
  | .reportInterval | .driftSaveInterval | .restWakeInterval => false

/-- R70: the largest allowed thermal interval not above `v`, or 125 ms. -/
def thermalIntervalFor (v : Int) : Int :=
  if 1000 ≤ v then 1000 else if 500 ≤ v then 500 else if 250 ≤ v then 250 else 125

/-- The value a setting takes for a SET of `v` (settings table, R70, R150). The sensor map is set
by R129 and not here. -/
def Setting.brought (x : Setting) (v : Int) : Int :=
  match x with
  | .holdTime => clampInt 20 1000 v
  | .blankAfter => if v = 0 then 0 else clampInt 1 600 v
  | .thermalInterval => thermalIntervalFor v
  | .k => clampInt 1 255 v
  | .rho => clampInt 0 1023 v
  | .fCap => clampInt 65536 131072 v
  | .sensorMap => v
  | .assumedAmbient => clampInt (-640) 2000 v
  | .pilotInterval | .driftSaveInterval => clampInt 1 60 v
  | .scrubInterval | .reportInterval => clampInt 100 10000 v
  | .restWakeInterval => clampInt 1 255 v

/-- R129: the sensor map of a mask. -/
def mapOfMask (v : Int) : List Nat := (List.range 4).filter fun q => v.toNat.testBit q

/-- A new value of a setting acts on its owner at once (R180). -/
def applySetting (x : Setting) (v : Int) (s : State) : State :=
  let c := s.settings
  let n := v.toNat
  match x with
  | .holdTime => settle (applyHoldTime n s)
  | .blankAfter => settle (applyBlankAfter n s)
  | .thermalInterval => s.setSettings { c with thermalInterval := n }
  | .k => s.setSettings { c with k := n }
  | .rho => s.setSettings { c with rho := n }
  | .fCap => capGains n (s.setSettings { c with fCap := n })
  | .sensorMap => remapSensors (mapOfMask v) s
  | .assumedAmbient => s.setSettings { c with assumedAmbient := v }
  | .pilotInterval => s.setSettings { c with pilotInterval := n }
  | .scrubInterval => s.setSettings { c with scrubInterval := n }
  | .reportInterval => s.setSettings { c with reportInterval := n }
  | .driftSaveInterval => s.setSettings { c with driftSaveInterval := n }
  | .restWakeInterval => s.setSettings { c with restWakeInterval := n }

/-- R180, R129, R150: a SET of a setting with an s32 value. -/
def setValue (x : Setting) (v : Int) (s : State) : Acted :=
  if s.isClosed ∧ (x.locked ∨ (x = .blankAfter ∧ v = 0)) then acted .refusedLocked s
  else if x = .sensorMap ∧ (v < 0 ∨ 15 < v) then acted .refusedBad s
  else acted (if x.brought v = v then .done else .clamped) (applySetting x (x.brought v) s)

/-- R111: a SET of a job level. -/
def setJobLevel (k : JobKind) (v : Int) (s : State) : Acted :=
  if v < 0 ∨ 3 < v then acted .refusedBad s
  else if v = 3 ∧ (k = .gain ∨ k = .thermal) then acted .kept s
  else acted .done (settleWork (s.setComposer
    { s.composer with levels := s.composer.levels.set k v.toNat }))

/-- R56: a table that names all five requesters. -/
def namesAll (t : List Requester) : Bool :=
  [Requester.linkA, .linkB, .service, .composer, .driftSave].all t.contains

/-- R56: a SET of the phase table. -/
def setPhaseTable (t : List Requester) (s : State) : Acted :=
  if s.isClosed then acted .refusedLocked s
  else if namesAll t then
    acted .done (s.setStore { s.store with phaseTable := t, phasePointer := 0 })
  else acted .refusedBad s

def policyOfCode (v : Int) : Option DarkPolicy :=
  if v = 0 then some .park else if v = 1 then some .float else none

/-- R180, R17: a SET of a bank's dark policy. -/
def setDarkPolicy (b : Nat) (v : Int) (s : State) : Acted :=
  if s.isClosed then acted .refusedLocked s
  else match policyOfCode v with
    | some p => acted .done (setBankPolicy b p s)
    | none => acted .refusedBad s

/-- R180. -/
def performSet (op : SetOp) (s : State) : Acted :=
  match op with
  | .jobLevel k v => setJobLevel k v s
  | .phaseTable t => setPhaseTable t s
  | .darkPolicy b v => setDarkPolicy b v s
  | .value x v => setValue x v s

end Sys2Proof.Machine
end

