-- ==== Sys2Proof/Machine/Handling.lean ====
section
/-! DEFINITION. The handling of requests by their owners, and of the head of a link's prompt queue
(R157, R158). -/

namespace Sys2Proof.Machine

/-- Where a request comes from. -/
inductive Origin where
  | link (l : Link)
  | tool
deriving DecidableEq, Repr

/-- R146, R172: a power command is passed on from the authority link and from the tool. -/
def State.mayCommand (s : State) : Origin → Bool
  | .link l => s.authority.holder == some l
  | .tool => true

/-- R146, R181: DARK, LIGHT and REST. -/
def powerCommand (o : Origin) (f : State → State) (s : State) : Acted :=
  if s.mayCommand o then acted .done (settle (f s)) else acted .refusedState s

/-- R142: a ceiling above 65536 is clamped. -/
def clampRecord (r : WallRecord) : WallRecord := { r with ceiling := min 65536 r.ceiling }

/-- R142. -/
def performWall (l : Link) (r : WallRecord) (s : State) : Acted :=
  acted (if r.ceiling ≤ 65536 then .done else .clamped)
    (settleWork (storeRecord l (clampRecord r) s))

/-- R140. -/
def performTake (l : Link) (s : State) : Acted :=
  match takeCommand l s with
  | some s' => acted .done s'
  | none => acted .refusedState s

/-- R27. -/
def performRebuild (zs : List Nat) (s : State) : Acted :=
  if zs.isEmpty ∨ zs.any fun z => decide (15 < z) then acted .refusedBad s
  else acted .done (settleWork (joinBuild zs s))

/-- R179. -/
def closeConfiguration (s : State) : State :=
  if s.isClosed then s
  else settle (s.setChip { s.chip with config := .closed, causes := [] })

/-- R157, R169: the owner's rule for a request of good form. -/
def perform (o : Origin) (r : Request) (s : State) : Acted :=
  match r with
  | .wall r =>
    (match o with
     | .link l => performWall l r s
     | .tool => acted .refusedBad s)
  | .take =>
    (match o with
     | .link l => performTake l s
     | .tool => acted .refusedBad s)
  | .dark => powerCommand o commandDark s
  | .light => powerCommand o commandLight s
  | .rest => powerCommand o commandRest s
  | .rebuild zs => performRebuild zs s
  | .query q => ⟨.done, s.content q, s⟩
  | .set op => performSet op s
  | .close => acted .done (closeConfiguration s)
  | .reset => acted .done s

/-! ## Prompt queues (R157) -/

/-- R157: the port may take its queue's head. -/
def State.mayTakePrompt (s : State) (l : Link) : Bool := s.started && !(s.link l).awaiting

/-- The head leaves the queue as its handling begins, and its answer is awaited (R156, R157). -/
def beginPrompt (l : Link) (rest : List Message) (s : State) : State :=
  s.setLink l { s.link l with prompts := rest, awaiting := true }

/-- R158: the answer of a prompt. A RESET's is marked (R157). -/
def answerPrompt (l : Link) (m : Message) (isReset : Bool) (a : Acted) : State :=
  send l
    (.answer (if isReset then .resetPrompt else .prompt) m.tag m.kind a.result a.content) a.state

/-- R157: the head `m`, of request `r`, handled and answered. -/
def handlePrompt (l : Link) (m : Message) (rest : List Message) (r : Request) (s : State) : State :=
  answerPrompt l m (r == .reset) (perform (.link l) r (beginPrompt l rest s))

/-- The head handled where it is a request that `mine` names; nothing otherwise (log 1). -/
def promptStep (l : Link) (mine : Request → Bool) (s : State) : State :=
  if s.mayTakePrompt l then
    match (s.link l).prompts with
    | m :: rest =>
      (match parseRequest m.kind m.body with
       | some r => if mine r then conclude [] s (handlePrompt l m rest r s) else s
       | none => s)
    | [] => s
  else s

/-- R157: the head refused where its kind is unknown or its form wrong. -/
def refusePrompt (l : Link) (s : State) : State :=
  if s.mayTakePrompt l then
    match (s.link l).prompts with
    | m :: rest =>
      (match parseRequest m.kind m.body with
       | some _ => s
       | none => answerPrompt l m false (acted .refusedBad (beginPrompt l rest s)))
    | [] => s
  else s

end Sys2Proof.Machine
end

