-- ==== Sys2Proof/Machine/Service.lean ====
section
/-! DEFINITION. The service line (chapter 11): answers, the program path, the handling of a frame,
the receive automaton, sync and the return to AWAIT_SYNC. -/

namespace Sys2Proof.Machine

/-! ## Answers (R169) -/

/-- One more answer dropped. -/
def countDrop (n : Nat) (s : State) : State :=
  s.setService { s.service with answerDrops := satAdd 65535 s.service.answerDrops n }

/-- An answer joins the send queue. -/
def pushAnswer (a : ServiceAnswer) (s : State) : State :=
  s.setService { s.service with sends := s.service.sends ++ [a] }

/-- The send queue holds 8 answers. -/
def State.serviceFull (s : State) : Bool := decide (8 ≤ s.service.sends.length)

/-- R169: an answer produced at a completion is dropped where the queue is full. -/
def answerLater (a : ServiceAnswer) (s : State) : State :=
  if s.serviceFull then countDrop 1 s else pushAnswer a s

/-! ## The program path (R170) -/

def ServiceProgram.kind : ServiceProgram → Byte
  | .block _ => kindBlock
  | .identity _ => kindIdentity

/-- The request is placed as SERVICE and becomes the program outstanding. -/
def placeTool (tag : Byte) (p : ServiceProgram) (s : State) : State :=
  let s := placeService p s
  s.setService { s.service with outstanding := some ⟨tag, p.kind, false⟩ }

/-- What handling a frame gives: an answer at once, or a program accepted and answered later. -/
inductive ToolActed where
  | answered (a : Acted)
  | accepted (s : State)

/-- R170: a program that has passed its checks is placed, held or refused. -/
def offerProgram (tag : Byte) (p : ServiceProgram) (s : State) : ToolActed :=
  match s.service.outstanding, s.service.hold with
  | none, _ => .accepted (settleStore (placeTool tag p s))
  | some _, none => .accepted (s.setService { s.service with hold := some ⟨tag, p⟩ })
  | some _, some _ => .answered (acted .refusedState s)

/-- R160, R170: a BLOCK's index and content. -/
def State.blockGood (s : State) (p : BlockProgram) : Bool :=
  decide (p.block < s.blockCount) && crc16 p.records == p.crc

/-- R170. -/
def toolBlock (tag : Byte) (p : BlockProgram) (s : State) : ToolActed :=
  if s.blockGood p then offerProgram tag (.block p) s else .answered (acted .refusedBad s)

/-- R170, R43. -/
def toolIdentity (tag : Byte) (fields : List Byte) (s : State) : ToolActed :=
  if s.isClosed then .answered (acted .refusedLocked s)
  else if identityInRange fields then offerProgram tag (.identity fields) s
  else .answered (acted .refusedBad s)

/-- R171: each named bank takes its mode, in list order. -/
def setBankModes (es : List (Nat × BankMode)) (s : State) : State :=
  es.foldl (fun s e => setBankMode e.1 e.2 s) s

/-- R169 to R172: the owner's rule for a frame of good form. -/
def performTool (tag : Byte) (t : ToolRequest) (s : State) : ToolActed :=
  match t with
  | .shared r => .answered (perform .tool r s)
  | .block p => toolBlock tag p s
  | .identity fields => toolIdentity tag fields s
  | .trim codes => .answered (acted .done (settleWork (setTrims codes s)))
  | .wearClear z => .answered (acted .done (settleWork (clearWear z s)))
  | .bank es => .answered (acted .done (setBankModes es s))
  | .latch b v => .answered (acted .done (setBankLatch b v s))

/-- The frame's one answer, or none yet. -/
def answerTool (tag kind : Byte) (isReset : Bool) : ToolActed → State
  | .answered a => pushAnswer ⟨tag, kind, a.result, a.content, isReset⟩ a.state
  | .accepted s => s

/-- R169: a frame that has passed its CRC; `req` is what its form check gives. -/
def handleFrame (tag kind : Byte) (req : Option ToolRequest) (s : State) : State :=
  if s.serviceFull then countDrop 1 s
  else if s.started then
    match req with
    | some t => answerTool tag kind (t == .shared .reset) (performTool tag t s)
    | none => pushAnswer ⟨tag, kind, .refusedBad, [], false⟩ s
  else pushAnswer ⟨tag, kind, .refusedState, [], false⟩ s

/-- The line has a rate and the part has power. -/
def State.serviceLocked (s : State) : Bool := s.live && s.service.line == .locked

/-- A request row of the table that came as a service frame: nothing happens where no line is
LOCKED (log 1). -/
def toolStep (tag kind : Byte) (req : Option ToolRequest) (s : State) : State :=
  if s.serviceLocked then conclude [] s (handleFrame tag kind req s) else s

/-- A request row: from the head of a link's prompt queue, or as a service frame. -/
def requestStep {α : Type} (v : Via α) (mine : Request → Bool) (kind : Byte)
    (req : α → Option Request) (s : State) : State :=
  match v with
  | .port l => promptStep l mine s
  | .tool tag a => toolStep tag kind ((req a).map .shared) s

/-! ## Completions (R167, R170) -/

/-- The hold's entry is placed, or an IDENTITY that has met a CLOSE is refused. -/
def releaseHold (s : State) : State :=
  match s.service.hold with
  | none => s
  | some h =>
    let s := s.setService { s.service with hold := none }
    match h.program with
    | .block _ => placeTool h.tag h.program s
    | .identity _ =>
      if s.isClosed then answerLater ⟨h.tag, kindIdentity, .refusedLocked, [], false⟩ s
      else placeTool h.tag h.program s

/-- R170: the completion of the program outstanding is answered, or dropped after a return to
AWAIT_SYNC; the hold's entry leaves it. -/
def completeService (ok : Bool) (s : State) : State :=
  match s.service.outstanding with
  | some o =>
    let s := s.setService { s.service with outstanding := none }
    let answer : ServiceAnswer := ⟨o.tag, o.kind, if ok then .done else .failed, [], false⟩
    releaseHold (if o.dropped then countDrop 1 s else answerLater answer s)
  | none => s

/-! ## Receiving (R168) -/

def setReceiving (r : Option (List Byte)) (s : State) : State :=
  s.setService { s.service with receiving := r }

def countFraming (s : State) : State :=
  s.setService { s.service with framingDiscards := inc16 s.service.framingDiscards }

/-- A frame in progress, or a byte of none, is discarded and counted. -/
def discardFrame (s : State) : State := countFraming (setReceiving none s)

/-- The last CRC byte has come: `buf` holds the length bytes, the body and the CRC. -/
def endFrame (buf : List Byte) (s : State) : State :=
  let s := setReceiving none s
  let len := getU16 0 buf
  if crc16 (buf.take (len + 2)) = getCrc (len + 2) buf then
    let body := slice 2 len buf
    let kind := body.getD 0 0
    let tag := body.getD 1 0
    conclude [] s (handleFrame tag kind (parseTool kind (body.drop 2)) s)
  else s.setService { s.service with crcFailures := inc16 s.service.crcFailures }

/-- R168: one byte of a frame in progress. -/
def receiveInFrame (buf : List Byte) (b : LineByte) (s : State) : State :=
  let buf' := buf ++ [b.value]
  let len := getU16 0 buf'
  if !b.stopOk then discardFrame s
  else if buf'.length = 2 ∧ (len < 2 ∨ 1280 < len) then discardFrame s
  else if 2 ≤ buf'.length ∧ buf'.length = len + 4 then endFrame buf' s
  else setReceiving (some buf') s

/-- R168: one byte received; the idle timer restarts at each (R167). -/
def receiveByte (b : LineByte) (s : State) : State :=
  let s := s.setService { s.service with idle := 0 }
  match s.service.receiving with
  | none =>
    if b.stopOk && b.value == 0x7E then setReceiving (some []) s else discardFrame s
  | some buf => receiveInFrame buf b s

def serviceFrame (bytes : List LineByte) (s : State) : State :=
  if s.serviceLocked then bytes.foldl (fun s b => receiveByte b s) s else s

/-- R168: no byte for 10 ms. -/
def serviceFrameTimeout (s : State) : State :=
  if s.serviceLocked && s.service.receiving.isSome then discardFrame s else s

/-! ## Sync and return (R166, R167) -/

/-- R166: a low period of length `low` measured in AWAIT_SYNC. -/
def sync (low : Nat) (s : State) : State :=
  if s.live && s.chip.straps.serviceEnable && s.service.line == .awaitSync then
    let bit := low / 9
    if 16 ≤ bit ∧ bit ≤ 1667 then
      conclude [] s (settle (reportSync (s.setService
        { s.service with
          line := .locked, bitTime := some bit, receiving := none, idle := 0
          wire := s.service.wire ++ [0x6C] })))
    else s.setService { s.service with syncRejects := inc16 s.service.syncRejects }
  else s

/-- The warm reset that a message asked for is due once its answer is sent or dropped. -/
def dueReset (c : WarmCause) (s : State) : State :=
  s.setChip
    { s.chip with
      resetDue := if s.chip.resetDue.contains c then s.chip.resetDue else s.chip.resetDue ++ [c] }

/-- R167, R172: the return to AWAIT_SYNC. -/
def returnToSync (s : State) : State :=
  let v := s.service
  let drops := v.sends.length + (if v.hold.isSome then 1 else 0)
  let s' := countDrop drops (s.setService
    { v with
      line := .awaitSync, bitTime := none, receiving := none, sends := [], hold := none
      outstanding := v.outstanding.map fun o => { o with dropped := true } })
  if v.sends.any (·.isReset) then dueReset .service s' else s'

/-- R167: a low period longer than 20 bit times. -/
def serviceBreak (low : Nat) (s : State) : State :=
  if s.serviceLocked && decide (20 * s.service.bitTime.getD 0 < low) then returnToSync s else s

/-- R167: the idle timer reaches 5 s. -/
def serviceIdle (s : State) : State :=
  if s.serviceLocked then
    let s := returnToSync s
    s.setService { s.service with idle := 5000 }
  else s

/-- R169, R172: the oldest answer has been sent: its frame is on the transmit wire. -/
def serviceSent (s : State) : State :=
  match s.service.sends with
  | a :: rest =>
    let s := s.setService
      { s.service with sends := rest, wire := s.service.wire ++ a.frame }
    if a.isReset then dueReset .service s else s
  | [] => s

end Sys2Proof.Machine
end

