-- ==== Sys2Proof/Machine/Links.lean ====
section
/-! DEFINITION. The link ports (chapter 10): bring-up, receipt, the prompt and bulk queues, frame
traffic, completions, the DOWN. -/

namespace Sys2Proof.Machine

def setCounts (l : Link) (f : LinkCounts → LinkCounts) (s : State) : State :=
  s.setLink l { s.link l with counts := f (s.link l).counts }

/-! ## Bring-up (R153) -/

def setLinkState (l : Link) (x : LinkState) (s : State) : State :=
  s.setLink l { s.link l with state := x }

/-- CREDIT(4) is offered and the resend timer starts. -/
def offerCredits (l : Link) (s : State) : State :=
  send l (.credit 4) (s.setLink l { s.link l with resend := 10 })

/-- R153: a signal is detected in DOWN. -/
def signalDetected (l : Link) (s : State) : State :=
  if s.live ∧ (s.link l).state = .down then setLinkState l .training s else s

/-- R153: symbol lock is gained in TRAINING. -/
def symbolLock (l : Link) (s : State) : State :=
  if s.live ∧ (s.link l).state = .training then offerCredits l (setLinkState l .creditPending s)
  else s

/-- R153: the credit resend timer expires. -/
def creditResend (l : Link) (s : State) : State :=
  if s.timebaseRuns ∧ (s.link l).state = .creditPending then offerCredits l s else s

/-- R153: an INIT in CREDIT_PENDING. -/
def becomeReady (l : Link) (s : State) : State :=
  s.setLink l { s.link l with state := .ready, credits := 4, resend := 0 }

/-! ## Bulk queue (R160, R161) -/

/-- R161: with nothing outstanding, the head entry's program is requested. -/
def requestHead (l : Link) (s : State) : State :=
  let p := s.link l
  match p.outstanding, p.bulk with
  | .none, e :: _ => placeProgram l e.program (s.setLink l { p with outstanding := .current })
  | .none, [] | .current, _ | .orphaned _, _ => s

/-- A BLOCK is answered and its credit returned (R158, R159). -/
def answerBlock (l : Link) (tag : Byte) (r : Result) (s : State) : State :=
  send l (.credit 1) (send l (.answer .bulk tag kindBlock r []) s)

/-- R160 steps 2 and 4: the BLOCK takes a credit and joins the bulk queue. -/
def admitBlock (l : Link) (tag : Byte) (p : BlockProgram) (s : State) : State :=
  let c := s.link l
  settleStore (requestHead l
    (s.setLink l { c with credits := c.credits - 1, bulk := c.bulk ++ [⟨tag, p⟩] }))

/-- R160 step 3: the BLOCK is refused; its credit is taken and given back. -/
def refuseBlock (l : Link) (tag : Byte) (s : State) : State :=
  answerBlock l tag .refusedBad
    (setCounts l (fun k => { k with blockRefusals := inc32 k.blockRefusals }) s)

/-- R160: a BLOCK on a READY link. -/
def takeBlock (l : Link) (tag : Byte) (body : List Byte) (s : State) : State :=
  if (s.link l).credits = 0 then
    setCounts l (fun k => { k with overrun := inc32 k.overrun }) s
  else match parseBlock body with
    | some p => if s.blockGood p then admitBlock l tag p s else refuseBlock l tag s
    | none => refuseBlock l tag s

/-- R161, R154: the completion of the port's program request. -/
def completeLink (l : Link) (ok : Bool) (s : State) : State :=
  let c := s.link l
  match c.outstanding, c.bulk with
  | .current, e :: rest =>
    requestHead l (answerBlock l e.tag (if ok then .done else .failed)
      (s.setLink l { c with bulk := rest, credits := c.credits + 1, outstanding := .none }))
  | .current, [] => s.setLink l { c with outstanding := .none }
  | .orphaned _, _ =>
    let s' := s.setLink l { c with outstanding := .none }
    if c.state = .ready then requestHead l s' else s'
  | .none, _ => s

/-! ## Frame traffic (R162, R163) -/

/-- R162: the sequence does not follow the last. -/
def sequenceGap (last : Option Nat) (n : Nat) : Bool :=
  match last with
  | some k => n != (k + 1) % 65536
  | none => false

/-- R162: a FRAME_HEAD on a READY link. -/
def passFrameHead (l : Link) (body : List Byte) (s : State) : State :=
  let n := getU16 0 body
  let c := s.link l
  let s := if sequenceGap c.lastSequence n then
      setCounts l (fun k => { k with sequenceGaps := inc32 k.sequenceGaps }) s
    else s
  let s := s.setLink l { s.link l with lastSequence := some n }
  conclude [] s (settle (takeFrameHead l s))

/-- The pixels of a ROW's body: triples of u16. -/
def rowPixels : List Byte → List (Rgb Nat)
  | a :: b :: c :: d :: e :: f :: rest =>
    ⟨leNat [a, b], leNat [c, d], leNat [e, f]⟩ :: rowPixels rest
  | _ => []

/-- R163: a ROW of at least 4 bytes on a READY link. -/
def passRow (l : Link) (body : List Byte) (s : State) : State :=
  let covered := body.take (body.length - 2)
  let y := getU16 0 body
  if crc16 covered ≠ getCrc (body.length - 2) body then
    setCounts l (fun k => { k with rowCheck := inc32 k.rowCheck }) s
  else if s.height ≤ y then
    setCounts l (fun k => { k with rowIndex := inc32 k.rowIndex }) s
  else if body.length ≠ 4 + 6 * s.width then
    setCounts l (fun k => { k with rowLength := inc32 k.rowLength }) s
  else takeRow l y (rowPixels (covered.drop 2)) s

/-! ## Receipt (R155, R156) -/

/-- R156: a message enters the prompt queue, or finds it full. -/
def enqueuePrompt (l : Link) (kind : Byte) (u : LinkUnit) (s : State) : State :=
  let c := s.link l
  if c.prompts.length < 8 then s.setLink l { c with prompts := c.prompts ++ [⟨kind, u.tag, u.body⟩] }
  else setCounts l (fun k => { k with promptOverflow := inc32 k.promptOverflow }) s

/-- The bytes a link check covers: header and body (R188). The header's length is the body's
size (log 10). -/
def checkedBytes (kind : Byte) (u : LinkUnit) : List Byte := linkBytes kind u.tag u.body

def linkCheckPasses (kind : Byte) (u : LinkUnit) : Bool := crc16 (checkedBytes kind u) == u.check

def countNotReady (l : Link) (s : State) : State :=
  setCounts l (fun k => { k with notReady := inc32 k.notReady }) s

/-- R155: a message whose link check fails is discarded and counted. -/
def countCheckFailure (l : Link) (s : State) : State :=
  setCounts l (fun k => { k with checkFailures := inc32 k.checkFailures }) s

/-- R155: a message whose check has passed, in CREDIT_PENDING. -/
def takePending (l : Link) (kind : Byte) (u : LinkUnit) (s : State) : State :=
  if kind = 0x03 ∧ u.body = [] then becomeReady l s else countNotReady l s

/-- R155: a message whose check has passed, in READY. -/
def takeReady (l : Link) (kind : Byte) (u : LinkUnit) (s : State) : State :=
  if kind = 0x03 ∧ u.body = [] then
    setCounts l (fun k => { k with unexpectedInit := inc32 k.unexpectedInit }) s
  else if kind = 0x01 ∧ u.body.length = 2 then passFrameHead l u.body s
  else if kind = 0x02 then
    if u.body.length < 4 then setCounts l (fun k => { k with rowLength := inc32 k.rowLength }) s
    else passRow l u.body s
  else if kind = kindBlock then takeBlock l u.tag u.body s
  else enqueuePrompt l kind u s

/-- R155: a message arrives; without symbol lock the receiver delivers none. -/
def receive (l : Link) (kind : Byte) (u : LinkUnit) (s : State) : State :=
  if !s.live then s
  else match (s.link l).state with
    | .down | .training => s
    | .creditPending =>
      if linkCheckPasses kind u then takePending l kind u s else countCheckFailure l s
    | .ready => if linkCheckPasses kind u then takeReady l kind u s else countCheckFailure l s

/-! ## Sent messages and the DOWN (R154, R157, R159) -/

def causeOf : Link → WarmCause
  | .a => .linkA
  | .b => .linkB

/-- What an answer's leaving ends (R157). -/
def afterSent (l : Link) (m : Outgoing) (s : State) : State :=
  match m with
  | .answer .prompt _ _ _ _ => s.setLink l { s.link l with awaiting := false }
  | .answer .resetPrompt _ _ _ _ =>
    dueReset (causeOf l) (s.setLink l { s.link l with awaiting := false })
  | .answer .bulk _ _ _ _ | .credit _ | .report _ => s

/-- R159: the oldest outgoing message has been sent: its unit is on the transmit pair. -/
def linkSent (l : Link) (s : State) : State :=
  match (s.link l).sends with
  | m :: rest =>
    afterSent l m
      (s.setLink l { s.link l with sends := rest, wire := (s.link l).wire ++ [m.unit] })
  | [] => s

/-- The message is a RESET's answer. -/
def Outgoing.isReset : Outgoing → Bool
  | .answer .resetPrompt _ _ _ _ => true
  | .answer .prompt _ _ _ _ | .answer .bulk _ _ _ _ | .credit _ | .report _ => false

/-- R154: a program outstanding is orphaned. -/
def LinkPort.orphan (p : LinkPort) : Outstanding :=
  match p.outstanding, p.bulk with
  | .current, e :: _ => .orphaned e.program.block
  | .current, [] => .current
  | .none, _ => .none
  | .orphaned b, _ => .orphaned b

/-- R154: the port's context at a DOWN from CREDIT_PENDING or READY. -/
def LinkPort.dropped (p : LinkPort) : LinkPort :=
  { p with
    state := .down, credits := 0, prompts := [], awaiting := false, bulk := [], sends := []
    outstanding := p.orphan, lastSequence := none, resend := 0 }

/-- R154, R139: the link goes DOWN. A RESET whose answer is discarded is due (R157). -/
def goDown (l : Link) (s : State) : State :=
  let discarded := (s.link l).sends.any Outgoing.isReset
  let s := s.setLink l (s.link l).dropped
  let s := if discarded then dueReset (causeOf l) s else s
  settle (authorityDown l s)

/-- R153: signal or symbol lock is lost. -/
def linkDown (l : Link) (s : State) : State :=
  if !s.live then s
  else match (s.link l).state with
    | .down => s
    | .training => setLinkState l .down s
    | .creditPending | .ready => conclude [] s (goDown l s)

end Sys2Proof.Machine
end

