-- ==== Sys2Proof/Machine/Resets.lean ====
section
/-! DEFINITION. Resets, start-up and loss of power (chapter 12), and their commands. -/

namespace Sys2Proof.Machine

/-! ## What a reset leaves -/

/-- What non-volatile storage keeps (R39): the stored items, with the level of the reset pin, which
is an input, and the model's own fields. -/
def State.coldFrom (s : State) : State :=
  { State.reset with
    chip := { Chip.reset with pinLow := s.chip.pinLow }
    store :=
      { Store.reset with
        slots := s.store.slots, identity := s.store.identity, drift := s.store.drift }
    freeDraws := s.freeDraws
    pending := s.pending }

/-- R175, R176: a POWER reset, with the straps latched at its end. -/
def coldReset (pins : StrapPins) (s : State) : State :=
  let s := (abandonGrant s).coldFrom
  s.setChip { s.chip with straps := pins }

/-- R121: the records a warm reset keeps; a sensor that the default map brings back joins it
(R129, log 28). -/
def Sensors.warm (n : Sensors) (map : List Nat) : Sensors :=
  { Sensors.reset with
    tag := n.tag
    temps := n.temps.zipIdx.map fun e => if map.contains e.2 then e.1 else ⟨0, none⟩
    light := n.light }

/-- R39, R53: the store after a warm reset, until its checks end (log 23). -/
def Store.warm (t : Store) : Store :=
  { t with
    scrubPointer := 0, programFailures := 0, scrubFailures := 0, saveFailures := 0
    waiting := Waiting.none, port := .startUp, phaseTable := defaultPhaseTable, phasePointer := 0 }

/-- R2, R102: the render engine after a warm reset; factors above the default f_cap are
lowered to it. -/
def Render.warm (r : Render) : Render :=
  { r with
    applied := r.applied.map (Rgb.map (min 98304))
    pendingGain := none
    limited := List.replicate 16 0 }

/-- R73: the wear unit after a warm reset. -/
def Wear.warm (w : Wear) : Wear :=
  { Wear.reset with zones := w.zones, pilot := w.pilot, kappa := w.kappa, trim := w.trim }

/-- What a warm reset leaves, block by block (R2, R14, R39, R58, R73, R90, R105, R121, R132, R152,
R165, R173), before its cause is added. The model's choice (log 17): no RESET is due after it, so
where two RESETs' answers have left before a warm reset runs, the second is forgotten. -/
def State.warmFrom (s : State) : State :=
  { State.reset with
    chip :=
      { Chip.reset with
        pinLow := s.chip.pinLow
        coldStart := s.chip.coldStart, straps := s.chip.straps, causes := s.chip.causes }
    render := s.render.warm
    driver := { Driver.reset with banks := s.driver.banks.map Bank.warm }
    store := s.store.warm
    thermal := { Thermal.reset with temps := s.thermal.temps }
    wear := s.wear.warm
    gain := s.gain
    sensors := s.sensors.warm s.settings.sensorMap
    authority := { Authority.reset with record := s.authority.record }
    freeDraws := s.freeDraws
    pending := s.pending }

/-- The grant in force is abandoned and everything a warm reset clears is cleared (R49, R53). -/
def clearWarm (s : State) : State := (abandonGrant s).warmFrom

/-- R175: a cause joins the reset cause set. -/
def addCause (c : ResetCause) (s : State) : State :=
  s.setChip
    { s.chip with
      causes := if s.chip.causes.contains c then s.chip.causes else s.chip.causes ++ [c] }

/-- R175: a warm reset with its cause. -/
def warmReset (c : ResetCause) (s : State) : State := addCause c (clearWarm s)

def resetCauseOf : WarmCause → ResetCause
  | .linkA => .linkA
  | .linkB => .linkB
  | .service => .service

def setPhase (p : Phase) (s : State) : State := s.setChip { s.chip with phase := p }

/-- The level of the reset pin. -/
def setPinLow (low : Bool) (s : State) : State := s.setChip { s.chip with pinLow := low }

def latchStraps (pins : StrapPins) (s : State) : State := s.setChip { s.chip with straps := pins }

/-! ## Start-up (R52, R177) -/

/-- What the cells read where they no longer hold what was written (log 8). -/
def applyFindings (f : StoreFindings) (s : State) : State :=
  s.setStore
    { s.store with
      identity := f.identity.getD s.store.identity
      drift := f.drift.getD s.store.drift
      slots := Table.putAll erasedBlock s.store.slots f.slots }

/-- R177 step 5: a cold start-up clears the render table and the zone statuses. -/
def clearTable (s : State) : State :=
  s.setRender { s.render with table := [], zones := Render.reset.zones }

/-- R177 steps 2 to 5. -/
def runChecks (f : StoreFindings) (s : State) : State :=
  let s := loadIdentity (applyFindings f s)
  let s := if s.chip.coldStart then clearTable (loadDrift s) else s
  checkBlocks s

/-- R52, R177: the checks end, the port is free, the build set is full and the START round
opens. -/
def startupChecksDone (f : StoreFindings) (s : State) : State :=
  if s.chip.phase = .checking then
    let s := setPhase .polling (setPort .free (joinAll (runChecks f s)))
    conclude [] s (settle (startNext (joinRound .start s)))
  else s

/-! ## The commands -/

/-- POWER_ON: R175, R176. With the reset pin low the POWER reset goes on until its release; until
then no straps are latched (log 16). -/
def execPowerOn (pins : StrapPins) (s : State) : Host.Outcome State Fault Refusal :=
  .next (if s.chip.pinLow then setPhase .poweringUp (coldReset ⟨0, 0, false⟩ s)
    else coldReset pins s)

/-- RESET_PIN_RELEASE: R175, R176. It ends the POWER reset of a part that powered up with its pin
low, or the PIN reset of a part whose pin was driven low with power good; the reset is applied
again where it ends (log 16). In no other phase is there a reset for it to end. -/
def execResetPinRelease (pins : StrapPins) (s : State) : Host.Outcome State Fault Refusal :=
  let s := setPinLow false s
  .next (match s.chip.phase with
    | .poweringUp => coldReset pins s
    | .held => latchStraps pins (warmReset .pin s)
    | .off | .checking | .polling | .running => s)

/-- WARM_RESET: R157, R172, R175; only once the RESET's answer is gone (log 17). -/
def execWarmReset (c : WarmCause) (s : State) : Host.Outcome State Fault Refusal :=
  .next (if s.live ∧ c ∈ s.chip.resetDue then warmReset (resetCauseOf c) s else s)

/-- STARTUP_CHECKS_DONE: R52, R177. -/
def execStartupChecksDone (f : StoreFindings) (s : State) : Host.Outcome State Fault Refusal :=
  .next (startupChecksDone f s)

/-- RESET_PIN_DRIVEN_LOW: R175; a part with power is held in reset (log 16). Without power, or
where it is held already, the pin's level is all that changes. -/
def execResetPinDrivenLow (s : State) : Host.Outcome State Fault Refusal :=
  let s := setPinLow true s
  .next (if s.live then setPhase .held (clearWarm s) else s)

/-- POWER_LOSS: R175, R39, R49; what is volatile is lost. -/
def execPowerLoss (s : State) : Host.Outcome State Fault Refusal :=
  .next (setPhase .off (coldReset ⟨0, 0, false⟩ s))

end Sys2Proof.Machine
end

