-- ==== Sys2Proof/Machine/Ticks.lean ====
section
/-! DEFINITION. The taps and expiries of the timebase (R173) and of the slow clock (R185). A tick
or expiry is the sender's to give; the counters follow it (log 2). -/

namespace Sys2Proof.Machine

/-! ## The millisecond step (R173, R21) -/

/-- The millisecond count and the countdowns. -/
def Timebase.step (t : Timebase) : Timebase where
  millis := (t.millis + 1) % 4294967296
  thermal := t.thermal - 1
  pilot := t.pilot - 1
  scrub := t.scrub - 1
  report := t.report - 1
  driftSave := t.driftSave - 1

/-- A port's frame-head age and credit resend timer. -/
def LinkPort.tick (p : LinkPort) : LinkPort :=
  { p with
    age := p.age + 1
    resend := if p.state = .creditPending then p.resend - 1 else p.resend }

/-- The time in HOLDING, up to 600 s. -/
def Authority.tick (a : Authority) : Authority :=
  if a.output = .holding then { a with holdingTime := satAdd 600000 a.holdingTime 1 } else a

/-- The settle timer. -/
def Wear.tick (w : Wear) : Wear :=
  match w.state with
  | .settle _ => { w with settleTimer := w.settleTimer - 1 }
  | .idle | .read _ => w

/-- R173: every timer of the timebase, by one millisecond. -/
def stepTimers (s : State) : State :=
  let s := (s.setTimebase s.timebase.step).setAuthority s.authority.tick
  let s := (s.setLink .a s.linkA.tick).setLink .b s.linkB.tick
  tickBanks (s.setWear s.wear.tick)

def millisecond (s : State) : State := if s.timebaseRuns then loadSample (stepTimers s) else s

/-! ## Ticks -/

/-- A tick's effect, while the timebase runs. -/
def onTick (f : State → State) (s : State) : State := if s.timebaseRuns then f s else s

/-- R60. -/
def thermalTick (s : State) : State :=
  let s := s.setTimebase { s.timebase with thermal := s.settings.thermalInterval }
  let s := s.setThermal { s.thermal with ticks := satAdd 255 s.thermal.ticks 1 }
  conclude [] s (settle (startNext (joinRound .thermal s)))

/-- R77. -/
def pilotTick (s : State) : State :=
  settleWork (startSequence
    (s.setTimebase { s.timebase with pilot := 60000 * s.settings.pilotInterval }))

/-- R108. -/
def scrubTick (s : State) : State :=
  settleWork (requestScrub (s.setTimebase { s.timebase with scrub := s.settings.scrubInterval }))

/-- R147. -/
def reportTick (s : State) : State :=
  let s := s.setTimebase { s.timebase with report := s.settings.reportInterval }
  conclude [.periodic] s s

/-- R87. -/
def driftSaveTick (s : State) : State :=
  settleStore (requestSave false
    (s.setTimebase { s.timebase with driftSave := 60000 * s.settings.driftSaveInterval }))

/-! ## Expiries -/

/-- R185: the rest wake counter expires. The report is triggered even where the round ends in the
same step. -/
def restWakeExpiry (s : State) : State :=
  if s.live ∧ s.chip.power = .rest then
    let woken := clearLoad (s.setChip { s.chip with power := .restSample, restWake := 0 })
    conclude [.power] s (settle (startNext (joinRound .sample woken)))
  else s

/-- R18. -/
def primingTimerExpiry (b : Nat) (s : State) : State := onTick (primingExpired b) s

/-- R79. -/
def settleTimerExpiry (s : State) : State :=
  match s.wear.state with
  | .settle e => settle (startNext (beginRead e s))
  | .idle | .read _ => s

/-- R133: the age of a FRESH link reaches the hold time. -/
def ageExpiry (l : Link) (s : State) : State :=
  if (s.link l).fresh then
    let aged := s.setLink l { s.link l with age := max (s.link l).age s.settings.holdTime }
    conclude [] s (settle (linkStale l aged))
  else s

/-- R138. -/
def blankAfterExpiry (s : State) : State :=
  if s.authority.output = .holding ∧ s.settings.blankAfter ≠ 0 then
    conclude [] s (settle (blank s))
  else s

/-! ## The commands -/

/-- LOAD_SAMPLE: R21, R23, R173. -/
def execLoadSample (s : State) : Host.Outcome State Fault Refusal := .next (millisecond s)

/-- THERMAL_TICK: R60. -/
def execThermalTick (s : State) : Host.Outcome State Fault Refusal :=
  .next (onTick thermalTick s)

/-- PILOT_TICK: R77. -/
def execPilotTick (s : State) : Host.Outcome State Fault Refusal := .next (onTick pilotTick s)

/-- SCRUB_TICK: R108. -/
def execScrubTick (s : State) : Host.Outcome State Fault Refusal := .next (onTick scrubTick s)

/-- REPORT_TICK: R147. -/
def execReportTick (s : State) : Host.Outcome State Fault Refusal := .next (onTick reportTick s)

/-- DRIFT_SAVE_TICK: R87. -/
def execDriftSaveTick (s : State) : Host.Outcome State Fault Refusal :=
  .next (onTick driftSaveTick s)

/-- REST_WAKE_EXPIRY: R185. -/
def execRestWakeExpiry (s : State) : Host.Outcome State Fault Refusal := .next (restWakeExpiry s)

/-- PRIMING_TIMER_EXPIRY: R18. -/
def execPrimingTimerExpiry (b : Fin 16) (s : State) : Host.Outcome State Fault Refusal :=
  .next (primingTimerExpiry b.val s)

/-- SETTLE_TIMER_EXPIRY: R79. -/
def execSettleTimerExpiry (s : State) : Host.Outcome State Fault Refusal :=
  .next (onTick settleTimerExpiry s)

/-- LINK_STALE: R133, R137. -/
def execLinkStale (l : Link) (s : State) : Host.Outcome State Fault Refusal :=
  .next (onTick (ageExpiry l) s)

/-- BLANK_AFTER_EXPIRY: R138. -/
def execBlankAfterExpiry (s : State) : Host.Outcome State Fault Refusal :=
  .next (onTick blankAfterExpiry s)

/-- CREDIT_RESEND_TIMER: R153. -/
def execCreditResendTimer (l : Link) (s : State) : Host.Outcome State Fault Refusal :=
  .next (creditResend l s)

end Sys2Proof.Machine
end

