-- ==== Sys2Proof/Machine/LinkCommands.lean ====
section
/-! DEFINITION. The commands of the links (chapter 10): bring-up, arrivals, sent messages. -/

namespace Sys2Proof.Machine

/-- SIGNAL_DETECTED: R153. -/
def execSignalDetected (l : Link) (s : State) : Host.Outcome State Fault Refusal :=
  .next (signalDetected l s)

/-- SYMBOL_LOCK: R153. -/
def execSymbolLock (l : Link) (s : State) : Host.Outcome State Fault Refusal :=
  .next (symbolLock l s)

/-- LINK_DOWN: R153, R154, R139. -/
def execLinkDown (l : Link) (s : State) : Host.Outcome State Fault Refusal :=
  .next (linkDown l s)

/-- INIT: R153, R155. -/
def execInit (l : Link) (u : LinkUnit) (s : State) : Host.Outcome State Fault Refusal :=
  .next (receive l 0x03 u s)

/-- FRAME_HEAD: R162, R134, R135. -/
def execFrameHead (l : Link) (u : LinkUnit) (s : State) : Host.Outcome State Fault Refusal :=
  .next (receive l 0x01 u s)

/-- ROW: R163, R136, R4. -/
def execRow (l : Link) (u : LinkUnit) (s : State) : Host.Outcome State Fault Refusal :=
  .next (receive l 0x02 u s)

/-- PROMPT_MESSAGE_ARRIVAL: R155, R156; a message of any kind, taken by its kind. -/
def execPromptMessageArrival (l : Link) (kind : Byte) (u : LinkUnit) (s : State) :
    Host.Outcome State Fault Refusal :=
  .next (receive l kind u s)

/-- ANSWER_SENT: R157, R159, R172. -/
def execAnswerSent (who : Sender) (s : State) : Host.Outcome State Fault Refusal :=
  .next (match who with
    | .link l => if s.live then linkSent l s else s
    | .service => if s.live then serviceSent s else s)

/-- UNKNOWN_KIND: R157. -/
def execUnknownKind (l : Link) (s : State) : Host.Outcome State Fault Refusal :=
  .next (refusePrompt l s)

/-- BLOCK: R160 on a link, R170 on the service line. -/
def execBlock (v : BlockVia) (s : State) : Host.Outcome State Fault Refusal :=
  .next (match v with
    | .port l u => receive l kindBlock u s
    | .tool tag payload => toolStep tag kindBlock ((parseBlock payload).map .block) s)

end Sys2Proof.Machine
end

