-- ==== Sys2Proof/Machine/Requests.lean ====
section
/-! DEFINITION. The commands that links and service line share (R157, R169): each row handles the
request that its name says, from the head of a link's prompt queue or from a service frame. -/

namespace Sys2Proof.Machine

/-! ## Which row a request is handled by -/

def Request.isWall : Request → Bool
  | .wall _ => true
  | _ => false

def Request.isRebuild : Request → Bool
  | .rebuild _ => true
  | _ => false

def Request.isJobLevel : Request → Bool
  | .set (.jobLevel _ _) => true
  | _ => false

def Request.isPhaseTable : Request → Bool
  | .set (.phaseTable _) => true
  | _ => false

def Request.isDarkPolicy : Request → Bool
  | .set (.darkPolicy _ _) => true
  | _ => false

def Request.setsValue (x : Setting) : Request → Bool
  | .set (.value y _) => y == x
  | _ => false

/-- A row of a request that carries nothing. -/
def plainStep (kind : Byte) (r : Request) (v : Via Unit) (s : State) : State :=
  requestStep v (· == r) kind (fun _ => some r) s

/-- A QUERY row. -/
def queryStep (q : Subject) (v : Via Unit) (s : State) : State :=
  plainStep kindQuery (.query q) v s

/-- A SET row of a setting with an s32 value. -/
def valueStep (x : Setting) (v : Via U32) (s : State) : State :=
  requestStep v (Request.setsValue x) kindSet (fun w => some (.set (.value x (signed32 w)))) s

/-! ## The commands -/

/-- WALL: R142. -/
def execWall (l : Link) (s : State) : Host.Outcome State Fault Refusal :=
  .next (promptStep l Request.isWall s)

/-- TAKE: R140. -/
def execTake (l : Link) (s : State) : Host.Outcome State Fault Refusal :=
  .next (promptStep l (· == .take) s)

/-- DARK: R146, R181, R182. -/
def execDark (v : Via Unit) (s : State) : Host.Outcome State Fault Refusal :=
  .next (plainStep kindDark .dark v s)

/-- LIGHT: R146, R181, R186. -/
def execLight (v : Via Unit) (s : State) : Host.Outcome State Fault Refusal :=
  .next (plainStep kindLight .light v s)

/-- REST: R146, R181, R183. -/
def execRest (v : Via Unit) (s : State) : Host.Outcome State Fault Refusal :=
  .next (plainStep kindRest .rest v s)

/-- REBUILD: R27. -/
def execRebuild (v : Via (List Byte)) (s : State) : Host.Outcome State Fault Refusal :=
  .next (requestStep v Request.isRebuild kindRebuild
    (fun zs => some (.rebuild (zs.map BitVec.toNat))) s)

/-- QUERY_ZONE_STATUS: R37. -/
def execQueryZoneStatus (v : Via Unit) (s : State) : Host.Outcome State Fault Refusal :=
  .next (queryStep .zoneStatus v s)

/-- QUERY_STORE_STATUS: R57. -/
def execQueryStoreStatus (v : Via Unit) (s : State) : Host.Outcome State Fault Refusal :=
  .next (queryStep .storeStatus v s)

/-- QUERY_THERMAL_STATE: R71. -/
def execQueryThermalState (v : Via Unit) (s : State) : Host.Outcome State Fault Refusal :=
  .next (queryStep .thermalState v s)

/-- QUERY_WEAR_STATE: R88. -/
def execQueryWearState (v : Via Unit) (s : State) : Host.Outcome State Fault Refusal :=
  .next (queryStep .wearState v s)

/-- QUERY_GAIN_STATE: R104. -/
def execQueryGainState (v : Via Unit) (s : State) : Host.Outcome State Fault Refusal :=
  .next (queryStep .gainState v s)

/-- QUERY_COMPOSER_STATE: R120. -/
def execQueryComposerState (v : Via Unit) (s : State) : Host.Outcome State Fault Refusal :=
  .next (queryStep .composerState v s)

/-- QUERY_SENSOR_STATE: R131. -/
def execQuerySensorState (v : Via Unit) (s : State) : Host.Outcome State Fault Refusal :=
  .next (queryStep .sensorState v s)

/-- QUERY_AUTHORITY_STATE: R151. -/
def execQueryAuthorityState (v : Via Unit) (s : State) : Host.Outcome State Fault Refusal :=
  .next (queryStep .authorityState v s)

/-- QUERY_LINK_STATE: R164. -/
def execQueryLinkState (v : Via Unit) (s : State) : Host.Outcome State Fault Refusal :=
  .next (queryStep .linkState v s)

/-- QUERY_CONFIGURATION: R187. -/
def execQueryConfiguration (v : Via Unit) (s : State) : Host.Outcome State Fault Refusal :=
  .next (queryStep .configuration v s)

/-- SET_JOB_LEVEL: R111. -/
def execSetJobLevel (v : Via (JobKind × U32)) (s : State) : Host.Outcome State Fault Refusal :=
  .next (requestStep v Request.isJobLevel kindSet
    (fun p => some (.set (.jobLevel p.1 (signed32 p.2)))) s)

/-- SET_PHASE_TABLE: R56; a table that is not of 16 phases fails the form check. -/
def execSetPhaseTable (v : Via (List Requester)) (s : State) :
    Host.Outcome State Fault Refusal :=
  .next (requestStep v Request.isPhaseTable kindSet
    (fun t => if t.length = 16 then some (.set (.phaseTable t)) else none) s)

/-- SET_HOLD_TIME: R150, R133, R137. -/
def execSetHoldTime (v : Via U32) (s : State) : Host.Outcome State Fault Refusal :=
  .next (valueStep .holdTime v s)

/-- SET_BLANK_AFTER: R150, R138. -/
def execSetBlankAfter (v : Via U32) (s : State) : Host.Outcome State Fault Refusal :=
  .next (valueStep .blankAfter v s)

/-- SET_THERMAL_INTERVAL: R70. -/
def execSetThermalInterval (v : Via U32) (s : State) : Host.Outcome State Fault Refusal :=
  .next (valueStep .thermalInterval v s)

/-- SET_K: R70. -/
def execSetK (v : Via U32) (s : State) : Host.Outcome State Fault Refusal :=
  .next (valueStep .k v s)

/-- SET_RHO: R70. -/
def execSetRho (v : Via U32) (s : State) : Host.Outcome State Fault Refusal :=
  .next (valueStep .rho v s)

/-- SET_F_CAP: R102. -/
def execSetFCap (v : Via U32) (s : State) : Host.Outcome State Fault Refusal :=
  .next (valueStep .fCap v s)

/-- SET_SENSOR_MAP: R129. -/
def execSetSensorMap (v : Via U32) (s : State) : Host.Outcome State Fault Refusal :=
  .next (valueStep .sensorMap v s)

/-- SET_DARK_POLICY: R17, R180. -/
def execSetDarkPolicy (v : Via (Fin 16 × U32)) (s : State) : Host.Outcome State Fault Refusal :=
  .next (requestStep v Request.isDarkPolicy kindSet
    (fun p => some (.set (.darkPolicy p.1.val (signed32 p.2)))) s)

/-- SET_ASSUMED_AMBIENT: R70. -/
def execSetAssumedAmbient (v : Via U32) (s : State) : Host.Outcome State Fault Refusal :=
  .next (valueStep .assumedAmbient v s)

/-- SET_PILOT_INTERVAL: R89. -/
def execSetPilotInterval (v : Via U32) (s : State) : Host.Outcome State Fault Refusal :=
  .next (valueStep .pilotInterval v s)

/-- SET_SCRUB_INTERVAL: R50. -/
def execSetScrubInterval (v : Via U32) (s : State) : Host.Outcome State Fault Refusal :=
  .next (valueStep .scrubInterval v s)

/-- SET_REPORT_INTERVAL: R150. -/
def execSetReportInterval (v : Via U32) (s : State) : Host.Outcome State Fault Refusal :=
  .next (valueStep .reportInterval v s)

/-- SET_DRIFT_SAVE_INTERVAL: R89. -/
def execSetDriftSaveInterval (v : Via U32) (s : State) : Host.Outcome State Fault Refusal :=
  .next (valueStep .driftSaveInterval v s)

/-- SET_REST_WAKE_INTERVAL: R180, R185. -/
def execSetRestWakeInterval (v : Via U32) (s : State) : Host.Outcome State Fault Refusal :=
  .next (valueStep .restWakeInterval v s)

/-- CLOSE: R179. -/
def execClose (v : Via Unit) (s : State) : Host.Outcome State Fault Refusal :=
  .next (plainStep kindClose .close v s)

/-- RESET: R157, R172. -/
def execReset (v : Via Unit) (s : State) : Host.Outcome State Fault Refusal :=
  .next (plainStep kindReset .reset v s)

end Sys2Proof.Machine
end

