-- ==== Sys2Proof/Machine/ServiceCommands.lean ====
section
/-! DEFINITION. The commands of the service line alone (chapter 11). -/

namespace Sys2Proof.Machine

/-- The mode codes of a BANK's pairs; an unknown one fails the form check (R171). -/
def bankPairs (es : List (Byte × Byte)) : Option ToolRequest :=
  (parsePairs (es.flatMap fun e => [e.1, e.2])).bind bankEntries

/-- TRIM: R85. -/
def execTrim (tag : Byte) (codes : Rgb Byte) (s : State) : Host.Outcome State Fault Refusal :=
  .next (toolStep tag kindTrim (some (.trim (Rgb.map BitVec.toInt codes))) s)

/-- WEAR_CLEAR: R86. -/
def execWearClear (tag zone : Byte) (s : State) : Host.Outcome State Fault Refusal :=
  .next (toolStep tag kindWearClear (wearClearRequest zone.toNat) s)

/-- BANK: R171, R16, R17, R18. -/
def execBank (tag : Byte) (entries : List (Byte × Byte)) (s : State) :
    Host.Outcome State Fault Refusal :=
  .next (toolStep tag kindBank (bankPairs entries) s)

/-- LATCH: R171, R16. -/
def execLatch (tag bank : Byte) (drive : Rgb U16) (s : State) :
    Host.Outcome State Fault Refusal :=
  .next (toolStep tag kindLatch (latchRequest bank.toNat (Rgb.map BitVec.toNat drive)) s)

/-- IDENTITY: R43, R170. -/
def execIdentity (tag : Byte) (fields : List Byte) (s : State) :
    Host.Outcome State Fault Refusal :=
  .next (toolStep tag kindIdentity (parseIdentity fields) s)

/-- SYNC: R166. -/
def execSync (low : Nat) (s : State) : Host.Outcome State Fault Refusal := .next (sync low s)

/-- SERVICE_FRAME: R168, R169. -/
def execServiceFrame (bytes : List LineByte) (s : State) : Host.Outcome State Fault Refusal :=
  .next (serviceFrame bytes s)

/-- SERVICE_FRAME_TIMEOUT: R168. -/
def execServiceFrameTimeout (s : State) : Host.Outcome State Fault Refusal :=
  .next (serviceFrameTimeout s)

/-- BREAK: R167. -/
def execServiceBreak (low : Nat) (s : State) : Host.Outcome State Fault Refusal :=
  .next (serviceBreak low s)

/-- IDLE: R167. -/
def execIdle (s : State) : Host.Outcome State Fault Refusal := .next (serviceIdle s)

end Sys2Proof.Machine
end

