-- ==== Sys2Proof/Machine/Completions.lean ====
section
/-! DEFINITION. What ends inside the part: sensor transactions (R124, R125), the store's grants
(R55) and the composer's jobs (R67, R99). -/

namespace Sys2Proof.Machine

/-! ## Grants (R43, R45, R47, R50, R55) -/

/-- R55: a block read ends; the job takes its data, at once or when the composer runs again. -/
def endBlockRead (i : Nat) (cells : Option Stored) (s : State) : State :=
  let s := setPort .free (setSlot i (cells.getD (s.slot i)) s)
  let read : BlockRead := ⟨i, s.blockState i, s.slot i⟩
  if s.composerStopped then s.setComposer { s.composer with deferred := some read }
  else absorbRead read s

/-- The completion of a program reaches its requester (R46, R161, R170). -/
def reportProgram (who : Requester) (ok : Bool) (s : State) : State :=
  match who with
  | .linkA => completeLink .a ok s
  | .linkB => completeLink .b ok s
  | .service => completeService ok s
  | .composer | .driftSave => s

def countProgramFailure (ok : Bool) (s : State) : State :=
  if ok then s else s.setStore { s.store with programFailures := inc16 s.store.programFailures }

/-- R47: a block program ends; `cells` is what the slot then reads, where that is not what was
written (log 8). -/
def endBlockProgram (who : Requester) (p : BlockProgram) (cells : Option Stored) (s : State) :
    State :=
  let content := cells.getD ⟨p.records, p.crc, false⟩
  let ok := readBackValid content
  let s := setBlockState p.block (if ok then .valid else .invalid) (setSlot p.block content s)
  let s := joinBuild [s.zoneOfBlock p.block] (countProgramFailure ok s)
  settleWork (reportProgram who ok (setPort .free s))

/-- R43: an identity program ends. -/
def endIdentityProgram (fields : List Byte) (cells : Option Stored) (s : State) : State :=
  let content := cells.getD ⟨fields, crc16 fields, false⟩
  let s := loadIdentity (s.setStore { s.store with identity := content })
  let s := joinAll (countProgramFailure (identityValid content) s)
  settleWork (completeService (identityValid content) (setPort .free s))

/-- R45, R183: a drift save ends, and with the REST mark it ends RESTING_ENTRY. -/
def endDriftSave (restMark : Bool) (cells : Option Stored) (s : State) : State :=
  let content := cells.getD { s.store.drift with openMark := false }
  let ok := driftValid content
  let s := s.setStore
    { s.store with
      drift := content, driftValid := ok, port := .free
      saveFailures := if ok then s.store.saveFailures else inc16 s.store.saveFailures }
  if restMark ∧ s.chip.power = .restingEntry then enterRest s else s

def blockReadDone (cells : Option Stored) (s : State) : State :=
  match s.store.port with
  | .granted (.read i) => settle (endBlockRead i cells s)
  | .granted (.program _ _) | .granted (.identity _) | .granted (.save _) | .free | .startUp => s

def blockProgramDone (cells : Option Stored) (s : State) : State :=
  match s.store.port with
  | .granted (.program who p) => endBlockProgram who p cells s
  | .granted (.read _) | .granted (.identity _) | .granted (.save _) | .free | .startUp => s

def identityProgramDone (cells : Option Stored) (s : State) : State :=
  match s.store.port with
  | .granted (.identity fields) => endIdentityProgram fields cells s
  | .granted (.read _) | .granted (.program _ _) | .granted (.save _) | .free | .startUp => s

def driftSaveDone (cells : Option Stored) (s : State) : State :=
  match s.store.port with
  | .granted (.save mark) => conclude [] s (settle (endDriftSave mark cells s))
  | .granted (.read _) | .granted (.program _ _) | .granted (.identity _) | .free | .startUp => s

/-! ## Jobs (R67, R99, R100) -/

def thermalJobEnd (s : State) : State :=
  match s.composer.running with
  | some ⟨_, .thermal t⟩ => if s.composerStopped then s else settleWork (endThermal t s)
  | some ⟨_, .gain _⟩ | some ⟨_, .build⟩ | some ⟨_, .scrub _ _⟩ | none => s

/-- R100: the last report's tile capacity lies 256 or more away, or no report has been sent. -/
def capacityMoved (new : Nat) (last : Option Nat) : Bool :=
  match last with
  | some old => decide (old + 256 ≤ new ∨ new + 256 ≤ old)
  | none => true

/-- R100: the notices of a GAIN run's end. -/
def gainNotices (new : GainResults) (s : State) : List Cause :=
  (if capacityMoved new.tileCapacity s.authority.lastSent then [.capacity] else []) ++
    (if new.shortCount = s.gain.shortCount then [] else [.short])

/-- R99: the end of a GAIN run. -/
def endGain (i : GainInputs) (s : State) : State :=
  let cap := s.settings.fCap
  let s := (s.setRender { s.render with pendingGain := some (i.factors cap) }).setGain
    (i.results cap s.gain.runs)
  s.setComposer { s.composer with running := none }

def gainEnd (s : State) : State :=
  match s.composer.running with
  | some ⟨_, .gain i⟩ =>
    if s.composerStopped then s
    else conclude (gainNotices (i.results s.settings.fCap s.gain.runs) s) s (settle (endGain i s))
  | some ⟨_, .thermal _⟩ | some ⟨_, .build⟩ | some ⟨_, .scrub _ _⟩ | none => s

/-! ## Sensor transactions -/

/-- A sensor event's effect while the part has power, and what follows in its step. -/
def onSensor (f : State → State) (s : State) : State :=
  if s.live then conclude [] s (settle (f s)) else s

/-! ## The commands -/

/-- SENSOR_RESPONSE: R124, R126 to R128. -/
def execSensorResponse (f : SensorFrame) (s : State) : Host.Outcome State Fault Refusal :=
  .next (onSensor (sensorResponse f) s)

/-- SENSOR_DEADLINE: R125, R127, R128. -/
def execSensorDeadline (s : State) : Host.Outcome State Fault Refusal :=
  .next (onSensor sensorDeadline s)

/-- BLOCK_READ_DONE: R55, R30, R50. -/
def execBlockReadDone (cells : Option Stored) (s : State) : Host.Outcome State Fault Refusal :=
  .next (blockReadDone cells s)

/-- BLOCK_PROGRAM_DONE: R47, R161, R170. -/
def execBlockProgramDone (cells : Option Stored) (s : State) :
    Host.Outcome State Fault Refusal :=
  .next (blockProgramDone cells s)

/-- IDENTITY_PROGRAM_DONE: R43, R170. -/
def execIdentityProgramDone (cells : Option Stored) (s : State) :
    Host.Outcome State Fault Refusal :=
  .next (identityProgramDone cells s)

/-- DRIFT_SAVE_DONE: R45, R183, R184. -/
def execDriftSaveDone (cells : Option Stored) (s : State) : Host.Outcome State Fault Refusal :=
  .next (driftSaveDone cells s)

/-- THERMAL_JOB_END: R64 to R67, R74, R75. -/
def execThermalJobEnd (s : State) : Host.Outcome State Fault Refusal := .next (thermalJobEnd s)

/-- GAIN_END: R92 to R100. -/
def execGainEnd (s : State) : Host.Outcome State Fault Refusal := .next (gainEnd s)

end Sys2Proof.Machine
end

