-- ==== Sys2Proof/Machine/Dispatch.lean ====
section
/-! DEFINITION. The meaning of each command: one arm for each constructor of `Instr`. -/

namespace Sys2Proof.Machine

def exec (i : Instr) (s : State) : Host.Outcome State Fault Refusal :=
  match i with
  | .powerOn pins => Sys2Proof.Machine.execPowerOn pins s
  | .resetPinRelease pins => Sys2Proof.Machine.execResetPinRelease pins s
  | .warmReset cause => Sys2Proof.Machine.execWarmReset cause s
  | .startupChecksDone found => Sys2Proof.Machine.execStartupChecksDone found s
  | .loadSample => Sys2Proof.Machine.execLoadSample s
  | .thermalTick => Sys2Proof.Machine.execThermalTick s
  | .pilotTick => Sys2Proof.Machine.execPilotTick s
  | .scrubTick => Sys2Proof.Machine.execScrubTick s
  | .reportTick => Sys2Proof.Machine.execReportTick s
  | .driftSaveTick => Sys2Proof.Machine.execDriftSaveTick s
  | .restWakeExpiry => Sys2Proof.Machine.execRestWakeExpiry s
  | .primingTimerExpiry bank => Sys2Proof.Machine.execPrimingTimerExpiry bank s
  | .settleTimerExpiry => Sys2Proof.Machine.execSettleTimerExpiry s
  | .linkStale l => Sys2Proof.Machine.execLinkStale l s
  | .blankAfterExpiry => Sys2Proof.Machine.execBlankAfterExpiry s
  | .creditResendTimer l => Sys2Proof.Machine.execCreditResendTimer l s
  | .signalDetected l => Sys2Proof.Machine.execSignalDetected l s
  | .symbolLock l => Sys2Proof.Machine.execSymbolLock l s
  | .linkDown l => Sys2Proof.Machine.execLinkDown l s
  | .init l u => Sys2Proof.Machine.execInit l u s
  | .frameHead l u => Sys2Proof.Machine.execFrameHead l u s
  | .row l u => Sys2Proof.Machine.execRow l u s
  | .promptMessageArrival l kind u => Sys2Proof.Machine.execPromptMessageArrival l kind u s
  | .answerSent who => Sys2Proof.Machine.execAnswerSent who s
  | .unknownKind l => Sys2Proof.Machine.execUnknownKind l s
  | .block v => Sys2Proof.Machine.execBlock v s
  | .wall l => Sys2Proof.Machine.execWall l s
  | .take l => Sys2Proof.Machine.execTake l s
  | .dark v => Sys2Proof.Machine.execDark v s
  | .light v => Sys2Proof.Machine.execLight v s
  | .rest v => Sys2Proof.Machine.execRest v s
  | .rebuild v => Sys2Proof.Machine.execRebuild v s
  | .queryZoneStatus v => Sys2Proof.Machine.execQueryZoneStatus v s
  | .queryStoreStatus v => Sys2Proof.Machine.execQueryStoreStatus v s
  | .queryThermalState v => Sys2Proof.Machine.execQueryThermalState v s
  | .queryWearState v => Sys2Proof.Machine.execQueryWearState v s
  | .queryGainState v => Sys2Proof.Machine.execQueryGainState v s
  | .queryComposerState v => Sys2Proof.Machine.execQueryComposerState v s
  | .querySensorState v => Sys2Proof.Machine.execQuerySensorState v s
  | .queryAuthorityState v => Sys2Proof.Machine.execQueryAuthorityState v s
  | .queryLinkState v => Sys2Proof.Machine.execQueryLinkState v s
  | .queryConfiguration v => Sys2Proof.Machine.execQueryConfiguration v s
  | .setJobLevel v => Sys2Proof.Machine.execSetJobLevel v s
  | .setPhaseTable v => Sys2Proof.Machine.execSetPhaseTable v s
  | .setHoldTime v => Sys2Proof.Machine.execSetHoldTime v s
  | .setBlankAfter v => Sys2Proof.Machine.execSetBlankAfter v s
  | .setThermalInterval v => Sys2Proof.Machine.execSetThermalInterval v s
  | .setK v => Sys2Proof.Machine.execSetK v s
  | .setRho v => Sys2Proof.Machine.execSetRho v s
  | .setFCap v => Sys2Proof.Machine.execSetFCap v s
  | .setSensorMap v => Sys2Proof.Machine.execSetSensorMap v s
  | .setDarkPolicy v => Sys2Proof.Machine.execSetDarkPolicy v s
  | .setAssumedAmbient v => Sys2Proof.Machine.execSetAssumedAmbient v s
  | .setPilotInterval v => Sys2Proof.Machine.execSetPilotInterval v s
  | .setScrubInterval v => Sys2Proof.Machine.execSetScrubInterval v s
  | .setReportInterval v => Sys2Proof.Machine.execSetReportInterval v s
  | .setDriftSaveInterval v => Sys2Proof.Machine.execSetDriftSaveInterval v s
  | .setRestWakeInterval v => Sys2Proof.Machine.execSetRestWakeInterval v s
  | .close v => Sys2Proof.Machine.execClose v s
  | .reset v => Sys2Proof.Machine.execReset v s
  | .trim tag codes => Sys2Proof.Machine.execTrim tag codes s
  | .wearClear tag zone => Sys2Proof.Machine.execWearClear tag zone s
  | .bank tag entries => Sys2Proof.Machine.execBank tag entries s
  | .latch tag bank drive => Sys2Proof.Machine.execLatch tag bank drive s
  | .identity tag fields => Sys2Proof.Machine.execIdentity tag fields s
  | .sync low => Sys2Proof.Machine.execSync low s
  | .serviceFrame bytes => Sys2Proof.Machine.execServiceFrame bytes s
  | .serviceFrameTimeout => Sys2Proof.Machine.execServiceFrameTimeout s
  | .serviceBreak low => Sys2Proof.Machine.execServiceBreak low s
  | .idle => Sys2Proof.Machine.execIdle s
  | .sensorResponse f => Sys2Proof.Machine.execSensorResponse f s
  | .sensorDeadline => Sys2Proof.Machine.execSensorDeadline s
  | .blockReadDone cells => Sys2Proof.Machine.execBlockReadDone cells s
  | .blockProgramDone cells => Sys2Proof.Machine.execBlockProgramDone cells s
  | .identityProgramDone cells => Sys2Proof.Machine.execIdentityProgramDone cells s
  | .driftSaveDone cells => Sys2Proof.Machine.execDriftSaveDone cells s
  | .thermalJobEnd => Sys2Proof.Machine.execThermalJobEnd s
  | .gainEnd => Sys2Proof.Machine.execGainEnd s
  | .resetPinDrivenLow => Sys2Proof.Machine.execResetPinDrivenLow s
  | .powerLoss => Sys2Proof.Machine.execPowerLoss s

end Sys2Proof.Machine
end

