-- ==== Sys2Proof/Machine/Step.lean ====
section
/-! DEFINITION. One step: the command at the front of the queue, or a second of the slow clock. -/

namespace Sys2Proof.Machine

/-- R185: what an empty queue brings: one second of the slow clock in REST, and nothing otherwise
(log 3). The expiry itself is the command REST_WAKE_EXPIRY. -/
def idleSecond (s : State) : State :=
  if s.live ∧ s.chip.power = .rest ∧ 1 < s.chip.restWake then
    s.setChip { s.chip with restWake := s.chip.restWake - 1 }
  else s

/-- The command at the front of the queue runs on the state with the queue's rest. -/
def step (s : State) : Host.Outcome State Fault Refusal :=
  match s.pending with
  | c :: rest => exec c (s.setPending rest)
  | [] => .next (idleSecond s)

/-- The state with the command a word spells at the front of its queue; no row gives bits, so no
word spells one. -/
def State.withFetchWord (s : State) (nbits w : Nat) : State :=
  match decodeTableWord nbits w with
  | some c => s.setPending (c :: s.pending)
  | none => s

end Sys2Proof.Machine
end

