-- ==== Sys2Proof/WellFormed.lean ====
section
/-! DEFINITION. Well-formed commands: operands whose sizes and ranges are those of the layouts of
chapter 13 and of the events' own rules. `exec` is total and does not ask for it. -/

namespace Sys2Proof

/-- The body of a unit is counted by a u16 length field. -/
def LinkUnit.wellFormed (u : LinkUnit) : Bool := u.body.length ≤ 65535

/-- A stored item of `n` covered bytes. -/
def Stored.wellFormed (n : Nat) (c : Stored) : Bool := c.data.length == n

/-- Cells that read otherwise than written still number `n` bytes. -/
def cellsWellFormed (n : Nat) (c : Option Stored) : Bool := c.all (Stored.wellFormed n)

/-- The kinds that never reach the prompt queue as themselves (R155): FRAME_HEAD, ROW, INIT and
BLOCK have rows of their own. -/
def ownRowKinds : List Byte := [0x01, 0x02, 0x03, 0x20]

def StoreFindings.wellFormed (f : StoreFindings) : Bool :=
  cellsWellFormed 184 f.identity && cellsWellFormed 321 f.drift &&
    f.slots.all fun e => e.1 < 256 && e.2.wellFormed 1152

def Via.wellFormed {α : Type} (ok : α → Bool) : Via α → Bool
  | .port _ => true
  | .tool _ a => ok a

def BlockVia.wellFormed : BlockVia → Bool
  | .port _ u => u.wellFormed
  | .tool _ p => p.length == 1156

/-- The operands of a command have the sizes their layouts give. -/
def Instr.wellFormed : Instr → Bool
  | .startupChecksDone f => f.wellFormed
  | .init _ u | .frameHead _ u | .row _ u => u.wellFormed
  | .promptMessageArrival _ k u => u.wellFormed && !ownRowKinds.contains k
  | .block v => v.wellFormed
  | .rebuild v => v.wellFormed fun zs => zs.length ≤ 255
  | .setPhaseTable v => v.wellFormed fun t => t.length == 16
  | .bank _ es => es.length ≤ 255
  | .identity _ fs => fs.length == 184
  | .sync low | .serviceBreak low => 0 < low
  | .blockReadDone c | .blockProgramDone c => cellsWellFormed 1152 c
  | .identityProgramDone c => cellsWellFormed 184 c
  | .driftSaveDone c => cellsWellFormed 321 c
  | .powerOn _ | .resetPinRelease _ | .warmReset _ | .loadSample | .thermalTick | .pilotTick
  | .scrubTick | .reportTick | .driftSaveTick | .restWakeExpiry | .primingTimerExpiry _
  | .settleTimerExpiry | .linkStale _ | .blankAfterExpiry | .creditResendTimer _
  | .signalDetected _ | .symbolLock _ | .linkDown _ | .answerSent _ | .unknownKind _ | .wall _
  | .take _ | .dark _ | .light _ | .rest _ | .queryZoneStatus _ | .queryStoreStatus _
  | .queryThermalState _ | .queryWearState _ | .queryGainState _ | .queryComposerState _
  | .querySensorState _ | .queryAuthorityState _ | .queryLinkState _ | .queryConfiguration _
  | .setJobLevel _ | .setHoldTime _ | .setBlankAfter _ | .setThermalInterval _ | .setK _
  | .setRho _ | .setFCap _ | .setSensorMap _ | .setDarkPolicy _ | .setAssumedAmbient _
  | .setPilotInterval _ | .setScrubInterval _ | .setReportInterval _ | .setDriftSaveInterval _
  | .setRestWakeInterval _ | .close _ | .reset _ | .trim _ _ | .wearClear _ _ | .latch _ _ _
  | .serviceFrame _ | .serviceFrameTimeout | .idle | .sensorResponse _ | .sensorDeadline
  | .thermalJobEnd | .gainEnd | .resetPinDrivenLow | .powerLoss => true

end Sys2Proof
end

