-- ==== Sys2Proof/Safety.lean ====
section
/-! DEFINITION. The terms claims use: what a step leaves alone, how a request comes to be handled
and answered, and the laws of the 6C that every step keeps. -/

namespace Sys2Proof.Machine

/-! ## Frames -/

/-- The parts of `State`. -/
inductive Part where
  | chip
  | settings
  | timebase
  | render
  | driver
  | composer
  | store
  | thermal
  | wear
  | gain
  | sensors
  | authority
  | linkA
  | linkB
  | service
  | freeDraws
  | pending
deriving DecidableEq, Repr

/-- Two states agree on a part. -/
def Part.same (s t : State) : Part → Prop
  | .chip => t.chip = s.chip
  | .settings => t.settings = s.settings
  | .timebase => t.timebase = s.timebase
  | .render => t.render = s.render
  | .driver => t.driver = s.driver
  | .composer => t.composer = s.composer
  | .store => t.store = s.store
  | .thermal => t.thermal = s.thermal
  | .wear => t.wear = s.wear
  | .gain => t.gain = s.gain
  | .sensors => t.sensors = s.sensors
  | .authority => t.authority = s.authority
  | .linkA => t.linkA = s.linkA
  | .linkB => t.linkB = s.linkB
  | .service => t.service = s.service
  | .freeDraws => t.freeDraws = s.freeDraws
  | .pending => t.pending = s.pending

/-- From `s` to `t` only the parts of `ps` change. -/
def KeepsBut (ps : List Part) (s t : State) : Prop := ∀ p, p ∉ ps → p.same s t

/-- The part that holds a link's port. -/
def linkPart : Link → Part
  | .a => .linkA
  | .b => .linkB

/-- The command answers a next state, of which `P` holds. -/
def Leads (c : Instr) (s : State) (P : State → Prop) : Prop := ∃ t, exec c s = .next t ∧ P t

/-! ## Reports (R147 to R149) -/

/-- From the state `d` that a step's own rules leave to the next state: the report of the causes
`cs`, on each READY link behind what its send queue holds; nothing where there is no cause, before
the end of start-up, or where no link is READY. -/
def Reported (cs : List Cause) (d t : State) : Prop :=
  if d.started = true ∧ cs ≠ [] ∧ (d.linkA.state = .ready ∨ d.linkB.state = .ready) then
    let n := (d.authority.reports + 1) % 65536
    t.authority = { d.authority with reports := n, lastSent := some d.gain.tileCapacity } ∧
      t.render = { d.render with limited := List.replicate 16 0 } ∧
      (∀ l, t.link l =
        if (d.link l).state = .ready then
          { d.link l with sends := (d.link l).sends ++ [.report (d.reportBody n cs)] }
        else d.link l) ∧
      KeepsBut [.authority, .render, .linkA, .linkB] d t
  else t = d

/-- The command answers a next state: of the state its own rules leave `P` holds, and the report
of the causes `cs` follows. -/
def LeadsReporting (c : Instr) (s : State) (cs : List Cause) (P : State → Prop) : Prop :=
  ∃ d t, exec c s = .next t ∧ P d ∧ Reported cs d t

/-! ## Requests: how they wait and how they are answered -/

/-- A request of this kind that carries `a` is the one to be handled next on its way in: the head
of the link's prompt queue, after start-up, with no answer still to be sent (R157); or a service
frame that has passed its CRC on a LOCKED line whose send queue has room, after start-up (R169).
`layout` is the body of a request that carries `a` (chapter 13). -/
def Asks {α : Type} (v : Via α) (kind : Byte) (layout : α → List Byte) (a : α) (s : State) :
    Prop :=
  match v with
  | .port l =>
    s.started = true ∧ (s.link l).awaiting = false ∧
      ∃ tag rest, (s.link l).prompts = ⟨kind, tag, layout a⟩ :: rest
  | .tool _ b =>
    b = a ∧ s.started = true ∧ s.service.line = .locked ∧ s.service.sends.length < 8

/-- The body of a request that carries nothing. -/
def noBody : Unit → List Byte := fun _ => []

/-- The body of a QUERY of the subject numbered `n`. -/
def queryBody (n : Byte) : Unit → List Byte := fun _ => [n]

/-- The body of a SET of setting `n` at an index, with its s32 value. -/
def setBody (n index : Byte) (v : U32) : List Byte := n :: index :: putU32 v.toNat

/-- The body of a REBUILD: a count and the zones. -/
def rebuildBody (zones : List Byte) : List Byte := BitVec.ofNat 8 zones.length :: zones

/-- The body of a WALL. -/
def wallBody (r : WallRecord) : List Byte :=
  putU16 r.generation ++ putMat r.target ++ putU32 r.ceiling

/-- The kind, tag and payload of the service frame that brings a tool's command (chapter 13,
"Service frames"); none for a command that no frame brings. -/
def toolFrame : Instr → Option (Byte × Byte × List Byte)
  | .dark (.tool tag _) => some (kindDark, tag, [])
  | .light (.tool tag _) => some (kindLight, tag, [])
  | .rest (.tool tag _) => some (kindRest, tag, [])
  | .close (.tool tag _) => some (kindClose, tag, [])
  | .reset (.tool tag _) => some (kindReset, tag, [])
  | .rebuild (.tool tag zones) => some (kindRebuild, tag, rebuildBody zones)
  | .queryZoneStatus (.tool tag _) => some (kindQuery, tag, [1])
  | .queryStoreStatus (.tool tag _) => some (kindQuery, tag, [2])
  | .queryThermalState (.tool tag _) => some (kindQuery, tag, [3])
  | .queryWearState (.tool tag _) => some (kindQuery, tag, [4])
  | .queryGainState (.tool tag _) => some (kindQuery, tag, [5])
  | .queryComposerState (.tool tag _) => some (kindQuery, tag, [6])
  | .querySensorState (.tool tag _) => some (kindQuery, tag, [7])
  | .queryAuthorityState (.tool tag _) => some (kindQuery, tag, [8])
  | .queryLinkState (.tool tag _) => some (kindQuery, tag, [9])
  | .queryConfiguration (.tool tag _) => some (kindQuery, tag, [10])
  | .setJobLevel (.tool tag p) =>
    some (kindSet, tag, setBody 1 (BitVec.ofNat 8 (JobKind.code p.1)) p.2)
  | .setPhaseTable (.tool tag t) =>
    some (kindSet, tag, 2 :: 0 :: t.map fun r => BitVec.ofNat 8 (Requester.code r))
  | .setDarkPolicy (.tool tag p) =>
    some (kindSet, tag, setBody 10 (BitVec.ofNat 8 p.1.val) p.2)
  | .setHoldTime (.tool tag v) => some (kindSet, tag, setBody 3 0 v)
  | .setBlankAfter (.tool tag v) => some (kindSet, tag, setBody 4 0 v)
  | .setThermalInterval (.tool tag v) => some (kindSet, tag, setBody 5 0 v)
  | .setK (.tool tag v) => some (kindSet, tag, setBody 6 0 v)
  | .setRho (.tool tag v) => some (kindSet, tag, setBody 7 0 v)
  | .setFCap (.tool tag v) => some (kindSet, tag, setBody 8 0 v)
  | .setSensorMap (.tool tag v) => some (kindSet, tag, setBody 9 0 v)
  | .setAssumedAmbient (.tool tag v) => some (kindSet, tag, setBody 11 0 v)
  | .setPilotInterval (.tool tag v) => some (kindSet, tag, setBody 12 0 v)
  | .setScrubInterval (.tool tag v) => some (kindSet, tag, setBody 13 0 v)
  | .setReportInterval (.tool tag v) => some (kindSet, tag, setBody 14 0 v)
  | .setDriftSaveInterval (.tool tag v) => some (kindSet, tag, setBody 15 0 v)
  | .setRestWakeInterval (.tool tag v) => some (kindSet, tag, setBody 16 0 v)
  | .block (.tool tag body) => some (kindBlock, tag, body)
  | .trim tag codes => some (kindTrim, tag, [codes.r, codes.g, codes.b])
  | .wearClear tag zone => some (kindWearClear, tag, [zone])
  | .bank tag es =>
    some (kindBank, tag, BitVec.ofNat 8 es.length :: es.flatMap fun e => [e.1, e.2])
  | .latch tag bank v =>
    some (kindLatch, tag,
      bank :: (putU16 v.r.toNat ++ putU16 v.g.toNat ++ putU16 v.b.toNat))
  | .identity tag fields => some (kindIdentity, tag, fields)
  | _ => none

/-- The kinds that the tool may send (R169; chapter 13). -/
def toolKinds : List Byte :=
  [kindDark, kindLight, kindRest, kindRebuild, kindQuery, kindSet, kindClose, kindReset, kindBlock,
    kindTrim, kindBank, kindLatch, kindIdentity, kindWearClear]

/-- The coefficients of a matrix lie in 16 bits. -/
def rowFits (r : Row3) : Prop :=
  (-32768 ≤ r.x0 ∧ r.x0 ≤ 32767) ∧ (-32768 ≤ r.x1 ∧ r.x1 ≤ 32767) ∧
    (-32768 ≤ r.x2 ∧ r.x2 ≤ 32767)

def matFits (m : Mat3) : Prop := rowFits m.r0 ∧ rowFits m.r1 ∧ rowFits m.r2

/-- A wall record that a WALL can carry. -/
def recordFits (r : WallRecord) : Prop :=
  r.generation ≤ 65535 ∧ matFits r.target ∧ r.ceiling ≤ 4294967295

/-- The part that the answer of a request joins. -/
def answerPart {α : Type} : Via α → Part
  | .port l => linkPart l
  | .tool _ _ => .service

/-- The state in which the owner acts: a link's message has left its queue (R156, R164). -/
def handledAt {α : Type} (v : Via α) (s : State) : State :=
  match v with
  | .port l => beginPrompt l (s.link l).prompts.tail s
  | .tool _ _ => s

/-- R158, R169: the answer, behind what stands in its send queue. On a link the head has left the
prompt queue and its answer is awaited (R157), and `own` is what the owner did to the port's other
fields; on the service line nothing else changes. The answer of a RESET is marked. -/
def AnsweredWith {α : Type} (v : Via α) (kind : Byte) (isReset : Bool) (r : Result)
    (content : List Byte) (own : LinkPort → LinkPort) (s t : State) : Prop :=
  match v with
  | .port l =>
    ∃ tag body rest,
      (s.link l).prompts = ⟨kind, tag, body⟩ :: rest ∧
      t.link l =
        { own (s.link l) with
          prompts := rest, awaiting := true
          sends := (s.link l).sends ++
            [.answer (if isReset then .resetPrompt else .prompt) tag kind r content] }
  | .tool tag _ =>
    t.service =
      { s.service with sends := s.service.sends ++ [⟨tag, kind, r, content, isReset⟩] }

/-- The one answer of a request that carries no content. -/
def Answered {α : Type} (v : Via α) (kind : Byte) (r : Result) (s t : State) : Prop :=
  AnsweredWith v kind false r [] id s t

/-- A request that its rule refuses: answered so, and nothing else changes. -/
def RefusedBy {α : Type} (c : Instr) (v : Via α) (kind : Byte) (r : Result) (s : State) : Prop :=
  Leads c s fun t => Answered v kind r s t ∧ KeepsBut [answerPart v] s t

/-- R146, R172: the command comes from the authority link or from the service line. -/
def mayPass {α : Type} (v : Via α) (s : State) : Prop :=
  match v with
  | .port l => s.authority.holder = some l
  | .tool _ _ => True

/-- The field of an answer or report that begins at an offset. -/
def FieldAt (bs : List Byte) (off : Nat) (field : List Byte) : Prop :=
  slice off field.length bs = field

/-- A row of QUERY answers with the owner's content as it stands when the QUERY is handled, and
changes nothing else. `Fields` says what the content's bytes are. -/
def QueryAnswers (row : Via Unit → Instr) (n : Byte) (q : Subject)
    (Fields : State → List Byte → Prop) : Prop :=
  ∀ v s, Asks v kindQuery (queryBody n) () s →
    let content := (handledAt v s).content q
    Fields (handledAt v s) content ∧
      Leads (row v) s fun t =>
        AnsweredWith v kindQuery false .done content id s t ∧ KeepsBut [answerPart v] s t

/-- R180 for a setting numbered `n` of the range `lo` to `hi`: in range it takes the value and is
answered DONE; outside it takes the nearer bound and is answered CLAMPED; locked and CLOSED it
keeps its value and is answered REFUSED_LOCKED. `put` replaces the setting among the settings. -/
def RangeSetting (row : Via U32 → Instr) (n : Byte) (lo hi : Int) (locked : Bool)
    (put : Int → Settings → Settings) : Prop :=
  ∀ v w s, Asks v kindSet (setBody n 0) w s →
    if locked = true ∧ s.chip.config = .closed then RefusedBy (row v) v kindSet .refusedLocked s
    else Leads (row v) s fun t =>
      t.settings =
        put (if w.toInt < lo then lo else if hi < w.toInt then hi else w.toInt) s.settings ∧
        Answered v kindSet (if lo ≤ w.toInt ∧ w.toInt ≤ hi then .done else .clamped) s t ∧
        KeepsBut [.settings, answerPart v] s t

/-! ## The store's arbiter (R53, R54) -/

/-- R53, R54, R118: a request of the requester waits and takes part in the scan; a COMPOSER request
is passed over while the composer is stopped. -/
def Seeks (s : State) : Requester → Prop
  | .linkA => s.store.waiting.linkA ≠ none
  | .linkB => s.store.waiting.linkB ≠ none
  | .service => s.store.waiting.service ≠ none
  | .composer => s.store.waiting.composer ≠ none ∧ s.composerStopped = false
  | .driftSave => s.store.waiting.driftSave ≠ none

/-- R47: a program grant begins; `w` waits on. The block is PROGRAMMING, and its slot holds the
open-program mark and what the program writes. -/
def programBegun (who : Requester) (p : BlockProgram) (w : Waiting) (u : State) : State :=
  u.setStore
    { u.store with
      waiting := w, port := .granted (.program who p)
      slots := Table.put erasedBlock u.store.slots p.block ⟨p.records, p.crc, true⟩
      blockStates := u.store.blockStates.modify p.block fun _ => .programming }

/-- R54: the request of the requester leaves the waiting place and is granted: a program with its
open-program mark (R47, R43), a block read (R55), a drift save with the wear unit's values as they
stand (R45). -/
def GrantBegins (r : Requester) (u t : State) : Prop :=
  let w := u.store.waiting
  match r with
  | .linkA => ∀ p, w.linkA = some p → t = programBegun .linkA p { w with linkA := none } u
  | .linkB => ∀ p, w.linkB = some p → t = programBegun .linkB p { w with linkB := none } u
  | .service =>
    (∀ p, w.service = some (.block p) →
      t = programBegun .service p { w with service := none } u) ∧
    ∀ fields, w.service = some (.identity fields) →
      t = u.setStore
        { u.store with
          waiting := { w with service := none }, port := .granted (.identity fields)
          identity := ⟨fields, crc16 fields, true⟩ }
  | .composer => ∀ i, w.composer = some i →
      t = u.setStore
        { u.store with waiting := { w with composer := none }, port := .granted (.read i) }
  | .driftSave => ∀ mark, w.driftSave = some mark →
      t = u.setStore
        { u.store with
          waiting := { w with driftSave := none }, port := .granted (.save mark)
          drift := ⟨driftBytes u.wear, crc16 (driftBytes u.wear), true⟩ }

/-- R54: the scan at the end of a step. At a free port the first phase from the phase pointer on,
wrapping after 15, that names a requester whose request takes part wins: that request is granted
and the pointer goes past the phase. Where the port is taken or no request takes part, nothing
happens. -/
def Scanned (u t : State) : Prop :=
  let p := u.store.phasePointer
  let wins (n : Nat) (r : Requester) : Prop :=
    u.store.phaseTable[(p + n) % 16]? = some r ∧ Seeks u r
  (u.store.port ≠ .free ∨ (∀ r, ¬Seeks u r) → t = u) ∧
  (u.store.port = .free → u.store.phaseTable.length = 16 →
    ((∀ n < 16, ∀ r, ¬wins n r) → t = u) ∧
    ∀ n < 16, ∀ r, wins n r → (∀ m < n, ∀ q, ¬wins m q) →
      GrantBegins r (u.setStore { u.store with phasePointer := (p + n + 1) % 16 }) t)

/-- R53, R54: a request of `r` would be granted at once: the port is free, nothing waits, and one
of the 16 phases names `r`. -/
def OpenTo (r : Requester) (s : State) : Prop :=
  s.store.port = .free ∧ s.store.waiting = Waiting.none ∧ s.store.phaseTable.length = 16 ∧
    r ∈ s.store.phaseTable

/-- R45, R54, R87: a drift save was granted, with the REST mark or without: it takes the wear
unit's values as they stand. -/
def SaveGranted (mark : Bool) (s t : State) : Prop :=
  t.store =
    { s.store with
      port := .granted (.save mark)
      drift := ⟨driftBytes t.wear, crc16 (driftBytes t.wear), true⟩
      phasePointer := t.store.phasePointer }

/-- R43, R47, R54: a program of the service line was granted: its item holds the open-program mark
and what the program writes. -/
def ServiceGranted (p : ServiceProgram) (s t : State) : Prop :=
  match p with
  | .block b =>
    t.blockState b.block = .programming ∧ t.slot b.block = ⟨b.records, b.crc, true⟩ ∧
      (∀ i, i ≠ b.block → t.slot i = s.slot i ∧ t.blockState i = s.blockState i) ∧
      t.store =
        { s.store with
          port := .granted (.program .service b), slots := t.store.slots
          blockStates := t.store.blockStates, phasePointer := t.store.phasePointer }
  | .identity fields =>
    t.store =
      { s.store with
        port := .granted (.identity fields), identity := ⟨fields, crc16 fields, true⟩
        phasePointer := t.store.phasePointer }

/-! ## Completions of programs (R154, R161, R169, R170) -/

/-- R161: the requests that wait once the head of a link's bulk queue, if there is one, has been
requested. -/
def nextProgram (l : Link) (queue : List BulkEntry) (w : Waiting) : Waiting :=
  match queue, l with
  | [], _ => w
  | e :: _, .a => { w with linkA := some e.program }
  | e :: _, .b => { w with linkB := some e.program }

/-- R170: an IDENTITY held since before a CLOSE is refused as it leaves the hold. -/
def holdRefused (s : State) : Bool :=
  match s.service.hold with
  | some ⟨_, .identity _⟩ => decide (s.chip.config = .closed)
  | some ⟨_, .block _⟩ | none => false

/-- R170: the requests that wait once the hold's entry, if there is one, has been placed. -/
def heldProgram (s : State) (w : Waiting) : Waiting :=
  match s.service.hold with
  | some h => if holdRefused s = true then w else { w with service := some h.program }
  | none => w

/-- R169: an answer of a completion joins the send queue, or is dropped where that holds 8. -/
def queueAnswer (a : ServiceAnswer) (v : ServiceLine) : ServiceLine :=
  if v.sends.length < 8 then { v with sends := v.sends ++ [a] }
  else { v with answerDrops := min 65535 (v.answerDrops + 1) }

/-- R167, R170: the service line after the completion of its program: the answer is given, or
dropped after a return to AWAIT_SYNC, and the hold's entry is placed or refused. -/
def ServiceCompleted (o : ServiceOutstanding) (r : Result) (s u : State) : Prop :=
  let ended : ServiceLine := { s.service with outstanding := none, hold := none }
  let told :=
    if o.dropped = true then { ended with answerDrops := min 65535 (ended.answerDrops + 1) }
    else queueAnswer ⟨o.tag, o.kind, r, [], false⟩ ended
  u.service =
    match s.service.hold with
    | none => told
    | some h =>
      if holdRefused s = true then
        queueAnswer ⟨h.tag, kindIdentity, .refusedLocked, [], false⟩ told
      else
        { told with
          outstanding := some
            ⟨h.tag, (match h.program with | .block _ => kindBlock | .identity _ => kindIdentity),
              false⟩ }

/-! ## Decisions of the composer (R113 to R116) -/

/-- R106 to R109: a job of the kind is pending. -/
def Wanted (c : Composer) : JobKind → Prop
  | .gain => c.gainPending = true
  | .thermal => c.thermalPending = true
  | .build =>
    c.buildSet ≠ [] ∧ c.runs .build = false ∧ c.parked = false ∧ c.stacked .build = false
  | .scrub => c.scrubPending = true

/-- R113: the pending kind of the highest level up to 2, the first in the order GAIN, THERMAL,
BUILD, SCRUB (the order of their codes). -/
def Chosen (c : Composer) (k : JobKind) : Prop :=
  Wanted c k ∧ c.levels.of k ≤ 2 ∧
    ∀ j, Wanted c j → c.levels.of j ≤ 2 →
      c.levels.of j < c.levels.of k ∨
        c.levels.of j = c.levels.of k ∧ JobKind.code k ≤ JobKind.code j

/-- R113: no kind is startable. -/
def NoneChosen (c : Composer) : Prop := ∀ k, Wanted c k → 2 < c.levels.of k

/-- R30, R50: the composer's request for block `i` waits at the arbiter. -/
def ReadPlaced (i : Nat) (u v : State) : Prop :=
  v = u.setStore { u.store with waiting := { u.store.waiting with composer := some i } }

/-- R30: the blocks of zone `z` in ascending index: the `n`-th of its (W/32)×(H/32) blocks. -/
def zoneBlock (u : State) (z n : Nat) : Nat :=
  (z / 4 * (u.height / 32) + n / (u.width / 32)) * (u.width / 8) +
    (z % 4 * (u.width / 32) + n % (u.width / 32))

/-- R112: a job of the kind starts at its kind's level. GAIN takes its inputs (R91); THERMAL makes
its load take, which clears the accumulators and the tick count and moves the clear marks on (R63,
R22, R74); BUILD takes the lowest zone of the build set with the record in force and asks for the
zone's first block (R29, R30); SCRUB begins a batch of 8 at the scrub pointer (R50). -/
def Started (k : JobKind) (u t : State) : Prop :=
  let c := u.composer
  let level := c.levels.of k
  match k with
  | .gain =>
    t = u.setComposer
      { c with
        gainPending := false
        running := some
          ⟨level, .gain
            { temps := u.thermal.temps, wear := u.wear.zones, kappa := u.wear.kappa
              trim := u.wear.trim, ceiling := u.authority.record.ceiling
              tRef := u.store.constants.tRef, beta := u.store.constants.beta
              tables := u.store.constants.tables }⟩ }
  | .thermal =>
    t = (((u.setComposer
      { c with
        thermalPending := false
        running := some
          ⟨level, .thermal
            { load := u.driver.load, pilotLoad := u.driver.pilotLoad
              samples := u.driver.samples, ticks := u.thermal.ticks
              sensed := (List.range 16).map fun z => (u.sensed z).1
              rho := u.settings.rho, k := u.settings.k }⟩ }).setDriver
      { u.driver with
        load := List.replicate 16 ⟨0, 0, 0⟩, pilotLoad := ⟨0, 0, 0⟩, samples := 0 }).setThermal
      { u.thermal with ticks := 0, sampleAfterTake := false }).setWear
      { u.wear with
        clearMarks := u.wear.clearMarks.map fun m => if m = .set then .taken else .clear }
  | .build =>
    ∀ z ∈ c.buildSet, (∀ y ∈ c.buildSet, z ≤ y) → z < 16 →
      ReadPlaced (zoneBlock u z 0)
        (u.setComposer
          { c with
            running := some ⟨level, .build⟩
            buildSet := c.buildSet.filter (· ≠ z)
            staging := .filling
              { zone := z, generation := u.authority.record.generation
                target := u.authority.record.target, fallback := u.store.constants.fallback
                blocksDone := 0, matrices := [], saturated := 0, fallbackBlocks := 0 } }) t
  | .scrub =>
    ReadPlaced u.store.scrubPointer
      (u.setComposer
        { c with scrubPending := false, running := some ⟨level, .scrub 8 false⟩ }) t

/-- R114: the decision of a free composer. The chosen kind starts, unless the stack's top entry
has its level or a higher one; then that SCRUB resumes at its recorded level with the block at the
scrub pointer. With neither the composer is idle. -/
def Decided (u t : State) : Prop :=
  let c := u.composer
  match c.stack with
  | [] => (∀ k, Chosen c k → Started k u t) ∧ (NoneChosen c → t = u)
  | e :: rest =>
    (∀ k, Chosen c k → e.level < c.levels.of k → Started k u t) ∧
      ((NoneChosen c ∨ ∃ k, Chosen c k ∧ c.levels.of k ≤ e.level) →
        ReadPlaced u.store.scrubPointer
          (u.setComposer
            { c with running := some ⟨e.level, .scrub e.left false⟩, stack := rest }) t)

/-- R115, R116: the decision at SCRUB's preemption point, with `left` blocks left. A chosen kind of
a higher level pushes SCRUB onto the stack and starts; otherwise SCRUB goes on with the block at
the scrub pointer. -/
def DecidedAtPoint (level left : Nat) (u t : State) : Prop :=
  let c := u.composer
  (∀ k, Chosen c k → level < c.levels.of k →
    Started k
      (u.setComposer
        { c with
          stack := ⟨.scrub, level, left⟩ :: c.stack
          suspensions := min 65535 (c.suspensions + 1) }) t) ∧
  ((NoneChosen c ∨ ∃ k, Chosen c k ∧ c.levels.of k ≤ level) →
    ReadPlaced u.store.scrubPointer
      (u.setComposer { c with running := some ⟨level, .scrub left false⟩ }) t)

/-- R114 to R116: the decision at the end of a step that has done `u`, where one is due: none while
the composer is stopped (R118), that of a free composer, that of a preemption point. -/
def ComposerFollows (u v : State) : Prop :=
  (u.composerStopped = true → v = u) ∧
  (u.composerStopped = false →
    (u.composer.running = none → Decided u v) ∧
    ∀ r, u.composer.running = some r →
      (∀ left, r.work = .scrub left true → DecidedAtPoint r.level left u v) ∧
      ((∀ left, r.work ≠ .scrub left true) → v = u))

/-- R54, R114: the composer's decision and then the arbiter's scan, at the end of a step. -/
def WorkFollows (u t : State) : Prop := ∃ v, ComposerFollows u v ∧ Scanned v t

/-! ## The data of a block read (R31 to R36, R50, R51, R115) -/

/-- R32: record `r` of a block's data: nine signed 16-bit coefficients, the least significant byte
first, row by row. -/
def recordAt (r : Nat) (data : List Byte) : Mat3 :=
  let c (j : Nat) : Int := leInt (slice (18 * r + 2 * j) 2 data)
  ⟨⟨c 0, c 1, c 2⟩, ⟨c 3, c 4, c 5⟩, ⟨c 6, c 7, c 8⟩⟩

/-- R33: an emitter's row of the product of a factory record and the target: row times column,
scaled back by 2^14 and rounded, before saturation. -/
def productRow (f : Row3) (t : Mat3) : Row3 :=
  ⟨(f.x0 * t.r0.x0 + f.x1 * t.r1.x0 + f.x2 * t.r2.x0 + 8192) / 16384,
    (f.x0 * t.r0.x1 + f.x1 * t.r1.x1 + f.x2 * t.r2.x1 + 8192) / 16384,
    (f.x0 * t.r0.x2 + f.x1 * t.r1.x2 + f.x2 * t.r2.x2 + 8192) / 16384⟩

/-- R34: a coefficient brought into −32768 to 32767. -/
def saturated16 (v : Int) : Int := if v < -32768 then -32768 else if 32767 < v then 32767 else v

/-- R33, R34: a pixel's matrix, and how many of its nine coefficients saturated. -/
def productOf (f t : Mat3) : Mat3 × Nat :=
  let a := productRow f.r0 t
  let b := productRow f.r1 t
  let c := productRow f.r2 t
  let held (r : Row3) : Row3 := ⟨saturated16 r.x0, saturated16 r.x1, saturated16 r.x2⟩
  (⟨held a, held b, held c⟩,
    ([a.x0, a.x1, a.x2, b.x0, b.x1, b.x2, c.x0, c.x1, c.x2].filter fun v =>
      decide (v < -32768 ∨ 32767 < v)).length)

/-- R31 to R34: the zone once one more of its blocks has been computed: 64 matrices, from the
block's records where it is VALID and from the fallback record otherwise. -/
def blockComputed (u : State) (read : BlockRead) (f : Filling) : Filling :=
  let record (r : Nat) : Mat3 :=
    if read.state = .valid then recordAt r read.content.data else f.fallback
  let x := 8 * (read.block % (u.width / 8))
  let y := 8 * (read.block / (u.width / 8))
  { f with
    blocksDone := f.blocksDone + 1
    matrices := f.matrices ++ (List.range 64).map fun r =>
      ((y + r / 8) * u.width + (x + r % 8), (productOf (record r) f.target).1)
    saturated :=
      f.saturated + ((List.range 64).map fun r => (productOf (record r) f.target).2).sum
    fallbackBlocks := f.fallbackBlocks + (if read.state = .valid then 0 else 1) }

/-- R40, R51: SCRUB's check finds a block that stood VALID or BLANK to be something else. That a
VALID block which reads wholly erased is in mismatch is the model's inference (log 27). -/
def CheckFails (read : BlockRead) : Prop :=
  let c := read.content
  let wholly := (∀ b ∈ c.data, b = 0xFF) ∧ c.crc = 0xFFFF
  (read.state = .valid ∧ (c.openMark = true ∨ wholly ∨ crc16 c.data ≠ c.crc)) ∨
    (read.state = .blank ∧ (c.openMark = true ∨ ¬wholly))

/-- R30 to R35, R50, R51, R115: the running job takes the data of its block read. BUILD computes the
block and asks for the zone's next, or parks with its last. SCRUB checks the block: where it fails,
the block is INVALID, the zone that holds it joins the build set and the failure is counted; the
scrub pointer goes on, and SCRUB stands at its preemption point or has ended its batch. That a
failure acts on a block which a program has made VALID or PROGRAMMING since the read is the model's
choice (log 33). -/
def Absorbed (read : BlockRead) (u v : State) : Prop :=
  let c := u.composer
  match c.running with
  | some ⟨_, .build⟩ =>
    (match c.staging with
     | .filling f =>
       let g := blockComputed u read f
       let blocks := u.width / 32 * (u.height / 32)
       (f.zone < 16 → g.blocksDone < blocks →
         ReadPlaced (zoneBlock u f.zone g.blocksDone)
           (u.setComposer { c with staging := .filling g }) v) ∧
       (f.zone < 16 → blocks ≤ g.blocksDone →
         v = u.setComposer
           { c with
             staging := .staged
               ⟨g.zone, g.generation, g.matrices, g.saturated, g.fallbackBlocks⟩
             parked := true, running := none })
     | .empty | .staged _ => v = u)
  | some ⟨level, .scrub left _⟩ =>
    let i := read.block
    let zone := 4 * (i / (u.width / 8) / (u.height / 32)) + i % (u.width / 8) / (u.width / 32)
    let next := if u.store.scrubPointer + 1 < u.blockCount then u.store.scrubPointer + 1 else 0
    let after := if left ≤ 1 then none else some ⟨level, .scrub (left - 1) true⟩
    (CheckFails read →
      v = (u.setStore
        { u.store with
          scrubPointer := next
          blockStates := u.store.blockStates.modify i fun _ => .invalid
          scrubFailures := min 65535 (u.store.scrubFailures + 1) }).setComposer
        { c with
          buildSet := (List.range 16).filter fun z => decide (z = zone ∨ z ∈ c.buildSet)
          running := after }) ∧
    (¬CheckFails read →
      v = (u.setStore { u.store with scrubPointer := next }).setComposer
        { c with running := after })
  | some ⟨_, .gain _⟩ | some ⟨_, .thermal _⟩ | none => v = u

/-! ## What moves into force, and the banks -/

/-- R10, R11: the render engine once a staged zone and a pending gain set have moved into force. -/
def renderInForce (s : State) : Render :=
  let r :=
    { s.render with
      applied := s.render.pendingGain.getD s.render.applied, pendingGain := none }
  match s.composer.staging with
  | .staged z =>
    { r with
      table := Table.putAll zeroMatrix s.render.table z.matrices
      zones := s.render.zones.modify z.zone fun _ =>
        ⟨true, z.generation, z.saturated, z.fallbackBlocks⟩ }
  | .empty | .filling _ => r

/-- R10, R117: the composer then. -/
def composerInForce (s : State) : Composer :=
  match s.composer.staging with
  | .staged _ => { s.composer with staging := .empty, parked := false }
  | .empty | .filling _ => s.composer

/-- R144: the composer once the record in force is `r`: a target that differs fills the build set,
a ceiling that differs requests GAIN. -/
def composerWithRecord (old r : WallRecord) (c : Composer) : Composer :=
  { c with
    buildSet := if r.target = old.target then c.buildSet else List.range 16
    gainPending := c.gainPending || decide (r.ceiling ≠ old.ceiling) }

/-- R17: a bank once the power state is `p`: a PARK bank is ACTIVE; a FLOAT bank that is dark-held
(R15) is STOPPED, and one that is STOPPED and is not held any more primes for 20 ms. -/
def bankAfter (p : PowerState) (k : Bank) : Bank :=
  if k.policy = .park then { k with priming := .active, timer := 0 }
  else if p = .rest ∨ p = .restSample ∨ k.mode = .render ∧ (p = .dark ∨ p = .restingEntry) then
    { k with priming := .stopped, timer := 0 }
  else if k.priming = .stopped then { k with priming := .priming, timer := 20 }
  else k

/-- R15, R17: the driver port once the power state or the output state has changed: every bank
stands as its new state asks, and only banks that show delivered rows keep them. -/
def BanksFollow (s t : State) : Prop :=
  t.driver.banks = s.driver.banks.map (bankAfter t.chip.power) ∧
    (∀ y, Table.get [] t.driver.rows y =
      if t.carries (bankOf y) = .rows then Table.get [] s.driver.rows y else []) ∧
    t.driver = { s.driver with banks := t.driver.banks, rows := t.driver.rows }

/-! ## What follows inside a step -/

/-- R118: at the composer's lift the job takes the data of the read that completed while it was
stopped. -/
def ReadFollows (u v : State) : Prop :=
  (u.composerStopped = true ∨ u.composer.deferred = none → v = u) ∧
  (u.composerStopped = false → ∀ read, u.composer.deferred = some read →
    Absorbed read (u.setComposer { u.composer with deferred := none }) v)

/-- R12: while the engine is not rendering, what waits moves into force at once. -/
def ForceFollows (u v : State) : Prop :=
  v = if u.isRendering = true then u
    else (u.setRender (renderInForce u)).setComposer (composerInForce u)

/-- No decision is due: the composer is stopped, or its job runs and stands at no preemption
point; and no read waits for its job. -/
def Busy (s : State) : Prop :=
  s.composer.deferred = none ∧
    (s.composerStopped = true ∨
      ∃ r, s.composer.running = some r ∧ ∀ left, r.work ≠ .scrub left true)

/-- A decision, if one were taken, would change nothing: the composer is busy, or it is idle and no
kind is startable. -/
def NoDecision (s : State) : Prop :=
  Busy s ∨
    s.composer.deferred = none ∧ s.composer.running = none ∧ s.composer.stack = [] ∧
      NoneChosen s.composer

/-- The banks stand as the states ask, and nothing waits to move into force. -/
def Calm (s : State) : Prop :=
  settleBanks s = s ∧
    (s.isRendering = true ∨
      (∀ z, s.composer.staging ≠ .staged z) ∧ s.render.pendingGain = none)

/-- What follows inside a step has been done: no decision is due, the banks stand as the states
ask, nothing waits to move into force, no request that takes part in a scan waits at a free
port. -/
def Steady (s : State) : Prop :=
  NoDecision s ∧ settleBanks s = s ∧
    (s.isRendering = true ∨
      (∀ z, s.composer.staging ≠ .staged z) ∧ s.render.pendingGain = none) ∧
    (s.store.port ≠ .free ∨ ∀ r, ¬Seeks s r)

/-- What follows inside the step that has done `u`: the banks follow the states (R15, R17), the job
takes a read that was kept for it (R118), what waits moves into force where the engine is not
rendering (R12), the composer takes the decision that is due (R114, R115), the arbiter scans (R54).
That all of it follows at the step's end and in this order is the model's inference (log 4). In a
steady state nothing follows. -/
def Settles (u t : State) : Prop :=
  (Steady u → t = u) ∧
    ∃ b r f, BanksFollow u b ∧ KeepsBut [.driver] u b ∧ ReadFollows b r ∧ ForceFollows r f ∧
      WorkFollows f t

/-- The step's own rules lead to a state of which `P` holds, and what follows in the step is done.
-/
def Settled (P : State → Prop) (t : State) : Prop := ∃ u, P u ∧ Settles u t

/-- The same for a step from `s` that asks nothing of the composer and the store: from a steady
state `P` holds of its end. -/
def QuietFrom (s : State) (P : State → Prop) (t : State) : Prop :=
  Settled P t ∧ (Steady s → P t)

/-- The same for a step that may ask work of the composer: `P` holds of its end where the composer
cannot take a decision. -/
def SettledFrom (s : State) (P : State → Prop) (t : State) : Prop :=
  Settled P t ∧ (Steady s → Busy s → P t)

/-- The same for a step after which only the composer's decision and the scan can follow. -/
def WorkedFrom (s : State) (P : State → Prop) (t : State) : Prop :=
  (∃ u, P u ∧ WorkFollows u t) ∧ (Steady s → Busy s → P t)

/-- The same for such a step that asks nothing of the composer and the store. -/
def QuietWorkFrom (s : State) (P : State → Prop) (t : State) : Prop :=
  (∃ u, P u ∧ WorkFollows u t) ∧ (Steady s → P t)

/-- A request was carried out, `P` holds of the state that left, and the answer was given behind
it. -/
def AnsweredAfter {α : Type} (P : State → Prop) (v : Via α) (kind : Byte) (r : Result)
    (s t : State) : Prop :=
  ∃ m, P m ∧ Answered v kind r s t ∧ KeepsBut [answerPart v] m t

/-- R186: the part leaves the rest for `p`: the held command is gone and the wake counter stopped,
GAIN is requested; and what follows in the step: the banks leave the hold, the composer goes on
with its job and the read kept for it, or takes a decision, and the arbiter scans with the
composer's request again (R118, R54). -/
def LeavesRest (p : PowerState) (s t : State) : Prop :=
  Settles
    ((s.setChip { s.chip with power := p, held := .none, restWake := 0 }).setComposer
      { s.composer with gainPending := true }) t

/-- No sensor request waits or is in flight. -/
def BusIdle (s : State) : Prop := s.sensors.queue = [] ∧ s.sensors.inFlight = none

/-- READ_TEMP has been placed for each of `qs` on an idle bus, and the first is in flight. -/
def RoundPlaced (qs : List Nat) (s t : State) : Prop :=
  ∃ q rest, qs = q :: rest ∧
    t.sensors =
      { s.sensors with
        queue := rest.map fun p => ⟨.temp p, [.thermal]⟩
        inFlight := some ⟨.temp q, [.thermal], s.sensors.tag, 5⟩
        tag := (s.sensors.tag + 1) % 16 }

/-- R124, R125: the command ends the transaction in flight, with this completion. -/
def EndsWith (row : Instr) (tr : Transaction) (c : Completion) (s : State) : Prop :=
  s.sensors.inFlight = some tr ∧
    ((row = .sensorDeadline ∧ c = .missed) ∨
      ∃ f : SensorFrame, row = .sensorResponse f ∧ f.checkOk = true ∧ f.tag.toNat = tr.tag ∧
        c = (match tr.request with
          | .temp _ =>
            if f.failed = true ∨ f.value.toInt < -640 ∨ 2000 < f.value.toInt then .bad
            else .good f.value.toInt
          | .light e =>
            if f.failed = true ∨ Rgb.get f.overflow e = true then .bad
            else .good f.value.toNat))

/-- R127: a miss count after a completion. -/
def missCount (c : Completion) (n : Nat) : Nat :=
  match c with
  | .good _ => 0
  | .bad | .missed => min 255 (n + 1)

/-- R127: the three counts of a sensor after a completion. -/
def countsAfter (c : Completion) (k : SensorCounts) : SensorCounts :=
  match c with
  | .good _ => { k with good := min 65535 (k.good + 1) }
  | .bad => { k with bad := min 65535 (k.bad + 1) }
  | .missed => { k with missed := min 65535 (k.missed + 1) }

/-! ## What resets leave -/

/-- No grant that writes the store is in force. -/
def NoWriteGrant (s : State) : Prop := ∀ g, s.store.port = .granted g → ∃ i, g = .read i

/-- What every warm reset sets (R14, R39, R53, R58, R73, R105, R121, R132, R152, R165, R173). -/
def WarmCleared (s t : State) : Prop :=
  t.settings = Settings.default ∧ t.timebase = Timebase.reset ∧ t.composer = Composer.reset ∧
    t.linkA = LinkPort.reset ∧ t.linkB = LinkPort.reset ∧ t.service = ServiceLine.reset ∧
    t.authority = { Authority.reset with record := s.authority.record } ∧
    t.chip.config = .opened ∧ t.chip.power = .run ∧ t.chip.held = .none ∧ t.chip.restWake = 0 ∧
    t.render.pendingGain = none ∧ t.render.limited = List.replicate 16 0 ∧
    (∀ b ∈ t.driver.banks, b.policy = .park ∧ b.priming = .active ∧ b.timer = 0) ∧
    t.driver.rows = [] ∧ t.driver.load = List.replicate 16 Rgb.zero ∧
    t.driver.pilotLoad = Rgb.zero ∧ t.driver.samples = 0 ∧ t.driver.pilotDrive = Rgb.zero ∧
    t.store.waiting = Waiting.none ∧ t.store.port = .startUp ∧
    t.store.phaseTable = defaultPhaseTable ∧ t.store.phasePointer = 0 ∧
    t.store.scrubPointer = 0 ∧ t.store.programFailures = 0 ∧ t.store.scrubFailures = 0 ∧
    t.store.saveFailures = 0 ∧
    t.thermal.meanLoad = List.replicate 16 0 ∧ t.thermal.ticks = 0 ∧ t.thermal.round = none ∧
    t.thermal.sampleAfterTake = false ∧
    t.wear.clearMarks = List.replicate 16 .clear ∧ t.wear.state = .idle ∧
    t.wear.settleTimer = 0 ∧ t.wear.staleRead = none ∧ t.wear.changed = false ∧
    t.wear.results = ⟨.none, .none, .none⟩ ∧ t.wear.ratios = Rgb.zero ∧ t.wear.misses = 0 ∧
    t.wear.sequences = 0 ∧
    t.sensors.queue = [] ∧ t.sensors.inFlight = none ∧
    t.sensors.counts = List.replicate 5 ⟨0, 0, 0⟩ ∧ t.sensors.late = 0 ∧
    t.sensors.checkFailures = 0

/-- What every warm reset keeps (R2, R14, R39, R44, R58, R73, R90, R102, R121). -/
def WarmKept (s t : State) : Prop :=
  t.render.table = s.render.table ∧ t.render.zones = s.render.zones ∧
    t.render.applied = s.render.applied.map (Rgb.map (min 98304)) ∧
    t.driver.banks.map (·.mode) = s.driver.banks.map (·.mode) ∧
    t.driver.banks.map (·.latch) = s.driver.banks.map (·.latch) ∧
    t.thermal.temps = s.thermal.temps ∧
    t.wear.zones = s.wear.zones ∧ t.wear.pilot = s.wear.pilot ∧ t.wear.kappa = s.wear.kappa ∧
    t.wear.trim = s.wear.trim ∧ t.gain = s.gain ∧
    t.sensors.tag = s.sensors.tag ∧ t.sensors.light = s.sensors.light ∧
    (∀ q ∈ s.settings.sensorMap, t.tempRecord q = s.tempRecord q) ∧
    t.store.driftValid = s.store.driftValid ∧ t.store.driftReset = s.store.driftReset ∧
    (NoWriteGrant s → t.store.slots = s.store.slots ∧ t.store.identity = s.store.identity ∧
      t.store.drift = s.store.drift)

/-- R49: the item whose write the reset cut short checks invalid, whatever its content reads. -/
def AbandonedReads (s t : State) : Prop :=
  (∀ who p, s.store.port = .granted (.program who p) → checkBlock (t.slot p.block) = .invalid) ∧
    (∀ fs, s.store.port = .granted (.identity fs) → identityValid t.store.identity = false) ∧
    (∀ m, s.store.port = .granted (.save m) → driftValid t.store.drift = false)

/-! ## Laws of the 6C -/

/-- R160: for one link, the BLOCKs queued and the credits held never exceed 4; no link but a
READY one has either. -/
def LinkPort.creditLaw (p : LinkPort) : Prop :=
  p.bulk.length + p.credits ≤ 4 ∧ (p.state ≠ .ready → p.bulk = [] ∧ p.credits = 0)

def CreditLaw (s : State) : Prop := s.linkA.creditLaw ∧ s.linkB.creditLaw

def inTempRange (t : Int) : Prop := -640 ≤ t ∧ t ≤ 2000

/-- R58: every zone temperature stays within −640 to 2000; with what it is set from, the held
readings and the assumed ambient (R59). -/
def TemperatureLaw (s : State) : Prop :=
  (∀ t ∈ s.thermal.temps, inTempRange t) ∧
    (∀ r ∈ s.sensors.temps, ∀ v ∈ r.reading, inTempRange v) ∧
    inTempRange s.settings.assumedAmbient

/-- R80: every κ stays within 49152 to 81920. -/
def KappaLaw (s : State) : Prop :=
  ∀ e, 49152 ≤ Rgb.get s.wear.kappa e ∧ Rgb.get s.wear.kappa e ≤ 81920

/-- R132: a link holding authority is READY. -/
def AuthorityLaw (s : State) : Prop := ∀ l, s.authority.holder = some l → (s.link l).state = .ready

/-- R96: every factor of a gain set lies within f_cap. -/
def factorsWithin (cap : Nat) (g : List (Rgb Nat)) : Prop := ∀ f ∈ g, ∀ e, Rgb.get f e ≤ cap

/-- R96, R102: the applied and the pending gain set stay within f_cap, which keeps its range. -/
def FactorLaw (s : State) : Prop :=
  (65536 ≤ s.settings.fCap ∧ s.settings.fCap ≤ 131072) ∧
  factorsWithin s.settings.fCap s.render.applied ∧
    ∀ g ∈ s.render.pendingGain, factorsWithin s.settings.fCap g

/-- R122: no two equal requests among the queue and the transaction in flight, and none for a
sensor that is not there. -/
def SensorLaw (s : State) : Prop :=
  let waiting := s.sensors.queue.map (·.request)
  let all := (s.sensors.inFlight.map (·.request)).toList ++ waiting
  all.Nodup ∧ ∀ r ∈ all, r.sensor ≤ 4 ∧ r ≠ .temp 4

/-- R54: a block is PROGRAMMING only while a program grant for it is in force. R53: the start-up
checks hold the port. -/
def ProgrammingLaw (s : State) : Prop :=
  (∀ i, s.blockState i = .programming →
    ∃ who p, s.store.port = .granted (.program who p) ∧ p.block = i) ∧
    (s.chip.phase = .checking → s.store.port = .startUp)

/-- R116: the suspension stack holds at most one job, a SCRUB, whose recorded level is below the
running job's; no kind appears more than once among the running job, the parked BUILD and the
stack; a kind that is running or stacked is not pending (R108). -/
def StackLaw (s : State) : Prop :=
  let c := s.composer
  (c.stack = [] ∨ ∃ e, c.stack = [e] ∧ e.kind = .scrub ∧ c.runs .scrub = false ∧
      ∃ r, c.running = some r ∧ e.level < r.level) ∧
    (c.runs .scrub = true ∨ c.stack ≠ [] → c.scrubPending = false) ∧
    (c.parked = true → c.runs .build = false) ∧
    (c.runs .thermal = true → c.thermalPending = false)

/-- R15: every drive code at the driver port lies within 0 to 65535: the codes that the rows and
the latches hold do. -/
def CodeLaw (s : State) : Prop :=
  (∀ b ∈ s.driver.banks, ∀ e, Rgb.get b.latch e ≤ 65535) ∧
    ∀ r ∈ s.driver.rows, ∀ c ∈ r.2, ∀ e, Rgb.get c e ≤ 65535

/-- The sparse tables keep their canonical form. -/
def TableLaw (s : State) : Prop :=
  Table.wf zeroMatrix s.render.table = true ∧ Table.wf [] s.driver.rows = true ∧
    Table.wf erasedBlock s.store.slots = true

end Sys2Proof.Machine
end

