-- ==== Sys2Proof/Certificates/Slice0/Obligations.lean ====
section
/-! DEFINITION. The statements for the provers, from the manual's numbered rules. A statement that
says where a command has its effect ends in `Leads`: the command answers a next state. Where it
speaks through `Settles`, `WorkFollows` or `Scanned`, what follows in the step (the banks, a read
kept for its job, the move into force, the composer's decision, the arbiter's scan) does so at the
step's end and in that order: the model's inference (log 4). -/

open Sys2Proof Sys2Proof.Machine

/-! ## The queue and the step -/

/-- A step runs the command at the front of the queue on the state with the queue's rest. The
model's choice (log 3): an empty queue passes one second of the slow clock in REST, while the rest
wake counter stands above 1, and otherwise changes nothing. -/
def Obligations.StepRunsTheFrontCommand : Prop :=
  (∀ (c : Instr) (rest : List Instr) (s : State),
    s.pending = c :: rest → step s = exec c (s.setPending rest)) ∧
  ∀ s : State, s.pending = [] →
    (s.live = true ∧ s.chip.power = .rest ∧ 1 < s.chip.restWake →
      step s = .next (s.setChip { s.chip with restWake := s.chip.restWake - 1 })) ∧
    (¬(s.live = true ∧ s.chip.power = .rest ∧ 1 < s.chip.restWake) → step s = .next s)

/-- No command faults, none is refused, and none reads or changes the queue behind it. That the
manual stops the part nowhere is the model's inference (log 25), and that a command whose occasion
is absent answers the state unchanged is its choice (log 1). -/
def Obligations.EveryCommandCompletes : Prop :=
  ∀ (c : Instr) (s : State), Leads c s fun t => t.pending = s.pending

/-! ## Resets -/

/-- The values the manual gives after a POWER reset, but for those of log 5 and log 23. The build
set holds all 16 zones (R105), and no round is open until the checks' end, where start-up fills the
set and opens the START round (R58, R177 steps 6 and 7). -/
def Obligations.PowerResetValues : Prop :=
  let s := State.reset
  (s.render.zones = List.replicate 16 ⟨false, 0, 0, 0⟩ ∧
    s.render.applied = List.replicate 16 ⟨0, 0, 0⟩ ∧ s.render.pendingGain = none ∧
    s.render.limited = List.replicate 16 0 ∧
    ∀ i, Table.get zeroMatrix s.render.table i = ⟨⟨0, 0, 0⟩, ⟨0, 0, 0⟩, ⟨0, 0, 0⟩⟩) ∧
  (s.driver.banks = List.replicate 16 ⟨.render, ⟨0, 0, 0⟩, .park, .active, 0⟩ ∧
    s.driver.load = List.replicate 16 ⟨0, 0, 0⟩ ∧ s.driver.pilotLoad = ⟨0, 0, 0⟩ ∧
    s.driver.samples = 0 ∧ s.driver.pilotDrive = ⟨0, 0, 0⟩ ∧ s.driver.rows = [] ∧
    ∀ x y, s.laneCode x y = ⟨0, 0, 0⟩) ∧
  (s.composer.levels = ⟨2, 2, 1, 0⟩ ∧ s.composer.gainPending = false ∧
    s.composer.thermalPending = false ∧ s.composer.scrubPending = false ∧
    s.composer.buildSet = [0, 1, 2, 3, 4, 5, 6, 7, 8, 9, 10, 11, 12, 13, 14, 15] ∧
    s.composer.running = none ∧ s.composer.parked = false ∧ s.composer.stack = [] ∧
    s.composer.staging = .empty ∧ s.composer.deferred = none ∧ s.composerStopped = true ∧
    s.composer.suspensions = 0) ∧
  (s.store.waiting = ⟨none, none, none, none, none⟩ ∧ s.store.phasePointer = 0 ∧
    s.store.phaseTable = [.composer, .linkA, .composer, .linkB, .composer, .service, .composer,
      .driftSave, .composer, .linkA, .composer, .linkB, .composer, .service, .composer,
      .driftSave] ∧
    s.store.scrubPointer = 0 ∧ s.store.programFailures = 0 ∧ s.store.scrubFailures = 0 ∧
    s.store.saveFailures = 0 ∧ s.store.port = .startUp) ∧
  (s.thermal.temps = List.replicate 16 400 ∧ s.thermal.meanLoad = List.replicate 16 0 ∧
    s.thermal.ticks = 0 ∧ s.thermal.round = none ∧ s.thermal.sampleAfterTake = false) ∧
  (s.wear.clearMarks = List.replicate 16 .clear ∧ s.wear.state = .idle ∧
    s.wear.settleTimer = 0 ∧ s.wear.staleRead = none ∧ s.wear.changed = false ∧
    s.wear.results = ⟨.none, .none, .none⟩ ∧
    s.wear.ratios = ⟨0, 0, 0⟩ ∧ s.wear.misses = 0 ∧ s.wear.sequences = 0) ∧
  (s.gain.zones = List.replicate 16 ⟨0, .r, ⟨0, 0, 0⟩, false, false⟩ ∧
    s.gain.tileCapacity = 0 ∧ s.gain.weakest = 0 ∧ s.gain.shortCount = 0 ∧
    s.gain.cappedCount = 0 ∧ s.gain.ceilingUsed = 0 ∧ s.gain.runs = 0) ∧
  (s.sensors.queue = [] ∧ s.sensors.inFlight = none ∧ s.sensors.tag = 0 ∧
    s.sensors.temps = List.replicate 4 ⟨0, none⟩ ∧
    s.sensors.light = ⟨0, ⟨none, none, none⟩⟩ ∧
    s.sensors.counts = List.replicate 5 ⟨0, 0, 0⟩ ∧ s.sensors.late = 0 ∧
    s.sensors.checkFailures = 0) ∧
  (s.authority.holder = none ∧ s.authority.pendingTake = none ∧ s.authority.output = .blanked ∧
    s.authority.holdingTime = 0 ∧ s.authority.lastSent = none ∧ s.authority.reports = 0 ∧
    s.authority.changes = 0 ∧ s.authority.holdings = 0 ∧
    s.authority.record = ⟨0, ⟨⟨16384, 0, 0⟩, ⟨0, 16384, 0⟩, ⟨0, 0, 16384⟩⟩, 49152⟩) ∧
  (∀ l, (s.link l).state = .down ∧ (s.link l).credits = 0 ∧ (s.link l).prompts = [] ∧
    (s.link l).awaiting = false ∧ (s.link l).bulk = [] ∧ (s.link l).outstanding = .none ∧
    (s.link l).sends = [] ∧
    (s.link l).lastSequence = none ∧ (s.link l).resend = 0 ∧
    (s.link l).counts = ⟨0, 0, 0, 0, 0, 0, 0, 0, 0, 0⟩ ∧ (s.link l).stored = none ∧
    (s.link l).age = 0 ∧ (s.link l).fresh = false ∧ (s.link l).rowsDiscarded = 0 ∧
    (s.link l).wire = []) ∧
  (s.service.line = .awaitSync ∧ s.service.bitTime = none ∧ s.service.receiving = none ∧
    s.service.outstanding = none ∧ s.service.hold = none ∧ s.service.sends = [] ∧
    s.service.idle = 0 ∧ s.service.crcFailures = 0 ∧ s.service.framingDiscards = 0 ∧
    s.service.syncRejects = 0 ∧ s.service.answerDrops = 0 ∧ s.service.wire = []) ∧
  (s.timebase = ⟨0, 250, 600000, 2000, 1000, 600000⟩ ∧
    s.settings = ⟨100, 10, 250, 32, 288, 98304, [0, 1, 2, 3], 400, 10, 2000, 1000, 10, 30⟩ ∧
    s.chip.causes = [.power] ∧ s.chip.config = .opened ∧ s.chip.power = .run ∧
    s.chip.held = .none ∧ s.chip.restWake = 0 ∧ s.chip.resetDue = []) ∧
  ∀ f, Leads (.startupChecksDone f) s fun t =>
    t.composer.buildSet = [0, 1, 2, 3, 4, 5, 6, 7, 8, 9, 10, 11, 12, 13, 14, 15] ∧
    t.thermal.round = some ⟨[0, 1, 2, 3], false, false, true⟩

/-- R175, R176: a POWER reset, and a loss of power, keep what the store holds and reset everything
else; the POWER reset ends, with the straps latched, when the supply is good and the reset pin is
released. The model's choice (log 16): the volatile values and the straps of a part without power,
and the straps of one whose POWER reset has not ended. -/
def Obligations.PowerKeepsOnlyTheStore : Prop :=
  ∀ (pins : StrapPins) (s : State), NoWriteGrant s →
    let kept (c : Chip) : State :=
      { State.reset with
        chip := c
        store :=
          { Store.reset with
            slots := s.store.slots, identity := s.store.identity, drift := s.store.drift }
        freeDraws := s.freeDraws
        pending := s.pending }
    let chip (straps : StrapPins) (phase : Phase) (low : Bool) : Chip :=
      { Chip.reset with
        straps := straps, phase := phase, pinLow := low, causes := [.power], coldStart := true }
    (s.chip.pinLow = false →
      exec (.powerOn pins) s = .next (kept (chip pins .checking false))) ∧
    (s.chip.pinLow = true →
      exec (.powerOn pins) s = .next (kept (chip ⟨0, 0, false⟩ .poweringUp true))) ∧
    (s.chip.phase = .poweringUp →
      exec (.resetPinRelease pins) s = .next (kept (chip pins .checking false))) ∧
    exec .powerLoss s = .next (kept (chip ⟨0, 0, false⟩ .off s.chip.pinLow))

/-- R49: whatever reset or loss of power cuts a write of the store short, the item's next check
finds it INVALID, whatever its content has become. -/
def Obligations.AbandonedWriteChecksInvalid : Prop :=
  ∀ s : State,
    (∀ pins, Leads (.powerOn pins) s (AbandonedReads s)) ∧
    Leads .powerLoss s (AbandonedReads s) ∧
    (s.live = true → Leads .resetPinDrivenLow s (AbandonedReads s)) ∧
    (∀ pins, s.chip.phase = .held ∨ s.chip.phase = .poweringUp →
      Leads (.resetPinRelease pins) s (AbandonedReads s)) ∧
    (∀ c ∈ s.chip.resetDue, s.live = true → Leads (.warmReset c) s (AbandonedReads s))

/-- R175, R176: what the warm resets clear and keep, with their causes and straps; the reset pin
holds a part with power while it is low, and its release ends no reset where none is held. The
model's choices: the pin driven low clears at once, and the release clears again (log 16, unsafe);
a message's warm reset is carried out once it is due, and no other is due after it (log 17). -/
def Obligations.WarmResetsClearAndKeep : Prop :=
  ∀ s : State,
    (s.live = true → Leads .resetPinDrivenLow s fun t =>
      WarmCleared s t ∧ WarmKept s t ∧ t.chip.phase = .held ∧ t.chip.pinLow = true ∧
        t.chip.straps = s.chip.straps ∧ t.chip.causes = s.chip.causes) ∧
    (s.live = false → exec .resetPinDrivenLow s =
      .next (s.setChip { s.chip with pinLow := true })) ∧
    (∀ pins, s.chip.phase = .held → Leads (.resetPinRelease pins) s fun t =>
      WarmCleared s t ∧ WarmKept s t ∧ t.chip.phase = .checking ∧ t.chip.pinLow = false ∧
        t.chip.straps = pins ∧ ∀ c, c ∈ t.chip.causes ↔ c ∈ s.chip.causes ∨ c = .pin) ∧
    (∀ pins, s.chip.phase ≠ .held → s.chip.phase ≠ .poweringUp →
      exec (.resetPinRelease pins) s = .next (s.setChip { s.chip with pinLow := false })) ∧
    (∀ w ∈ s.chip.resetDue, s.live = true → Leads (.warmReset w) s fun t =>
      WarmCleared s t ∧ WarmKept s t ∧ t.chip.phase = .checking ∧
        t.chip.pinLow = s.chip.pinLow ∧ t.chip.straps = s.chip.straps ∧ t.chip.resetDue = [] ∧
        ∀ c, c ∈ t.chip.causes ↔ c ∈ s.chip.causes ∨ c = resetCauseOf w)

/-! ## Start-up -/

/-- R177 steps 2 to 7, on the state that any reset leaves: the checks of identity record, drift
record and blocks, the table, the build set, the START round. Nothing else changes. And R40, R41,
R44: what the checks of a block, of the identity record and of the drift record are, and where the
identity record's fields lie. -/
def Obligations.StartupChecksAndRound : Prop :=
  (∀ (f : StoreFindings) (s : State),
    s.chip.phase = .checking → s.chip.config = .opened → s.chip.power = .run →
    s.composer = Composer.reset → s.store.waiting = Waiting.none →
    s.store.blockStates.length = 256 → s.thermal.round = none → BusIdle s →
    s.settings = Settings.default → s.render.pendingGain = none → s.driver.rows = [] →
    (∀ b ∈ s.driver.banks, b.policy = .park ∧ b.priming = .active ∧ b.timer = 0) →
    Leads (.startupChecksDone f) s fun t =>
      t.chip = { s.chip with phase := .polling } ∧
      t.store.identity = f.identity.getD s.store.identity ∧
      t.store.identityValid = identityValid t.store.identity ∧
      t.store.constants =
        (if t.store.identityValid then readIdentity t.store.identity.data
          else Constants.default) ∧
      t.store.slots = Table.putAll erasedBlock s.store.slots f.slots ∧
      (∀ i, t.blockState i =
        if i < s.blockCount then checkBlock (t.slot i) else s.blockState i) ∧
      t.store.drift = f.drift.getD s.store.drift ∧
      (s.chip.coldStart = true →
        t.store.driftValid = driftValid t.store.drift ∧
        t.store.driftReset = !driftValid t.store.drift ∧
        t.render =
          { s.render with table := [], zones := List.replicate 16 ⟨false, 0, 0, 0⟩ } ∧
        (driftValid t.store.drift = true →
          (∀ z < 16, ∀ e, Rgb.get (t.wear.zones.getD z Rgb.zero) e =
            leNat (slice (6 * (3 * z + Emitter.index e)) 6 t.store.drift.data)) ∧
          ∀ e,
            Rgb.get t.wear.pilot e =
              leNat (slice (288 + 6 * Emitter.index e) 6 t.store.drift.data) ∧
            Rgb.get t.wear.kappa e =
              leNat (slice (306 + 4 * Emitter.index e) 4 t.store.drift.data) ∧
            Rgb.get t.wear.trim e = leInt (slice (318 + Emitter.index e) 1 t.store.drift.data)) ∧
        (driftValid t.store.drift = false →
          t.wear.zones = List.replicate 16 ⟨0, 0, 0⟩ ∧ t.wear.pilot = ⟨0, 0, 0⟩ ∧
          t.wear.kappa = ⟨65536, 65536, 65536⟩ ∧ t.wear.trim = ⟨0, 0, 0⟩) ∧
        t.wear =
          { s.wear with
            zones := t.wear.zones, pilot := t.wear.pilot, kappa := t.wear.kappa
            trim := t.wear.trim }) ∧
      (s.chip.coldStart = false →
        t.store.driftValid = s.store.driftValid ∧ t.store.driftReset = s.store.driftReset ∧
        t.render = s.render ∧ t.wear = s.wear) ∧
      t.store =
        { s.store with
          identity := t.store.identity, identityValid := t.store.identityValid
          constants := t.store.constants, slots := t.store.slots
          blockStates := t.store.blockStates, drift := t.store.drift
          driftValid := t.store.driftValid, driftReset := t.store.driftReset, port := .free } ∧
      t.composer = { s.composer with buildSet := List.range 16 } ∧
      t.thermal = { s.thermal with round := some ⟨[0, 1, 2, 3], false, false, true⟩ } ∧
      RoundPlaced [0, 1, 2, 3] s t ∧
      KeepsBut [.chip, .store, .render, .wear, .composer, .thermal, .sensors] s t) ∧
  (∀ c : Stored, checkBlock c =
    if c.openMark = true then .invalid
    else if (∀ b ∈ c.data, b = 0xFF) ∧ c.crc = 0xFFFF then .blank
    else if crc16 c.data = c.crc then .valid else .invalid) ∧
  (∀ c : Stored,
    let u (off n : Nat) : Nat := leNat (slice off n c.data)
    let tRef := leInt (slice 8 2 c.data)
    identityValid c = true ↔
      c.openMark = false ∧ ¬((∀ b ∈ c.data, b = 0xFF) ∧ c.crc = 0xFFFF) ∧
      crc16 c.data = c.crc ∧ -640 ≤ tRef ∧ tRef ≤ 2000 ∧
      (∀ e < 3, u (10 + 2 * e) 2 ≤ 1023 ∧
        (∀ i < 8, u (18 + 48 * e + 6 * i) 4 ≤ 98304) ∧
        ∀ i < 7, u (16 + 48 * e + 6 * i) 2 < u (22 + 48 * e + 6 * i) 2)) ∧
  (∀ c : Stored, driftValid c = true ↔
    c.openMark = false ∧ crc16 c.data = c.crc ∧
    ∀ e < 3, 49152 ≤ leNat (slice (306 + 4 * e) 4 c.data) ∧
      leNat (slice (306 + 4 * e) 4 c.data) ≤ 81920) ∧
  ∀ bs : List Byte,
    let c := readIdentity bs
    c.serial = slice 0 8 bs ∧ c.tRef = leInt (slice 8 2 bs) ∧
    c.fallback = recordAt 0 (bs.drop 166) ∧
    ∀ e,
      Rgb.get c.beta e = leNat (slice (10 + 2 * Emitter.index e) 2 bs) ∧
      Rgb.get c.ref e = leNat (slice (160 + 2 * Emitter.index e) 2 bs) ∧
      ∀ i < 8, (Rgb.get c.tables e)[i]? = some
        (leNat (slice (16 + 48 * Emitter.index e + 6 * i) 2 bs),
          leNat (slice (18 + 48 * Emitter.index e + 6 * i) 4 bs))

/-! ## The timebase -/

/-- R21, R23, R173, R20, R15: the 1 ms step; the latched sums it adds, over the pixels of a zone;
and the drive triple that the lanes carry for a pixel, the first row of R15's table that holds. The
model's choice (log 2): LOAD_SAMPLE is that step and moves every timer of the timebase; a countdown
that stands at 0 stays there, since its tick and its reload are the tick's own command. -/
def Obligations.MillisecondStep : Prop :=
  (∀ s : State, s.timebaseRuns = true →
    Leads .loadSample s fun t =>
      t.timebase = ⟨(s.timebase.millis + 1) % 4294967296, s.timebase.thermal - 1,
        s.timebase.pilot - 1, s.timebase.scrub - 1, s.timebase.report - 1,
        s.timebase.driftSave - 1⟩ ∧
      t.driver.load =
        List.zipWith (Rgb.zip fun a l => min 1099511627775 (a + l)) s.driver.load
          ((List.range 16).map s.latchedSum) ∧
      t.driver.pilotDrive =
        (if s.chip.config = .opened then ⟨0, 0, 0⟩
        else match s.wear.state with
          | .settle e | .read e => Rgb.only e 32768
          | .idle =>
            Rgb.map (· / s.pixels) (Rgb.sum ((List.range 16).map s.latchedSum))) ∧
      t.driver.pilotLoad =
        Rgb.zip (fun a d => min 1099511627775 (a + d)) s.driver.pilotLoad t.driver.pilotDrive ∧
      t.driver.samples = min 4294967295 (s.driver.samples + 1) ∧
      t.driver.banks = (s.driver.banks.map fun b =>
        if b.priming = .priming then { b with timer := b.timer - 1 } else b) ∧
      t.driver.rows = s.driver.rows ∧
      t.authority =
        (if s.authority.output = .holding then
          { s.authority with holdingTime := min 600000 (s.authority.holdingTime + 1) }
        else s.authority) ∧
      (∀ l, t.link l =
        { s.link l with
          age := (s.link l).age + 1
          resend :=
            if (s.link l).state = .creditPending then (s.link l).resend - 1
            else (s.link l).resend }) ∧
      t.wear =
        (match s.wear.state with
          | .settle _ => { s.wear with settleTimer := s.wear.settleTimer - 1 }
          | .idle | .read _ => s.wear) ∧
      KeepsBut [.timebase, .driver, .authority, .linkA, .linkB, .wear] s t) ∧
  (∀ (z : Nat) (e : Emitter) (s : State),
    let w := s.width / 4
    let h := s.height / 4
    Rgb.get (s.latchedSum z) e =
      ((List.range h).map fun j => ((List.range w).map fun i =>
        Rgb.get (s.laneCode (z % 4 * w + i) (z / 4 * h + j)) e).sum).sum) ∧
  ∀ (x y : Nat) (k : Bank) (s : State), s.driver.banks[y / 8]? = some k →
    let darkHeld := s.chip.power = .rest ∨ s.chip.power = .restSample ∨
      k.mode = .render ∧ (s.chip.power = .dark ∨ s.chip.power = .restingEntry)
    s.laneCode x y =
      (if s.chip.config = .opened then ⟨0, 0, 0⟩
      else if s.height / 8 ≤ y / 8 then ⟨0, 0, 0⟩
      else if darkHeld then ⟨0, 0, 0⟩
      else if k.priming = .priming ∨ k.priming = .waiting then ⟨0, 0, 0⟩
      else if k.mode = .direct then k.latch
      else if s.authority.output = .blanked then ⟨0, 0, 0⟩
      else ((Table.get [] s.driver.rows y)[x]?).getD ⟨0, 0, 0⟩) ∧
    (s.carries (y / 8) = .nothing ↔
      s.chip.config = .closed ∧ y / 8 < s.height / 8 ∧ darkHeld ∧ k.policy = .float)

/-- R60 to R62: a thermal tick joins the open round, or opens one: on an idle bus, behind a light
transaction in flight, or, with no sensor in the map, to its end at once and a THERMAL request. -/
def Obligations.ThermalTickRound : Prop :=
  ∀ s : State, s.timebaseRuns = true →
    let counted (r : Option Round) (u : State) : Prop :=
      u.thermal =
        { s.thermal with ticks := min 255 (s.thermal.ticks + 1), round := r } ∧
      u.timebase = { s.timebase with thermal := s.settings.thermalInterval }
    (∀ r, s.thermal.round = some r → s.sensors.inFlight ≠ none →
      Leads .thermalTick s (QuietFrom s fun u =>
        counted (some { r with thermal := true }) u ∧ KeepsBut [.thermal, .timebase] s u)) ∧
    (s.thermal.round = none → BusIdle s → s.present ≠ [] →
      Leads .thermalTick s (QuietFrom s fun u =>
        counted (some ⟨s.present, true, false, false⟩) u ∧ RoundPlaced s.present s u ∧
        KeepsBut [.thermal, .timebase, .sensors] s u)) ∧
    (∀ tr e, s.thermal.round = none → s.sensors.inFlight = some tr → tr.request = .light e →
      s.sensors.queue = [] → s.present ≠ [] →
      Leads .thermalTick s (QuietFrom s fun u =>
        counted (some ⟨s.present, true, false, false⟩) u ∧
        u.sensors =
          { s.sensors with queue := s.present.map fun p => ⟨.temp p, [.thermal]⟩ } ∧
        KeepsBut [.thermal, .timebase, .sensors] s u)) ∧
    (s.thermal.round = none → BusIdle s → s.present = [] →
      Leads .thermalTick s (SettledFrom s fun u =>
        counted none u ∧
        u.composer =
          { s.composer with
            thermalPending := s.composer.thermalPending || !s.composer.runs .thermal } ∧
        KeepsBut [.thermal, .timebase, .composer] s u))

/-- R77 to R79, R82: a pilot tick starts a sequence with the first emitter that has a reference,
merges, or is discarded; the settle timer's expiry places the light read. -/
def Obligations.PilotSequenceSteps : Prop :=
  ∀ s : State, s.timebaseRuns = true →
    let timed : Timebase := { s.timebase with pilot := 60000 * s.settings.pilotInterval }
    (s.wear.state = .idle → (s.chip.power = .run ∨ s.chip.power = .dark) →
      s.chip.config = .closed → s.wear.staleRead = none →
      let unmeasured (e : Emitter) : Bool := decide (Rgb.get s.store.constants.ref e = 0)
      let skipped := [Emitter.r, .g, .b].takeWhile unmeasured
      Leads .pilotTick s (QuietWorkFrom s fun u =>
        (∀ e, Rgb.get u.wear.results e =
          if e ∈ skipped then .skipped else Rgb.get s.wear.results e) ∧
        (∀ e, [Emitter.r, .g, .b].find? (fun e => !unmeasured e) = some e →
          u.wear =
            { s.wear with
              state := .settle e, settleTimer := 20, changed := false
              results := u.wear.results } ∧
          u.driver = { s.driver with pilotDrive := Rgb.set ⟨0, 0, 0⟩ e 32768 }) ∧
        (skipped = [.r, .g, .b] →
          u.wear =
            { s.wear with
              settleTimer := 0, changed := false, results := u.wear.results
              sequences := (s.wear.sequences + 1) % 65536 } ∧
          u.driver = s.driver) ∧
        u.timebase = timed ∧ KeepsBut [.wear, .driver, .timebase] s u)) ∧
    (s.wear.state ≠ .idle ∨ (s.chip.power ≠ .run ∧ s.chip.power ≠ .dark) ∨
      s.chip.config = .opened ∨ s.wear.staleRead ≠ none →
      Leads .pilotTick s (QuietWorkFrom s fun u => u = s.setTimebase timed)) ∧
    (∀ e, s.wear.state = .settle e → BusIdle s →
      Leads .settleTimerExpiry s (QuietFrom s fun u =>
        u.wear = { s.wear with state := .read e, settleTimer := 0 } ∧
        u.sensors =
          { s.sensors with
            inFlight := some ⟨.light e, [.wear], s.sensors.tag, 5⟩
            tag := (s.sensors.tag + 1) % 16 } ∧
        KeepsBut [.wear, .sensors] s u))

/-- R108, R113 to R116 and R87, R45, R54: the scrub tick makes SCRUB pending unless it is running or
suspended, and the decision that is due follows; the drift save tick places a save and the arbiter
scans, so that a free port at which nothing else waits takes the live values at once. -/
def Obligations.ScrubAndSaveTicks : Prop :=
  ∀ s : State, s.timebaseRuns = true →
    let ticked : State :=
      (s.setTimebase { s.timebase with scrub := s.settings.scrubInterval }).setComposer
        (if s.composer.runs .scrub = true ∨ s.composer.stacked .scrub = true then s.composer
          else { s.composer with scrubPending := true })
    let saving : State :=
      (s.setTimebase
        { s.timebase with driftSave := 60000 * s.settings.driftSaveInterval }).setStore
        { s.store with
          waiting :=
            { s.store.waiting with
              driftSave := some (s.store.waiting.driftSave.getD false) } }
    Leads .scrubTick s (WorkedFrom s fun u => u = ticked) ∧
    Leads .driftSaveTick s (Scanned saving) ∧
    (s.store.port ≠ .free → Leads .driftSaveTick s fun t => t = saving) ∧
    (s.store.port = .free → s.store.waiting = Waiting.none →
      s.store.phaseTable.length = 16 → .driftSave ∈ s.store.phaseTable →
      Leads .driftSaveTick s fun t =>
        t.store.port = .granted (.save false) ∧ t.store.waiting = Waiting.none ∧
        t.store.drift = ⟨driftBytes s.wear, crc16 (driftBytes s.wear), true⟩ ∧
        t.store =
          { s.store with
            port := t.store.port, drift := t.store.drift
            phasePointer := t.store.phasePointer } ∧
        t.timebase = { s.timebase with driftSave := 60000 * s.settings.driftSaveInterval } ∧
        KeepsBut [.store, .timebase] s t)

/-- R147 to R149, R9: the report tick gives one report on every READY link, or none at all; the
bytes of a report with any causes, and the causes' mask. -/
def Obligations.ReportTickReports : Prop :=
  (∀ s : State, s.timebaseRuns = true →
    LeadsReporting .reportTick s [.periodic] fun d =>
      d = s.setTimebase { s.timebase with report := s.settings.reportInterval }) ∧
  (∀ (n : Nat) (cs : List Cause) (s : State), s.store.constants.serial.length = 8 →
    let body := s.reportBody n cs
    let total := min 4294967295 s.render.limited.sum
    let mixed : Prop := ¬∃ g, ∀ z ∈ s.render.zones, z.built = true ∧ z.generation = g
    body.length = 43 ∧ FieldAt body 0 (putU16 n) ∧ FieldAt body 2 (putU8 (causesMask cs)) ∧
    FieldAt body 3 s.store.constants.serial ∧ FieldAt body 11 (putU32 s.gain.tileCapacity) ∧
    FieldAt body 15
      (putU8 s.gain.weakest ++ putU8 s.gain.shortCount ++ putU8 s.gain.cappedCount) ∧
    FieldAt body 18 (putU32 total) ∧ FieldAt body 22 (putU16 s.authority.record.generation) ∧
    (s.render.zones ≠ [] →
      (mixed → FieldAt body 24 (putU16 0)) ∧
      (∀ g, (∀ z ∈ s.render.zones, z.built = true ∧ z.generation = g) →
        FieldAt body 24 (putU16 g)) ∧
      ∃ flags : Nat, FieldAt body 26 (putU8 flags) ∧ flags < 16 ∧
        (flags.testBit 0 = true ↔ mixed) ∧
        (flags.testBit 1 = true ↔ s.store.identityValid = false) ∧
        (flags.testBit 2 = true ↔ s.store.driftReset = true) ∧
        (flags.testBit 3 = true ↔ s.chip.config = .opened)) ∧
    FieldAt body 27
      [(match s.authority.holder with | none => 0 | some .a => 1 | some .b => 2),
        (match s.authority.output with | .rendering => 0 | .holding => 1 | .blanked => 2),
        (match s.chip.power with
         | .run => 0 | .dark => 1 | .restingEntry => 2 | .rest => 3 | .restSample => 4)] ∧
    FieldAt body 30 (putU8 ((List.range 4).filter fun q => s.tempHealth q = .lost).length) ∧
    FieldAt body 31
      (putU32 s.wear.kappa.r ++ putU32 s.wear.kappa.g ++ putU32 s.wear.kappa.b)) ∧
  ∀ cs : List Cause, causesMask cs < 64 ∧
    ∀ c, (causesMask cs).testBit
      (match c with
       | .periodic => 0 | .capacity => 1 | .short => 2 | .authority => 3 | .output => 4
       | .power => 5) = true ↔ c ∈ cs

/-- R185, R22, R69, R147 and R18: the rest wake expiry starts a sample and reports it; a priming
timer's expiry lights a DIRECT bank and leaves a RENDER bank waiting. -/
def Obligations.RestWakeAndPriming : Prop :=
  (∀ s : State, s.started = true → s.chip.power = .rest → Steady s → s.thermal.round = none →
    BusIdle s → s.present ≠ [] →
    LeadsReporting .restWakeExpiry s [.power] fun d =>
      d.chip = { s.chip with power := .restSample, restWake := 0 } ∧
      d.driver =
        { s.driver with
          load := List.replicate 16 ⟨0, 0, 0⟩, pilotLoad := ⟨0, 0, 0⟩, samples := 0 } ∧
      d.thermal = { s.thermal with round := some ⟨s.present, false, true, false⟩ } ∧
      RoundPlaced s.present s d ∧ KeepsBut [.chip, .driver, .thermal, .sensors] s d) ∧
  ∀ (b : Fin 16) (k : Bank) (s : State), s.timebaseRuns = true →
    s.driver.banks[b.val]? = some k → k.priming = .priming →
    Leads (.primingTimerExpiry b) s fun t =>
      t.driver.banks[b.val]? = some
        { k with timer := 0, priming := if k.mode = .direct then .active else .waiting } ∧
      (∀ j, j ≠ b.val → t.driver.banks[j]? = s.driver.banks[j]?) ∧
      t.driver = { s.driver with banks := t.driver.banks } ∧
      KeepsBut [.driver] s t

/-- R133, R137, R138, R141, R54, R114: what a link that becomes STALE by its age, a hold expiry and
the end of the time in HOLDING do, with their reports (R147) and what follows in their step. The
model's choice (log 2): the expiry acts when its command comes, and an age that then reads below the
hold time is raised to it. -/
def Obligations.HoldingAndBlanking : Prop :=
  (∀ (l : Link) (s : State), s.timebaseRuns = true → (s.link l).fresh = true →
    let stale (u : State) : Prop :=
      u.link l =
        { s.link l with age := max (s.link l).age s.settings.holdTime, fresh := false } ∧
      u.link l.other = s.link l.other
    let pending : Option Link :=
      if s.authority.pendingTake = some l then none else s.authority.pendingTake
    (s.authority.holder = some l → (s.link l.other).usable = false →
      s.authority.output = .rendering →
      LeadsReporting (.linkStale l) s [.output] fun d =>
        Settled (fun u => stale u ∧
          u.authority =
            { s.authority with
              pendingTake := pending, output := .holding, holdingTime := 0
              holdings := min 65535 (s.authority.holdings + 1) } ∧
          KeepsBut [.authority, linkPart l] s u) d ∧
        (s.composer.deferred = none → d.render = renderInForce s) ∧
        (Busy s → d.composer = composerInForce s) ∧
        (Busy s → Steady s → KeepsBut [.authority, linkPart l, .render, .composer] s d)) ∧
    (s.authority.holder = some l → (s.link l.other).usable = true →
      LeadsReporting (.linkStale l) s [.authority] (SettledFrom s fun u => stale u ∧
        u.authority =
          { s.authority with
            holder := some l.other, pendingTake := none
            changes := min 65535 (s.authority.changes + 1)
            record := (s.link l.other).stored.getD s.authority.record } ∧
        u.composer =
          composerWithRecord s.authority.record
            ((s.link l.other).stored.getD s.authority.record) s.composer ∧
        KeepsBut [.authority, linkPart l, .composer] s u)) ∧
    (s.authority.holder ≠ some l ∨
      (s.link l.other).usable = false ∧ s.authority.output ≠ .rendering →
      Leads (.linkStale l) s (QuietFrom s fun u => stale u ∧
        u.authority = { s.authority with pendingTake := pending } ∧
        KeepsBut [.authority, linkPart l] s u))) ∧
  ∀ s : State, s.timebaseRuns = true → s.authority.output = .holding →
    s.settings.blankAfter ≠ 0 →
    LeadsReporting .blankAfterExpiry s [.output] fun d =>
      Settled (fun u =>
        u.authority = { s.authority with output := .blanked, holdingTime := 0 } ∧
        KeepsBut [.authority] s u) d ∧
      (∀ x y, (s.bank (bankOf y)).mode = .render → d.laneCode x y = ⟨0, 0, 0⟩) ∧
      (Busy s → BanksFollow s d) ∧
      (Steady s → BanksFollow s d ∧ KeepsBut [.authority, .driver] s d)

/-! ## Links -/

/-- R153: the bring-up of a link, and the loss of its signal in TRAINING. -/
def Obligations.LinkBringUp : Prop :=
  ∀ (l : Link) (s : State), s.live = true →
    ((s.link l).state = .down → Leads (.signalDetected l) s fun t =>
      t.link l = { s.link l with state := .training } ∧ KeepsBut [linkPart l] s t) ∧
    ((s.link l).state = .training → Leads (.linkDown l) s fun t =>
      t.link l = { s.link l with state := .down } ∧ KeepsBut [linkPart l] s t) ∧
    ((s.link l).state = .training → Leads (.symbolLock l) s fun t =>
      t.link l =
        { s.link l with
          state := .creditPending, resend := 10, sends := (s.link l).sends ++ [.credit 4] } ∧
      KeepsBut [linkPart l] s t) ∧
    ((s.link l).state = .creditPending → s.timebaseRuns = true →
      Leads (.creditResendTimer l) s fun t =>
        t.link l =
          { s.link l with resend := 10, sends := (s.link l).sends ++ [.credit 4] } ∧
        KeepsBut [linkPart l] s t) ∧
    ∀ u : LinkUnit, u.body = [] → linkCheckPasses 0x03 u = true →
      ((s.link l).state = .creditPending → Leads (.init l u) s fun t =>
        t.link l = { s.link l with state := .ready, credits := 4, resend := 0 } ∧
        KeepsBut [linkPart l] s t) ∧
      ((s.link l).state = .ready → Leads (.init l u) s fun t =>
        t.link l =
          { s.link l with
            counts :=
              { (s.link l).counts with
                unexpectedInit := min 4294967295 ((s.link l).counts.unexpectedInit + 1) } } ∧
        KeepsBut [linkPart l] s t)

/-- R154, R139: a link goes DOWN from CREDIT_PENDING or READY, with the report of what changed
(R147) and what follows in the step. A RESET whose answer is discarded is due (R157; log 17). -/
def Obligations.LinkGoesDown : Prop :=
  ∀ (l : Link) (s : State), s.live = true →
    ((s.link l).state = .creditPending ∨ (s.link l).state = .ready) →
    let held := s.authority.holder = some l
    let moves := held ∧ (s.link l.other).usable = true
    let holds := held ∧ (s.link l.other).usable = false ∧ s.authority.output = .rendering
    let record := (s.link l.other).stored.getD s.authority.record
    let dropped (u : State) : Prop :=
      u.link l =
        { s.link l with
          state := .down, credits := 0, prompts := [], awaiting := false, bulk := [], sends := []
          outstanding :=
            (match (s.link l).outstanding, (s.link l).bulk with
             | .current, e :: _ => .orphaned e.program.block
             | o, _ => o)
          lastSequence := none, resend := 0, fresh := false, stored := none } ∧
      u.link l.other = s.link l.other ∧
      (∀ w, w ∈ u.chip.resetDue ↔ w ∈ s.chip.resetDue ∨
        (w = causeOf l ∧ ∃ m ∈ (s.link l).sends, m.isReset = true)) ∧
      u.chip = { s.chip with resetDue := u.chip.resetDue } ∧
      (¬held → u.authority =
        { s.authority with
          pendingTake :=
            if s.authority.pendingTake = some l then none else s.authority.pendingTake }) ∧
      (moves → u.authority =
        { s.authority with
          holder := some l.other, pendingTake := none
          changes := min 65535 (s.authority.changes + 1), record := record }) ∧
      (held → (s.link l.other).usable = false →
        u.authority =
          { s.authority with
            holder := none
            pendingTake :=
              if s.authority.pendingTake = some l then none else s.authority.pendingTake
            changes := min 65535 (s.authority.changes + 1)
            output := if holds then .holding else s.authority.output
            holdingTime := if holds then 0 else s.authority.holdingTime
            holdings :=
              if holds then min 65535 (s.authority.holdings + 1) else s.authority.holdings }) ∧
      (moves → u.composer = composerWithRecord s.authority.record record s.composer) ∧
      KeepsBut [linkPart l, .authority, .composer, .chip] s u ∧
      (¬moves → u.composer = s.composer)
    LeadsReporting (.linkDown l) s
      ((if held then [.authority] else []) ++ (if holds then [.output] else [])) fun d =>
      Settled dropped d ∧
      (¬holds → Steady s → Busy s ∨ ¬moves → dropped d) ∧
      (holds → s.composer.deferred = none → d.render = renderInForce s) ∧
      (holds → Busy s → d.composer = composerInForce s ∧
        (Steady s → KeepsBut [linkPart l, .authority, .render, .composer, .chip] s d))

/-- R133 to R135, R162, R10, R11, R18, R147, R114, R54: a FRAME_HEAD on a READY link. Where it opens
a frame, the parked BUILD's zone and the pending gain set move into force, every WAITING bank is
ACTIVE, and the composer, idle or at work, takes the decision that is then due. -/
def Obligations.FrameHeadActs : Prop :=
  ∀ (l : Link) (u : LinkUnit) (s : State), s.live = true → (s.link l).state = .ready →
    linkCheckPasses 0x01 u = true → u.body.length = 2 →
    let n := getU16 0 u.body
    let takes : Bool := match s.authority.holder with
      | none => true
      | some h =>
        decide (h ≠ l) &&
          (!(s.link h).usable || decide (s.authority.pendingTake = some l))
    let opens := takes = true ∨ s.authority.holder = some l
    let record :=
      if takes then (s.link l).stored.getD s.authority.record else s.authority.record
    let released : List Bank := s.driver.banks.map fun k =>
      if k.priming = .waiting then { k with priming := .active } else k
    let headed (w : State) : Prop :=
      w.link l =
        { s.link l with
          age := 0, fresh := true, lastSequence := some n
          counts :=
            { (s.link l).counts with
              sequenceGaps :=
                if ∃ k ∈ (s.link l).lastSequence, n ≠ (k + 1) % 65536 then
                  min 4294967295 ((s.link l).counts.sequenceGaps + 1)
                else (s.link l).counts.sequenceGaps } } ∧
      w.link l.other = s.link l.other ∧
      (s.started = true → opens →
        w.authority =
          { s.authority with
            holder := some l
            pendingTake := if takes then none else s.authority.pendingTake
            changes :=
              if takes then min 65535 (s.authority.changes + 1) else s.authority.changes
            record := record, output := .rendering, holdingTime := 0 } ∧
        w.render = renderInForce s ∧
        w.composer = composerWithRecord s.authority.record record (composerInForce s) ∧
        w.driver = { s.driver with banks := released } ∧
        KeepsBut [linkPart l, .authority, .render, .composer, .driver] s w) ∧
      ((s.started = false ∨ ¬opens) → KeepsBut [linkPart l] s w)
    LeadsReporting (.frameHead l u) s
      ((if takes then [.authority] else []) ++
        (if opens ∧ s.authority.output ≠ .rendering then [.output] else [])) fun d =>
      SettledFrom s headed d ∧
      (s.started = true → opens →
        (∀ b ∈ d.driver.banks, b.priming ≠ .waiting) ∧
        (s.composer.deferred = none → d.render = renderInForce s) ∧
        (Busy s →
          d.composer = composerWithRecord s.authority.record record (composerInForce s)) ∧
        (settleBanks s = s → d.driver.banks = released ∧ d.driver.rows = s.driver.rows)) ∧
      ((s.started = false ∨ ¬opens) → Steady s → KeepsBut [linkPart l] s d) ∧
      KeepsBut [linkPart l, .authority, .render, .composer, .driver, .store, .thermal, .wear] s d

/-- R163, R136, R4 to R8, R19: what becomes of a ROW on a READY link. -/
def Obligations.RowActs : Prop :=
  ∀ (l : Link) (u : LinkUnit) (s : State), s.live = true → (s.link l).state = .ready →
    linkCheckPasses 0x02 u = true → 4 ≤ u.body.length →
    let n := u.body.length
    let y := getU16 0 u.body
    let counted (k : LinkCounts) : Prop :=
      Leads (.row l u) s fun t =>
        t.link l = { s.link l with counts := k } ∧ KeepsBut [linkPart l] s t
    let c := (s.link l).counts
    if crc16 (u.body.take (n - 2)) ≠ getCrc (n - 2) u.body then
      counted { c with rowCheck := min 4294967295 (c.rowCheck + 1) }
    else if s.height ≤ y then counted { c with rowIndex := min 4294967295 (c.rowIndex + 1) }
    else if n ≠ 4 + 6 * s.width then
      counted { c with rowLength := min 4294967295 (c.rowLength + 1) }
    else if s.started = false then Leads (.row l u) s (KeepsBut [] s)
    else if ¬(s.authority.holder = some l ∧ s.authority.output = .rendering ∧
        s.chip.power = .run) then
      Leads (.row l u) s fun t =>
        t.link l =
          { s.link l with rowsDiscarded := min 4294967295 ((s.link l).rowsDiscarded + 1) } ∧
        KeepsBut [linkPart l] s t
    else if s.chip.config = .closed ∧ (s.bank (y / 8)).mode = .render ∧
        (s.bank (y / 8)).priming = .active then
      -- the zone of the pixel, its inputs and its matrix
      let zone (x : Nat) : Nat := 4 * (y / (s.height / 4)) + x / (s.width / 4)
      let built (x : Nat) : Bool := (s.render.zones.getD (zone x) ⟨false, 0, 0, 0⟩).built
      let input (x k : Nat) : Int := (getU16 (2 + 6 * x + 2 * k) u.body : Nat)
      let matrix (x : Nat) : Mat3 := Table.get zeroMatrix s.render.table (y * s.width + x)
      -- R5: the product with its negative clamp, scaled back and rounded
      let acc (x : Nat) (e : Emitter) : Int :=
        let row := match e with
          | .r => (matrix x).r0
          | .g => (matrix x).r1
          | .b => (matrix x).r2
        row.x0 * input x 0 + row.x1 * input x 1 + row.x2 * input x 2
      let scaled (x : Nat) (e : Emitter) : Nat :=
        if acc x e ≤ 0 then 0 else ((acc x e + 8192) / 16384).toNat
      -- R6: the row factor, rounded
      let driven (x : Nat) (e : Emitter) : Nat :=
        (scaled x e * Rgb.get (s.render.applied.getD (zone x) ⟨0, 0, 0⟩) e + 32768) / 65536
      -- R7: the limiter; R8: an UNBUILT zone carries 0
      let top (x : Nat) : Nat := max (driven x .r) (max (driven x .g) (driven x .b))
      let code (x : Nat) (e : Emitter) : Nat :=
        if built x = false then 0
        else if top x ≤ 65535 then driven x e else driven x e * 65535 / top x
      let limited (x : Nat) : Bool := built x && decide (65535 < top x)
      Leads (.row l u) s fun t =>
        (Table.get [] t.driver.rows y).length = s.width ∧
        (∀ x < s.width, (Table.get [] t.driver.rows y)[x]? =
          some ⟨code x .r, code x .g, code x .b⟩) ∧
        (∀ y', y' ≠ y → Table.get [] t.driver.rows y' = Table.get [] s.driver.rows y') ∧
        (∀ (z k : Nat), s.render.limited[z]? = some k → t.render.limited[z]? = some
          (min 4294967295 (k + ((List.range s.width).filter fun x =>
            limited x && zone x == z).length))) ∧
        t.render = { s.render with limited := t.render.limited } ∧
        t.driver = { s.driver with rows := t.driver.rows } ∧
        KeepsBut [.render, .driver] s t
    else Leads (.row l u) s (KeepsBut [] s)

/-- R160, R46, R47, R54: a BLOCK on a READY link: overrun, refused, queued, or placed, with the
arbiter's scan; a free port at which nothing else waits grants it at once. -/
def Obligations.LinkBlockActs : Prop :=
  ∀ (l : Link) (u : LinkUnit) (s : State), s.live = true → (s.link l).state = .ready →
    linkCheckPasses kindBlock u = true →
    let p : BlockProgram := ⟨getU16 0 u.body, slice 2 1152 u.body, getCrc 1154 u.body⟩
    let good := u.body.length = 1156 ∧ p.block < s.blockCount ∧ crc16 p.records = p.crc
    let who : Requester := match l with | .a => .linkA | .b => .linkB
    let c := s.link l
    (c.credits = 0 → Leads (.block (.port l u)) s fun t =>
      t.link l =
        { c with counts := { c.counts with overrun := min 4294967295 (c.counts.overrun + 1) } } ∧
      KeepsBut [linkPart l] s t) ∧
    (0 < c.credits → ¬good → Leads (.block (.port l u)) s fun t =>
      t.link l =
        { c with
          sends := c.sends ++ [.answer .bulk u.tag kindBlock .refusedBad [], .credit 1]
          counts :=
            { c.counts with blockRefusals := min 4294967295 (c.counts.blockRefusals + 1) } } ∧
      KeepsBut [linkPart l] s t) ∧
    (0 < c.credits → good → c.outstanding ≠ .none →
      let queued : State :=
        s.setLink l { c with credits := c.credits - 1, bulk := c.bulk ++ [⟨u.tag, p⟩] }
      Leads (.block (.port l u)) s fun t =>
        Scanned queued t ∧ (s.store.port ≠ .free ∨ Steady s → t = queued)) ∧
    (0 < c.credits → good → c.outstanding = .none → c.bulk = [] →
      let placed : State :=
        (s.setLink l
          { c with
            credits := c.credits - 1, bulk := [⟨u.tag, p⟩], outstanding := .current }).setStore
          { s.store with
            waiting :=
              (match l with
               | .a => { s.store.waiting with linkA := some p }
               | .b => { s.store.waiting with linkB := some p }) }
      Leads (.block (.port l u)) s fun t =>
        Scanned placed t ∧ (s.store.port ≠ .free → t = placed)) ∧
    (0 < c.credits → good → c.outstanding = .none → c.bulk = [] → s.store.port = .free →
      s.store.waiting = Waiting.none → s.store.phaseTable.length = 16 →
      who ∈ s.store.phaseTable → s.store.blockStates.length = 256 →
      Leads (.block (.port l u)) s fun t =>
        t.link l =
          { c with credits := c.credits - 1, bulk := [⟨u.tag, p⟩], outstanding := .current } ∧
        t.store.port = .granted (.program who p) ∧ t.blockState p.block = .programming ∧
        t.slot p.block = ⟨p.records, p.crc, true⟩ ∧
        (∀ i, i ≠ p.block → t.slot i = s.slot i ∧ t.blockState i = s.blockState i) ∧
        t.store =
          { s.store with
            port := t.store.port, slots := t.store.slots, blockStates := t.store.blockStates
            phasePointer := t.store.phasePointer } ∧
        KeepsBut [linkPart l, .store] s t)

/-- R155, R156: the link check, the discard in CREDIT_PENDING, and the prompt queue. -/
def Obligations.LinkReceipt : Prop :=
  ∀ (l : Link) (kind : Byte) (u : LinkUnit) (s : State), s.live = true →
    let c := s.link l
    let failure (row : Instr) : Prop :=
      Leads row s fun t =>
        t.link l =
          { c with
            counts :=
              { c.counts with checkFailures := min 4294967295 (c.counts.checkFailures + 1) } } ∧
        KeepsBut [linkPart l] s t
    (c.state = .creditPending ∨ c.state = .ready →
      (linkCheckPasses kind u = false → failure (.promptMessageArrival l kind u)) ∧
      (linkCheckPasses 0x01 u = false → failure (.frameHead l u)) ∧
      (linkCheckPasses 0x02 u = false → failure (.row l u)) ∧
      (linkCheckPasses 0x03 u = false → failure (.init l u)) ∧
      (linkCheckPasses kindBlock u = false → failure (.block (.port l u)))) ∧
    (c.state = .creditPending → linkCheckPasses kind u = true → kind ≠ 0x03 →
      Leads (.promptMessageArrival l kind u) s fun t =>
        t.link l =
          { c with counts := { c.counts with notReady := min 4294967295 (c.counts.notReady + 1) } } ∧
        KeepsBut [linkPart l] s t) ∧
    (c.state = .ready → linkCheckPasses kind u = true → kind ∉ ownRowKinds →
      (c.prompts.length < 8 → Leads (.promptMessageArrival l kind u) s fun t =>
        t.link l = { c with prompts := c.prompts ++ [⟨kind, u.tag, u.body⟩] } ∧
        KeepsBut [linkPart l] s t) ∧
      (8 ≤ c.prompts.length → Leads (.promptMessageArrival l kind u) s fun t =>
        t.link l =
          { c with
            counts :=
              { c.counts with
                promptOverflow := min 4294967295 (c.counts.promptOverflow + 1) } } ∧
        KeepsBut [linkPart l] s t))

/-- R157 to R159, R169, R172, R188, R189: the oldest outgoing message leaves, as the bytes of its
unit or frame; with a prompt's answer the port may take its next prompt; with a RESET's answer the
reset is due, and it is the model's choice that nothing else happens there (log 17) and that the
bytes sent are kept (log 21). A prompt of unknown kind or wrong form is answered REFUSED_BAD. -/
def Obligations.MessagesLeaveAndBadPrompts : Prop :=
  ∀ s : State, s.live = true →
    let code (r : Result) : Byte := match r with
      | .done => 0
      | .clamped => 1
      | .kept => 2
      | .failed => 3
      | .refusedBad => 4
      | .refusedLocked => 5
      | .refusedState => 6
    let sealed (bs : List Byte) : List Byte := bs ++ putU16 (crc16 bs).toNat
    let unit (m : Outgoing) : List Byte := match m with
      | .answer _ tag kind r content =>
        sealed (0x40 :: tag :: putU16 (2 + content.length) ++ kind :: code r :: content)
      | .credit n => sealed [0x41, 0, 1, 0, BitVec.ofNat 8 n]
      | .report body => sealed (0x42 :: 0 :: putU16 body.length ++ body)
    let frame (a : ServiceAnswer) : List Byte :=
      0x7E :: sealed (putU16 (4 + a.content.length) ++
        0x40 :: a.tag :: a.kind :: code a.result :: a.content)
    (∀ (l : Link) (m : Outgoing) (rest : List Outgoing), (s.link l).sends = m :: rest →
      Leads (.answerSent (.link l)) s fun t =>
        t.link l =
          { s.link l with
            sends := rest, wire := (s.link l).wire ++ [unit m]
            awaiting :=
              (match m with
               | .answer .prompt _ _ _ _ | .answer .resetPrompt _ _ _ _ => false
               | _ => (s.link l).awaiting) } ∧
        (∀ w, w ∈ t.chip.resetDue ↔ w ∈ s.chip.resetDue ∨ (w = causeOf l ∧ m.isReset = true)) ∧
        t.chip = { s.chip with resetDue := t.chip.resetDue } ∧
        KeepsBut [linkPart l, .chip] s t) ∧
    (∀ (a : ServiceAnswer) (rest : List ServiceAnswer), s.service.sends = a :: rest →
      Leads (.answerSent .service) s fun t =>
        t.service =
          { s.service with sends := rest, wire := s.service.wire ++ frame a } ∧
        (∀ w, w ∈ t.chip.resetDue ↔ w ∈ s.chip.resetDue ∨ (w = .service ∧ a.isReset = true)) ∧
        t.chip = { s.chip with resetDue := t.chip.resetDue } ∧
        KeepsBut [.service, .chip] s t) ∧
    (∀ (l : Link) (m : Message) (rest : List Message), s.started = true →
      (s.link l).awaiting = false → (s.link l).prompts = m :: rest →
      ((∀ n < 10, m.kind ≠ BitVec.ofNat 8 (0x10 + n)) ∨ parseRequest m.kind m.body = none) →
      Leads (.unknownKind l) s fun t =>
        t.link l =
          { s.link l with
            prompts := rest, awaiting := true
            sends := (s.link l).sends ++ [.answer .prompt m.tag m.kind .refusedBad []] } ∧
        KeepsBut [linkPart l] s t)

/-! ## Requests -/

/-- R142, R144, R114: a WALL is stored and, on the authority link, put in force, with the decision
that is then due. -/
def Obligations.WallStoredAndInForce : Prop :=
  ∀ (l : Link) (r : WallRecord) (s : State), recordFits r →
    Asks (.port l) kindWall wallBody r s →
    let r' : WallRecord := { r with ceiling := min 65536 r.ceiling }
    Leads (.wall l) s fun t =>
      AnsweredWith (.port l : Via Unit) kindWall false
        (if r.ceiling ≤ 65536 then .done else .clamped) []
        (fun p => { p with stored := some r' }) s t ∧
      (s.authority.holder = some l → ∃ m, WorkedFrom s (fun u =>
          u.authority = { s.authority with record := r' } ∧
          u.composer = composerWithRecord s.authority.record r' s.composer ∧
          KeepsBut [.authority, .composer] s u) m ∧
        KeepsBut [linkPart l] m t) ∧
      (s.authority.holder ≠ some l → ∃ m, QuietWorkFrom s (fun u => u = s) m ∧
        KeepsBut [linkPart l] m t)

/-- R140: the three rows of a TAKE, the first that holds. That the first row goes before the last
where both hold, for an authority link that is not usable, is the model's choice (log 34). -/
def Obligations.TakeIsJudgedAtHandling : Prop :=
  ∀ (l : Link) (s : State), Asks (.port l) kindTake noBody () s →
    let pends (p : Option Link) (r : Result) : Prop :=
      Leads (.take l) s fun t =>
        t.authority = { s.authority with pendingTake := p } ∧
        Answered (.port l : Via Unit) kindTake r s t ∧ KeepsBut [linkPart l, .authority] s t
    if s.authority.holder = some l then pends none .done
    else if (s.link l).usable = true then pends (some l) .done
    else pends s.authority.pendingTake .refusedState

/-- R146, R147, R17, R181, R182, R186: DARK and LIGHT, by the power state at handling: the state
they lead to, the answer, the report of a change, and what follows in the step: the banks that
stop, prime or keep their rows, the work that moves into force, the composer's decision, the
arbiter's scan. -/
def Obligations.DarkAndLight : Prop :=
  ∀ (v : Via Unit) (s : State),
    (∀ l, v = .port l → s.authority.holder ≠ some l →
      (Asks v kindDark noBody () s → RefusedBy (.dark v) v kindDark .refusedState s) ∧
      (Asks v kindLight noBody () s → RefusedBy (.light v) v kindLight .refusedState s)) ∧
    (mayPass v s →
      let goes (row : Instr) (kind : Byte) (p : PowerState) : Prop :=
        LeadsReporting row s [.power] fun d =>
          AnsweredAfter (Settled fun u =>
            u.chip = { s.chip with power := p } ∧ KeepsBut [.chip] s u) v kind .done s d ∧
          (Steady s → p = .run ∨ Busy s →
            BanksFollow s d ∧
            (p = .dark → d.render = renderInForce s ∧ d.composer = composerInForce s) ∧
            (p = .run → d.render = s.render ∧ d.composer = s.composer) ∧
            KeepsBut [.chip, .render, .driver, .composer, answerPart v] s d)
      let holds (row : Instr) (kind : Byte) (h : HeldCommand) : Prop :=
        Leads row s (AnsweredAfter (QuietFrom s fun u =>
          u.chip = { s.chip with held := h } ∧ KeepsBut [.chip] s u) v kind .done s)
      let leaves (row : Instr) (kind : Byte) (p : PowerState) : Prop :=
        LeadsReporting row s [.power] (AnsweredAfter (LeavesRest p s) v kind .done s)
      (Asks v kindDark noBody () s → match s.chip.power with
        | .run => goes (.dark v) kindDark .dark
        | .dark => holds (.dark v) kindDark s.chip.held
        | .restingEntry | .restSample => holds (.dark v) kindDark .dark
        | .rest => leaves (.dark v) kindDark .dark) ∧
      (Asks v kindLight noBody () s → match s.chip.power with
        | .run => holds (.light v) kindLight s.chip.held
        | .dark => goes (.light v) kindLight .run
        | .restingEntry | .restSample => holds (.light v) kindLight .light
        | .rest => leaves (.light v) kindLight .run))

/-- R146, R147, R181, R183, R83, R87, R45, R54: REST, by the power state at handling: the marked
save is placed, and granted at once at a free port where nothing else waits. That the pilot drive
stays as it is here until the next tick is the model's choice (log 29). -/
def Obligations.RestBeginsWithAMarkedSave : Prop :=
  ∀ (v : Via Unit) (s : State), Asks v kindRest noBody () s →
    (∀ l, v = .port l → s.authority.holder ≠ some l →
      RefusedBy (.rest v) v kindRest .refusedState s) ∧
    (mayPass v s →
      ((s.chip.power = .run ∨ s.chip.power = .dark) →
        let asked : Composer :=
          { s.composer with
            gainPending :=
              s.composer.gainPending || (decide (s.wear.state ≠ .idle) && s.wear.changed) }
        let entered : State :=
          (((s.setChip { s.chip with power := .restingEntry, held := .none }).setComposer
            asked).setStore
            { s.store with waiting := { s.store.waiting with driftSave := some true } }).setWear
            { s.wear with
              state := .idle
              settleTimer := if s.wear.state = .idle then s.wear.settleTimer else 0
              staleRead :=
                (match s.wear.state with
                 | .read e => some e
                 | .idle | .settle _ => s.wear.staleRead) }
        LeadsReporting (.rest v) s [.power] fun d =>
          AnsweredAfter (Settled fun u => u = entered) v kindRest .done s d ∧
          (OpenTo .driftSave s → NoDecision (entered.setComposer (composerInForce entered)) →
            SaveGranted true s d) ∧
          (Steady s → Busy s →
            (s.store.port ≠ .free → d.store = entered.store) ∧ d.wear = entered.wear ∧
            d.composer =
              { composerInForce s with gainPending := asked.gainPending } ∧
            d.render = renderInForce s ∧ BanksFollow s d ∧
            KeepsBut [.chip, .render, .driver, .composer, .store, .wear, answerPart v] s d)) ∧
      ((s.chip.power = .restingEntry ∨ s.chip.power = .restSample) →
        Leads (.rest v) s (AnsweredAfter (QuietFrom s fun u =>
          u.chip = { s.chip with held := .none } ∧ KeepsBut [.chip] s u) v kindRest .done s)) ∧
      (s.chip.power = .rest → Leads (.rest v) s
        (AnsweredAfter (QuietFrom s fun u => u = s) v kindRest .done s)))

/-- R27, R114: a REBUILD adds the zones it names, with the decision that is then due, or is
refused. -/
def Obligations.RebuildJoinsItsZones : Prop :=
  ∀ (v : Via (List Byte)) (zones : List Byte) (s : State), zones.length ≤ 255 →
    Asks v kindRebuild rebuildBody zones s →
    ((zones = [] ∨ ∃ z ∈ zones, 15 < z.toNat) →
      RefusedBy (.rebuild v) v kindRebuild .refusedBad s) ∧
    (zones ≠ [] → (∀ z ∈ zones, z.toNat ≤ 15) →
      Leads (.rebuild v) s (AnsweredAfter (WorkedFrom s fun u =>
        u = s.setComposer
          { s.composer with
            buildSet := (List.range 16).filter fun z =>
              decide (z ∈ s.composer.buildSet ∨ z ∈ zones.map BitVec.toNat) })
        v kindRebuild .done s))

/-- R37, R57, R71, R88, R104, R120, R131, R151, R164, R187, R189: each QUERY is answered from the
state as it stands when it is handled, and changes nothing; what the leading fields of each answer
are, and the codes they use. Where the rules leave the order or the form of a field open, it is
the model's choice (log 9). -/
def Obligations.QueriesReadAndChangeNothing : Prop :=
  QueryAnswers .queryZoneStatus 1 .zoneStatus (fun u c =>
    c.length = 6 * u.render.zones.length ∧
    ∀ (i : Nat) (z : ZoneStatus), u.render.zones[i]? = some z →
      FieldAt c (6 * i)
        (putFlag z.built ++ putU16 z.generation ++ putU16 z.saturated ++
          putU8 z.fallbackBlocks)) ∧
  QueryAnswers .queryStoreStatus 2 .storeStatus (fun u c =>
    let n := u.blockCount
    let held (b : BlockState) : List Byte :=
      putU16 ((List.range n).filter fun i => decide (u.blockState i = b)).length
    u.store.blockStates.length = 256 → u.store.constants.serial.length = 8 →
      FieldAt c 0 (putU16 n) ∧
      (∀ i < n, FieldAt c (2 + i) (putU8 (u.blockState i).code)) ∧
      FieldAt c (2 + n) (held .blank ++ held .valid ++ held .invalid ++ held .programming) ∧
      FieldAt c (10 + n)
        (putFlag u.store.identityValid ++ putFlag (!u.store.identityValid) ++
          u.store.constants.serial) ∧
      FieldAt c (20 + n)
        (putFlag u.store.driftValid ++ putFlag u.store.driftReset ++
          putU16 u.store.scrubPointer ++ putU16 u.store.programFailures ++
          putU16 u.store.scrubFailures ++ putU16 u.store.saveFailures)) ∧
  QueryAnswers .queryThermalState 3 .thermalState (fun u c =>
    (∀ z < 16, ∀ t, u.thermal.temps[z]? = some t → ∀ m, u.thermal.meanLoad[z]? = some m →
      FieldAt c (4 * z) (putS16 t ++ putU16 m)) ∧
    (∀ z < 16, FieldAt c (64 + 3 * z) (putS16 (u.sensed z).1 ++ putU8 (u.sensed z).2.code)) ∧
    FieldAt c 112 (putU8 u.thermal.ticks) ∧
    (u.thermal.round = none → FieldAt c 113 [0, 0, 0]) ∧
    FieldAt c 116
      (putS32 u.settings.thermalInterval ++ putS32 u.settings.rho ++ putS32 u.settings.k ++
        putS32 u.settings.assumedAmbient)) ∧
  QueryAnswers .queryWearState 4 .wearState (fun u c =>
    u.wear.zones.length = 16 →
      (∀ (z : Nat) (w : Rgb Nat), u.wear.zones[z]? = some w → ∀ e,
        FieldAt c (18 * z + 6 * Emitter.index e) (putU48 (Rgb.get w e)) ∧
        FieldAt c (306 + 12 * z + 4 * Emitter.index e) (putU32 (Rgb.get w e / 921600000))) ∧
      ∀ e,
        FieldAt c (288 + 6 * Emitter.index e) (putU48 (Rgb.get u.wear.pilot e)) ∧
        FieldAt c (498 + 4 * Emitter.index e) (putU32 (Rgb.get u.wear.pilot e / 921600000)) ∧
        FieldAt c (510 + 5 * Emitter.index e)
          (putU32 (Rgb.get u.wear.kappa e) ++ putS8 (Rgb.get u.wear.trim e)) ∧
        FieldAt c 529 (putU16 u.wear.misses ++ putU16 u.wear.sequences) ∧
        FieldAt c (533 + 5 * Emitter.index e)
          (putU8 (Rgb.get u.wear.results e).code ++ putU32 (Rgb.get u.wear.ratios e))) ∧
  QueryAnswers .queryGainState 5 .gainState (fun u c =>
    (∀ (i : Nat) (z : ZoneGain), u.gain.zones[i]? = some z →
      FieldAt c (19 * i)
        (putU32 z.capacity ++ putU8 (Emitter.index z.limiting) ++ putFlag z.short ++
          putFlag z.capped ++ putU32 z.efficiency.r ++ putU32 z.efficiency.g ++
          putU32 z.efficiency.b)) ∧
    (u.gain.zones.length = 16 →
      FieldAt c 304
        (putU32 u.gain.tileCapacity ++ putU8 u.gain.weakest ++ putU8 u.gain.shortCount ++
          putU8 u.gain.cappedCount ++ putU32 u.gain.ceilingUsed ++
          putU32 u.authority.record.ceiling) ∧
      ∀ (i : Nat) (f : Rgb Nat), u.render.applied[i]? = some f →
        FieldAt c (319 + 12 * i) (putU32 f.r ++ putU32 f.g ++ putU32 f.b))) ∧
  QueryAnswers .queryComposerState 6 .composerState (fun u c =>
    FieldAt c 0
      (putU8 u.composer.levels.gain ++ putU8 u.composer.levels.thermal ++
        putU8 u.composer.levels.build ++ putU8 u.composer.levels.scrub) ∧
    FieldAt c 4
      (putFlag u.composer.gainPending ++ putFlag u.composer.thermalPending ++
        putFlag u.composer.scrubPending ++
        putFlag (!u.composer.buildSet.isEmpty && !u.composer.runs .build &&
          !u.composer.parked && !u.composer.stacked .build)) ∧
    (u.composer.running = none → FieldAt c 8 [0, 0, 0]) ∧
    (∀ r, u.composer.running = some r →
      FieldAt c 8 (1 :: (putU8 (JobKind.code r.work.kind) ++ putU8 r.level))) ∧
    FieldAt c 11 (putFlag u.composer.parked)) ∧
  QueryAnswers .querySensorState 7 .sensorState (fun u c =>
    (∀ q < 4, FieldAt c (6 * q)
      (putU8 (u.tempHealth q).code ++ putU8 (u.tempRecord q).misses ++
        (match (u.tempRecord q).reading with
         | none => [0, 0, 0]
         | some v => 1 :: putS16 v) ++ putFlag (decide (q ∈ u.settings.sensorMap)))) ∧
    FieldAt c 24 (putU8 u.sensors.light.health.code ++ putU8 u.sensors.light.misses) ∧
    ∀ (i : Nat) (k : SensorCounts), u.sensors.counts[i]? = some k →
      FieldAt c (35 + 6 * i) (putU16 k.good ++ putU16 k.bad ++ putU16 k.missed)) ∧
  QueryAnswers .queryAuthorityState 8 .authorityState (fun u c =>
    let holder : Option Link → Byte
      | none => 0
      | some .a => 1
      | some .b => 2
    FieldAt c 0
      [holder u.authority.holder, holder u.authority.pendingTake,
        (match u.authority.output with | .rendering => 0 | .holding => 1 | .blanked => 2)] ∧
    (∀ l, u.authority.holder = some l →
      FieldAt c 3 (putU32 (u.settings.holdTime - (u.link l).age))) ∧
    FieldAt c 7 (putU32 u.authority.holdingTime) ∧
    (∀ l, FieldAt c (match l with | .a => 11 | .b => 45)
      (putFlag (u.link l).fresh ++ putU32 (u.link l).age)) ∧
    FieldAt c 79
      (putU16 u.authority.record.generation ++ putMat u.authority.record.target ++
        putU32 u.authority.record.ceiling)) ∧
  QueryAnswers .queryLinkState 9 .linkState (fun u c =>
    ∀ l, FieldAt c (match l with | .a => 0 | .b => 52 + 2 * u.linkA.bulk.length)
      (putU8 (u.link l).state.code ++ putU8 (u.link l).credits ++
        putU8 (u.link l).prompts.length ++ putU8 (u.link l).bulk.length)) ∧
  QueryAnswers .queryConfiguration 10 .configuration (fun u c =>
    FieldAt c 0
      (putU8 u.chip.config.code ++ putU8 u.chip.power.code ++ putU8 u.chip.held.code) ∧
    (∃ mask : Nat, mask < 32 ∧ FieldAt c 3 (putU8 mask) ∧
      ∀ x : ResetCause, mask.testBit x.code = true ↔ x ∈ u.chip.causes) ∧
    FieldAt c 4
      (putU8 u.chip.straps.width.val ++ putU8 u.chip.straps.height.val ++
        putFlag u.chip.straps.serviceEnable ++ putU16 u.width ++ putU16 u.height ++
        putU16 u.blockCount ++ putU32 u.timebase.millis ++ putU16 u.chip.restWake) ∧
    FieldAt c (c.length - 8)
      (putU16 u.service.crcFailures ++ putU16 u.service.framingDiscards ++
        putU16 u.service.syncRejects ++ putU16 u.service.answerDrops)) ∧
  ([BlockState.blank, .valid, .invalid, .programming].map (·.code) = [0, 1, 2, 3] ∧
    [JobKind.gain, .thermal, .build, .scrub].map JobKind.code = [0, 1, 2, 3] ∧
    [Health.absent, .live, .suspect, .lost].map (·.code) = [0, 1, 2, 3] ∧
    [LinkState.down, .training, .creditPending, .ready].map (·.code) = [0, 1, 2, 3] ∧
    [SensedFrom.quadrant, .mean, .ambient].map (·.code) = [0, 1, 2] ∧
    [PilotResult.none, .applied, .missed, .bad, .skipped, .noPrediction].map (·.code) =
      [0, 1, 2, 3, 4, 5] ∧
    [ConfigState.opened, .closed].map (·.code) = [0, 1] ∧
    [PowerState.run, .dark, .restingEntry, .rest, .restSample].map (·.code) =
      [0, 1, 2, 3, 4] ∧
    [HeldCommand.none, .light, .dark].map (·.code) = [0, 1, 2] ∧
    [ResetCause.power, .pin, .linkA, .linkB, .service].map (·.code) = [0, 1, 2, 3, 4])

/-- R180 and the settings table: the settings that a SET only brings into range. -/
def Obligations.RangeSettingsAreSet : Prop :=
  RangeSetting .setK 6 1 255 true
    (fun x v => { v with k := x.toNat }) ∧
  RangeSetting .setRho 7 0 1023 true
    (fun x v => { v with rho := x.toNat }) ∧
  RangeSetting .setAssumedAmbient 11 (-640) 2000 false
    (fun x v => { v with assumedAmbient := x }) ∧
  RangeSetting .setPilotInterval 12 1 60 false
    (fun x v => { v with pilotInterval := x.toNat }) ∧
  RangeSetting .setScrubInterval 13 100 10000 false
    (fun x v => { v with scrubInterval := x.toNat }) ∧
  RangeSetting .setReportInterval 14 100 10000 false
    (fun x v => { v with reportInterval := x.toNat }) ∧
  RangeSetting .setDriftSaveInterval 15 1 60 false
    (fun x v => { v with driftSaveInterval := x.toNat }) ∧
  RangeSetting .setRestWakeInterval 16 1 255 false
    (fun x v => { v with restWakeInterval := x.toNat })

/-- R70, R102, R129: the thermal interval, f_cap with the factors it lowers, the sensor map with
the records it empties; all three locked while CLOSED. -/
def Obligations.OwnersTakeTheirSettings : Prop :=
  ∀ (v : Via U32) (w : U32) (s : State),
    (Asks v kindSet (setBody 5 0) w s →
      if s.chip.config = .closed then
        RefusedBy (.setThermalInterval v) v kindSet .refusedLocked s
      else Leads (.setThermalInterval v) s fun t =>
        t.settings.thermalInterval =
          (if 1000 ≤ w.toInt then 1000 else if 500 ≤ w.toInt then 500
          else if 250 ≤ w.toInt then 250 else 125) ∧
        t.settings = { s.settings with thermalInterval := t.settings.thermalInterval } ∧
        Answered v kindSet
          (if w.toInt ∈ [125, 250, 500, 1000] then .done else .clamped) s t ∧
        KeepsBut [.settings, answerPart v] s t) ∧
    (Asks v kindSet (setBody 8 0) w s →
      if s.chip.config = .closed then RefusedBy (.setFCap v) v kindSet .refusedLocked s
      else Leads (.setFCap v) s fun t =>
        (t.settings.fCap : Int) =
          (if w.toInt < 65536 then 65536 else if 131072 < w.toInt then 131072 else w.toInt) ∧
        t.settings = { s.settings with fCap := t.settings.fCap } ∧
        t.render =
          { s.render with
            applied := s.render.applied.map (Rgb.map fun f => min t.settings.fCap f)
            pendingGain :=
              s.render.pendingGain.map (List.map (Rgb.map fun f => min t.settings.fCap f)) } ∧
        Answered v kindSet
          (if 65536 ≤ w.toInt ∧ w.toInt ≤ 131072 then .done else .clamped) s t ∧
        KeepsBut [.settings, .render, answerPart v] s t) ∧
    (Asks v kindSet (setBody 9 0) w s →
      if s.chip.config = .closed then RefusedBy (.setSensorMap v) v kindSet .refusedLocked s
      else if w.toInt < 0 ∨ 15 < w.toInt then
        RefusedBy (.setSensorMap v) v kindSet .refusedBad s
      else Leads (.setSensorMap v) s fun t =>
        (∀ q, q ∈ t.settings.sensorMap ↔ q < 4 ∧ w.getLsbD q = true) ∧
        t.settings = { s.settings with sensorMap := t.settings.sensorMap } ∧
        (∀ q < 4, t.tempRecord q =
          if (q ∈ t.settings.sensorMap ↔ q ∈ s.settings.sensorMap) then s.tempRecord q
          else ⟨0, none⟩) ∧
        t.sensors = { s.sensors with temps := t.sensors.temps } ∧
        Answered v kindSet .done s t ∧ KeepsBut [.settings, .sensors, answerPart v] s t)

/-- R150, R133, R137, R138, R147: the hold time and blank-after, which act at once on the ages and
on the time in HOLDING as they stand, with what follows in the step. That they do so in REST too,
where R133, R137 and R184 let no expiry by time occur, is the model's inference (log 13). -/
def Obligations.HoldTimeAndBlankAfter : Prop :=
  ∀ (v : Via U32) (w : U32) (s : State),
    let near (lo hi x : Int) : Int := if x < lo then lo else if hi < x then hi else x
    (Asks v kindSet (setBody 3 0) w s →
      let n := near 20 1000 w.toInt
      let r : Result := if 20 ≤ w.toInt ∧ w.toInt ≤ 1000 then .done else .clamped
      let gone (p : LinkPort) : Bool := p.fresh && decide (n ≤ p.age)
      let aged (p : LinkPort) : LinkPort := { p with fresh := p.fresh && !gone p }
      let pending : Option Link := match s.authority.pendingTake with
        | some l => if gone (s.link l) then none else some l
        | none => none
      let acted (u : State) : Prop :=
        u.settings = { s.settings with holdTime := u.settings.holdTime } ∧
        (u.settings.holdTime : Int) = n ∧ ∀ l, u.link l = aged (s.link l)
      let answered (m t : State) : Prop :=
        AnsweredWith v kindSet false r [] aged s t ∧ KeepsBut [answerPart v] m t
      ((∀ l, s.authority.holder = some l → gone (s.link l) = false) →
        Leads (.setHoldTime v) s fun t => ∃ m,
          QuietFrom s (fun u =>
            acted u ∧ u.authority = { s.authority with pendingTake := pending } ∧
            KeepsBut [.settings, .linkA, .linkB, .authority] s u) m ∧
          answered m t) ∧
      (∀ l, s.authority.holder = some l → gone (s.link l) = true →
        ((s.link l.other).usable = false ∨ gone (s.link l.other) = true →
          LeadsReporting (.setHoldTime v) s
            (if s.authority.output = .rendering then [.output] else []) fun d => ∃ m,
            Settled (fun u =>
              acted u ∧
              u.authority =
                (if s.authority.output = .rendering then
                  { s.authority with
                    pendingTake := pending, output := .holding, holdingTime := 0
                    holdings := min 65535 (s.authority.holdings + 1) }
                else { s.authority with pendingTake := pending }) ∧
              KeepsBut [.settings, .linkA, .linkB, .authority] s u) m ∧
            answered m d ∧
            (Steady s → Busy s →
              d.render = renderInForce s ∧ d.composer = composerInForce s ∧
              KeepsBut [.settings, .linkA, .linkB, .authority, .render, .composer,
                answerPart v] s d)) ∧
        ((s.link l.other).usable = true → gone (s.link l.other) = false →
          LeadsReporting (.setHoldTime v) s [.authority] fun d => ∃ m,
            SettledFrom s (fun u =>
              acted u ∧
              u.authority =
                { s.authority with
                  holder := some l.other, pendingTake := none
                  changes := min 65535 (s.authority.changes + 1)
                  record := (s.link l.other).stored.getD s.authority.record } ∧
              u.composer =
                composerWithRecord s.authority.record
                  ((s.link l.other).stored.getD s.authority.record) s.composer ∧
              KeepsBut [.settings, .linkA, .linkB, .authority, .composer] s u) m ∧
            answered m d))) ∧
    (Asks v kindSet (setBody 4 0) w s →
      let n := if w.toInt = 0 then 0 else near 1 600 w.toInt
      let r : Result :=
        if w.toInt = 0 ∨ 1 ≤ w.toInt ∧ w.toInt ≤ 600 then .done else .clamped
      let acted (u : State) : Prop :=
        u.settings = { s.settings with blankAfter := u.settings.blankAfter } ∧
        (u.settings.blankAfter : Int) = n
      (w.toInt = 0 → s.chip.config = .closed →
        RefusedBy (.setBlankAfter v) v kindSet .refusedLocked s) ∧
      (¬(w.toInt = 0 ∧ s.chip.config = .closed) →
        (s.authority.output = .holding ∧ n ≠ 0 ∧ n * 1000 ≤ s.authority.holdingTime →
          LeadsReporting (.setBlankAfter v) s [.output] fun d =>
            AnsweredAfter (Settled fun u =>
              acted u ∧ u.authority = { s.authority with output := .blanked, holdingTime := 0 } ∧
              KeepsBut [.settings, .authority] s u) v kindSet r s d ∧
            (Steady s → BanksFollow s d ∧
              KeepsBut [.settings, .authority, .driver, answerPart v] s d)) ∧
        (¬(s.authority.output = .holding ∧ n ≠ 0 ∧ n * 1000 ≤ s.authority.holdingTime) →
          Leads (.setBlankAfter v) s (AnsweredAfter (QuietFrom s fun u =>
            acted u ∧ KeepsBut [.settings] s u) v kindSet r s))))

/-- R111, R114: a SET of a job level, with the decision of a free composer. -/
def Obligations.JobLevelIsWritten : Prop :=
  ∀ (v : Via (JobKind × U32)) (k : JobKind) (w : U32) (s : State),
    Asks v kindSet (fun p => setBody 1 (BitVec.ofNat 8 (JobKind.code p.1)) p.2) (k, w) s →
    if w.toInt < 0 ∨ 3 < w.toInt then RefusedBy (.setJobLevel v) v kindSet .refusedBad s
    else if w.toInt = 3 ∧ (k = .gain ∨ k = .thermal) then
      RefusedBy (.setJobLevel v) v kindSet .kept s
    else
      Leads (.setJobLevel v) s (AnsweredAfter (WorkedFrom s fun u =>
        (u.composer.levels.of k : Int) = w.toInt ∧
        (∀ j, j ≠ k → u.composer.levels.of j = s.composer.levels.of j) ∧
        u.composer = { s.composer with levels := u.composer.levels } ∧
        KeepsBut [.composer] s u) v kindSet .done s)

/-- R56 and R17, R180: the phase table and the dark policies, locked while CLOSED. -/
def Obligations.TablesLockedAtClose : Prop :=
  (∀ (v : Via (List Requester)) (p : List Requester) (s : State), p.length = 16 →
    Asks v kindSet (fun p => 2 :: 0 :: p.map fun r => BitVec.ofNat 8 (Requester.code r)) p s →
    if s.chip.config = .closed then RefusedBy (.setPhaseTable v) v kindSet .refusedLocked s
    else if ∀ r ∈ [Requester.linkA, .linkB, .service, .composer, .driftSave], r ∈ p then
      Leads (.setPhaseTable v) s fun t =>
      t.store = { s.store with phaseTable := p, phasePointer := 0 } ∧
      Answered v kindSet .done s t ∧ KeepsBut [.store, answerPart v] s t
    else RefusedBy (.setPhaseTable v) v kindSet .refusedBad s) ∧
  ∀ (v : Via (Fin 16 × U32)) (b : Fin 16) (w : U32) (s : State),
    Asks v kindSet (fun p => setBody 10 (BitVec.ofNat 8 p.1.val) p.2) (b, w) s →
    if s.chip.config = .closed then RefusedBy (.setDarkPolicy v) v kindSet .refusedLocked s
    else if w.toInt ≠ 0 ∧ w.toInt ≠ 1 then
      RefusedBy (.setDarkPolicy v) v kindSet .refusedBad s
    else Leads (.setDarkPolicy v) s fun t =>
      (∀ k, s.driver.banks[b.val]? = some k → t.driver.banks[b.val]? = some
        (bankAfter s.chip.power
          { k with policy := if w.toInt = 0 then .park else .float })) ∧
      (settleBanks s = s →
        (∀ j, j ≠ b.val → t.driver.banks[j]? = s.driver.banks[j]?) ∧
        t.driver = { s.driver with banks := t.driver.banks }) ∧
      Answered v kindSet .done s t ∧ KeepsBut [.driver, answerPart v] s t

/-- R179: CLOSE while OPEN closes the configuration and empties the reset cause set; while CLOSED
it changes nothing. -/
def Obligations.CloseTakesConfiguration : Prop :=
  ∀ (v : Via Unit) (s : State), Asks v kindClose noBody () s →
    (s.chip.config = .closed → Leads (.close v) s fun t =>
      Answered v kindClose .done s t ∧ KeepsBut [answerPart v] s t) ∧
    (s.chip.config = .opened → Leads (.close v) s fun t =>
      AnsweredAfter (QuietFrom s fun u =>
        u.chip = { s.chip with config := .closed, causes := [] } ∧ KeepsBut [.chip] s u)
        v kindClose .done s t ∧
      t.driverEnable = true ∧
      (settleBanks s = s → ∀ y x, (s.bank (bankOf y)).mode = .render →
        t.laneCode x y = ⟨0, 0, 0⟩))

/-- R157, R172: a RESET is answered DONE; the reset itself waits for the answer to leave. -/
def Obligations.ResetIsAnsweredFirst : Prop :=
  ∀ (v : Via Unit) (s : State), Asks v kindReset noBody () s →
    Leads (.reset v) s fun t =>
      AnsweredWith v kindReset true .done [] id s t ∧ KeepsBut [answerPart v] s t

/-! ## The service line -/

/-- R85, R86, R45, R54, R114: TRIM and WEAR_CLEAR, each with a drift save that waits or is granted,
and the decision that is due. -/
def Obligations.TrimAndWearClear : Prop :=
  ∀ (tag : Byte) (s : State), s.started = true →
    s.service.line = .locked → s.service.sends.length < 8 →
    let answered (kind : Byte) (r : Result) (m : State) : State :=
      m.setService { s.service with sends := s.service.sends ++ [⟨tag, kind, r, [], false⟩] }
    let saved : Store :=
      { s.store with
        waiting :=
          { s.store.waiting with driftSave := some (s.store.waiting.driftSave.getD false) } }
    (∀ codes : Rgb Byte, Leads (.trim tag codes) s fun t =>
      (∃ m, WorkFollows
        (((s.setWear { s.wear with trim := Rgb.map BitVec.toInt codes }).setComposer
          { s.composer with
            gainPending :=
              s.composer.gainPending ||
                decide (Rgb.map BitVec.toInt codes ≠ s.wear.trim) }).setStore saved) m ∧
        t = answered kindTrim .done m) ∧
      (Steady s → Busy s ∨ Rgb.map BitVec.toInt codes = s.wear.trim →
        t.wear = { s.wear with trim := Rgb.map BitVec.toInt codes } ∧
        (s.store.port ≠ .free → t.store = saved) ∧
        (OpenTo .driftSave s → SaveGranted false s t) ∧
        KeepsBut [.wear, .composer, .store, .service] s t)) ∧
    (∀ zone : Byte, zone.toNat ≤ 15 → Leads (.wearClear tag zone) s fun t =>
      (∃ m, WorkFollows
        (((s.setWear
          { s.wear with
            zones := s.wear.zones.modify zone.toNat fun _ => ⟨0, 0, 0⟩
            clearMarks := s.wear.clearMarks.modify zone.toNat fun _ => .set }).setComposer
          { s.composer with gainPending := true }).setStore saved) m ∧
        t = answered kindWearClear .done m) ∧
      t.wear.zones = (s.wear.zones.modify zone.toNat fun _ => ⟨0, 0, 0⟩) ∧
      (Steady s → Busy s →
        (s.store.port ≠ .free → t.store = saved) ∧
        (OpenTo .driftSave s → SaveGranted false s t) ∧
        KeepsBut [.wear, .composer, .store, .service] s t)) ∧
    (∀ zone : Byte, 15 < zone.toNat → Leads (.wearClear tag zone) s fun t =>
      t = answered kindWearClear .refusedBad s)

/-- R171, R16 to R18: BANK and LATCH. Each entry of a BANK acts in list order: a WAITING bank that
becomes DIRECT is ACTIVE, and the mode acts on priming by R17. -/
def Obligations.BankAndLatch : Prop :=
  ∀ (tag : Byte) (s : State),
    s.started = true → s.service.line = .locked → s.service.sends.length < 8 →
    let answered (kind : Byte) (r : Result) (t : State) : Prop :=
      t.service = { s.service with sends := s.service.sends ++ [⟨tag, kind, r, [], false⟩] }
    (∀ es : List (Byte × Byte), 1 ≤ es.length → es.length ≤ 16 →
      (∀ e ∈ es, e.1.toNat ≤ 15 ∧ e.2.toNat ≤ 1) →
      let entries (b : Nat) : List (Byte × Byte) := es.filter fun e => e.1.toNat == b
      let takes (k : Bank) (e : Byte × Byte) : Bank :=
        bankAfter s.chip.power
          { k with
            mode := if e.2 = 0 then .render else .direct
            priming :=
              if e.2 ≠ 0 ∧ k.priming = .waiting then .active else k.priming }
      Leads (.bank tag es) s fun t =>
        (∀ (b : Nat) (k : Bank), s.driver.banks[b]? = some k →
          ∃ k', t.driver.banks[b]? = some k' ∧ k'.latch = k.latch ∧ k'.policy = k.policy ∧
            k'.mode =
              (match (entries b).reverse with
               | e :: _ => if e.2 = 0 then .render else .direct
               | [] => k.mode)) ∧
        (settleBanks s = s →
          (∀ (b : Nat) (k : Bank), s.driver.banks[b]? = some k →
            t.driver.banks[b]? = some ((entries b).foldl takes k)) ∧
          (∀ y, Table.get [] t.driver.rows y =
            if ∀ e ∈ entries (y / 8), e.2 = 0 then Table.get [] s.driver.rows y else []) ∧
          t.driver =
            { s.driver with banks := t.driver.banks, rows := t.driver.rows }) ∧
        answered kindBank .done t ∧ KeepsBut [.driver, .service] s t) ∧
    (∀ es : List (Byte × Byte),
      (es = [] ∨ 16 < es.length ∨ ∃ e ∈ es, 15 < e.1.toNat ∨ 1 < e.2.toNat) →
      Leads (.bank tag es) s fun t =>
        answered kindBank .refusedBad t ∧ KeepsBut [.service] s t) ∧
    (∀ (b : Byte) (v : Rgb U16), b.toNat ≤ 15 → Leads (.latch tag b v) s fun t =>
      (∀ k, s.driver.banks[b.toNat]? = some k →
        t.driver.banks[b.toNat]? = some { k with latch := Rgb.map BitVec.toNat v }) ∧
      (∀ j, j ≠ b.toNat → t.driver.banks[j]? = s.driver.banks[j]?) ∧
      t.driver = { s.driver with banks := t.driver.banks } ∧
      answered kindLatch .done t ∧ KeepsBut [.driver, .service] s t) ∧
    (∀ (b : Byte) (v : Rgb U16), 15 < b.toNat → Leads (.latch tag b v) s fun t =>
      answered kindLatch .refusedBad t ∧ KeepsBut [.service] s t)

/-- R170, R43, R47, R54: BLOCK and IDENTITY frames share one program path: placed, with the
arbiter's scan (granted at once at a free port where nothing else waits), held, or refused. -/
def Obligations.ToolPrograms : Prop :=
  ∀ (tag : Byte) (s : State), s.started = true →
    s.service.line = .locked → s.service.sends.length < 8 →
    let answered (row : Instr) (kind : Byte) (r : Result) : Prop :=
      Leads row s fun t =>
        t.service = { s.service with sends := s.service.sends ++ [⟨tag, kind, r, [], false⟩] } ∧
        KeepsBut [.service] s t
    let offered (row : Instr) (kind : Byte) (p : ServiceProgram) : Prop :=
      match s.service.outstanding, s.service.hold with
      | none, _ => Leads row s fun t =>
        let placed : State :=
          (s.setService { s.service with outstanding := some ⟨tag, kind, false⟩ }).setStore
            { s.store with waiting := { s.store.waiting with service := some p } }
        Scanned placed t ∧
        (s.store.port ≠ .free → t = placed) ∧
        (OpenTo .service s → s.store.blockStates.length = 256 → ServiceGranted p s t) ∧
        t.service = { s.service with outstanding := some ⟨tag, kind, false⟩ } ∧
        KeepsBut [.store, .service] s t
      | some _, none => Leads row s fun t =>
        t.service = { s.service with hold := some ⟨tag, p⟩ } ∧ KeepsBut [.service] s t
      | some _, some _ => answered row kind .refusedState
    (∀ body : List Byte,
      let p : BlockProgram := ⟨getU16 0 body, slice 2 1152 body, getCrc 1154 body⟩
      if body.length = 1156 ∧ p.block < s.blockCount ∧ crc16 p.records = p.crc then
        offered (.block (.tool tag body)) kindBlock (.block p)
      else answered (.block (.tool tag body)) kindBlock .refusedBad) ∧
    (∀ fields : List Byte,
      if fields.length ≠ 184 then answered (.identity tag fields) kindIdentity .refusedBad
      else if s.chip.config = .closed then
        answered (.identity tag fields) kindIdentity .refusedLocked
      else if identityInRange fields = true then
        offered (.identity tag fields) kindIdentity (.identity fields)
      else answered (.identity tag fields) kindIdentity .refusedBad)

/-- R166, R167, R181, R186: the sync, in every power state, and the two returns to AWAIT_SYNC. The
model's choices: the bytes sent are kept in `wire` (log 21), and a RESET whose answer is dropped is
due (log 17). -/
def Obligations.ServiceLineRate : Prop :=
  (∀ (low : Nat) (s : State), s.live = true → s.chip.straps.serviceEnable = true →
    s.service.line = .awaitSync →
    (¬(16 ≤ low / 9 ∧ low / 9 ≤ 1667) → Leads (.sync low) s fun t =>
      t.service = { s.service with syncRejects := min 65535 (s.service.syncRejects + 1) } ∧
      KeepsBut [.service] s t) ∧
    (16 ≤ low / 9 → low / 9 ≤ 1667 →
      let locked : ServiceLine :=
        { s.service with
          line := .locked, bitTime := some (low / 9), receiving := none, idle := 0
          wire := s.service.wire ++ [0x6C] }
      ((s.chip.power = .run ∨ s.chip.power = .dark) → Leads (.sync low) s
        (QuietFrom s fun u => u = s.setService locked)) ∧
      ((s.chip.power = .restingEntry ∨ s.chip.power = .restSample) →
        Leads (.sync low) s (QuietFrom s fun u =>
          u.service = locked ∧
          u.chip =
            { s.chip with held := if s.chip.held = .none then .dark else s.chip.held } ∧
          KeepsBut [.service, .chip] s u)) ∧
      (s.chip.power = .rest → LeadsReporting (.sync low) s [.power]
        (LeavesRest .dark (s.setService locked))))) ∧
  ∀ s : State, s.live = true → s.service.line = .locked →
    let returned (n : Nat) (t : State) : Prop :=
      t.service =
        { s.service with
          line := .awaitSync, bitTime := none, receiving := none, sends := [], hold := none
          idle := n
          outstanding := s.service.outstanding.map (fun o => { o with dropped := true })
          answerDrops := min 65535 (s.service.answerDrops + s.service.sends.length +
            (if s.service.hold = none then 0 else 1)) } ∧
      (∀ w, w ∈ t.chip.resetDue ↔ w ∈ s.chip.resetDue ∨
        (w = .service ∧ ∃ a ∈ s.service.sends, a.isReset = true)) ∧
      t.chip = { s.chip with resetDue := t.chip.resetDue } ∧
      KeepsBut [.service, .chip] s t
    Leads .idle s (returned 5000) ∧
      ∀ low bit, s.service.bitTime = some bit → 20 * bit < low →
        Leads (.serviceBreak low) s (returned s.service.idle)

/-- R168, R169: a frame without damage, received whole by a waiting line, is handled by its kind
and tag: one of a tool's commands as that command is, one of a kind that the tool may not send as
REFUSED_BAD; with 8 answers queued it is dropped, and before the end of start-up refused. A wrong
CRC, a wrong length, a low stop bit or a gap discards it. -/
def Obligations.ServiceFrames : Prop :=
  ∀ s : State, s.live = true → s.service.line = .locked →
    let byte (b : Byte) : LineByte := ⟨b, true⟩
    let idle : State := s.setService { s.service with idle := 0 }
    (∀ (kind tag : Byte) (payload : List Byte), s.service.receiving = none →
      payload.length ≤ 1278 →
      let covered := putU16 (payload.length + 2) ++ kind :: tag :: payload
      let frame (crc : U16) := (0x7E :: (covered ++ putU16 crc.toNat)).map byte
      exec (.serviceFrame (frame (crc16 covered))) s =
        .next (conclude [] idle (handleFrame tag kind (parseTool kind payload) idle)) ∧
      (∀ c : Instr, toolFrame c = some (kind, tag, payload) → c.wellFormed = true →
        exec (.serviceFrame (frame (crc16 covered))) s = exec c idle) ∧
      (8 ≤ s.service.sends.length → exec (.serviceFrame (frame (crc16 covered))) s =
        .next (idle.setService
          { idle.service with answerDrops := min 65535 (s.service.answerDrops + 1) })) ∧
      (s.service.sends.length < 8 → s.started = false ∨ kind ∉ toolKinds →
        exec (.serviceFrame (frame (crc16 covered))) s = .next (idle.setService
          { idle.service with
            sends := s.service.sends ++
              [⟨tag, kind, if s.started = true then .refusedBad else .refusedState, [],
                false⟩] })) ∧
      ∀ crc, crc ≠ crc16 covered →
        exec (.serviceFrame (frame crc)) s = .next (idle.setService
          { idle.service with crcFailures := min 65535 (s.service.crcFailures + 1) })) ∧
    (∀ n : Nat, s.service.receiving = none → n ≤ 65535 →
      (n < 2 ∨ 1280 < n) →
      exec (.serviceFrame ((0x7E :: putU16 n).map byte)) s = .next (idle.setService
        { idle.service with framingDiscards := min 65535 (s.service.framingDiscards + 1) })) ∧
    (∀ (buf : List Byte) (b : Byte), s.service.receiving = some buf →
      exec (.serviceFrame [⟨b, false⟩]) s = .next (idle.setService
        { idle.service with
          receiving := none
          framingDiscards := min 65535 (s.service.framingDiscards + 1) }) ∧
      exec .serviceFrameTimeout s = .next (s.setService
        { s.service with
          receiving := none
          framingDiscards := min 65535 (s.service.framingDiscards + 1) }))

/-! ## Completions inside the part -/

/-- R124 to R128, R61, R62, R68, R69, R114, R147, R178, R185, R186: the end of a temperature
transaction: the health record, the next transaction, the open round, and what the end of a round
does: the end of start-up with the composer's first decision, the return to REST, or with a held
command the leaving of the rest, each with its report. And R127, R59: a sensor's health by its
record, and the sensor temperature assigned to a zone: its quadrant's, else the mean of the usable
ones rounded down, else the assumed ambient. -/
def Obligations.TemperatureCompletions : Prop :=
  (∀ (row : Instr) (tr : Transaction) (c : Completion) (q : Nat) (s : State), s.live = true →
    EndsWith row tr c s → tr.request = .temp q → tr.requesters = [.thermal] →
    let measured : Sensors :=
      { s.sensors with
        inFlight := none
        temps := s.sensors.temps.modify q fun k =>
          ⟨missCount c k.misses,
            match c with | .good v => some v | .bad | .missed => k.reading⟩
        counts := s.sensors.counts.modify q (countsAfter c) }
    (∀ (e : QueuedRequest) (rest : List QueuedRequest) (r : Round),
      s.sensors.queue = e :: rest → (∀ p, e.request = .temp p → p ∈ s.settings.sensorMap) →
      s.thermal.round = some r → q ∈ r.owed → r.owed.filter (· ≠ q) ≠ [] →
      Leads row s (QuietFrom s fun u =>
        u.sensors =
          { measured with
            queue := rest, inFlight := some ⟨e.request, e.requesters, s.sensors.tag, 5⟩
            tag := (s.sensors.tag + 1) % 16 } ∧
        u.thermal = { s.thermal with round := some { r with owed := r.owed.filter (· ≠ q) } } ∧
        KeepsBut [.sensors, .thermal] s u)) ∧
    (s.sensors.queue = [] → s.thermal.round = none →
      Leads row s (QuietFrom s fun u => u = s.setSensors measured)) ∧
    (∀ r, s.sensors.queue = [] → s.thermal.round = some r → q ∈ r.owed →
      r.owed.filter (· ≠ q) = [] →
      let pending := s.composer.thermalPending || (r.thermal && !s.composer.runs .thermal)
      let ended (u : State) : Prop :=
        u.sensors = measured ∧ u.composer = { s.composer with thermalPending := pending }
      let sensed (u : State) : List Int := (List.range 16).map fun z => (u.sensed z).1
      (r.start = false → r.sample = false → Leads row s (SettledFrom s fun u =>
        ended u ∧ u.thermal = { s.thermal with round := none } ∧
        KeepsBut [.sensors, .thermal, .composer] s u)) ∧
      (r.start = true → r.sample = false → s.chip.phase = .polling → s.chip.power = .run →
        LeadsReporting row s [.power] (Settled fun u =>
          ended u ∧ u.chip = { s.chip with phase := .running, coldStart := false } ∧
          u.thermal =
            { s.thermal with
              round := none
              temps := if s.chip.coldStart = true then sensed u else s.thermal.temps } ∧
          KeepsBut [.sensors, .thermal, .chip, .composer] s u)) ∧
      (r.start = false → r.sample = true → s.chip.power = .restSample → s.started = true →
        let after (u : State) : Prop :=
          ended u ∧
          u.thermal =
            { s.thermal with
              round := none, ticks := 0, temps := sensed u
              sampleAfterTake := s.thermal.sampleAfterTake || s.composer.runs .thermal } ∧
          u.driver = { s.driver with pilotDrive := ⟨0, 0, 0⟩ }
        (s.chip.held = .none → LeadsReporting row s [.power] (QuietFrom s fun u =>
          after u ∧
          u.chip = { s.chip with power := .rest, restWake := s.settings.restWakeInterval } ∧
          KeepsBut [.sensors, .thermal, .chip, .composer, .driver] s u)) ∧
        ∀ p, (s.chip.held = .light ∧ p = .run ∨ s.chip.held = .dark ∧ p = .dark) →
          LeadsReporting row s [.power] fun d =>
            ∃ w, after w ∧ KeepsBut [.sensors, .thermal, .composer, .driver] s w ∧
              LeavesRest p w d))) ∧
  (∀ (q : Nat) (s : State),
    let misses := (s.tempRecord q).misses
    s.tempHealth q =
      if q ∉ s.settings.sensorMap then .absent
      else if (s.tempRecord q).reading = none ∨ 3 ≤ misses then .lost
      else if misses = 0 then .live else .suspect) ∧
  ∀ z < 16, ∀ s : State,
    let own := 2 * (z / 8) + z % 4 / 2
    let usable (q : Nat) : Bool :=
      decide (s.tempHealth q = .live) || decide (s.tempHealth q = .suspect)
    let held := [0, 1, 2, 3].filterMap fun q =>
      if usable q then (s.tempRecord q).reading else none
    (usable own = true → ∃ t, (s.tempRecord own).reading = some t ∧
      s.sensed z = (t, .quadrant)) ∧
    (usable own = false → held ≠ [] → ∃ mean : Int, s.sensed z = (mean, .mean) ∧
      mean * held.length ≤ held.sum ∧ held.sum < (mean + 1) * held.length) ∧
    (usable own = false → held = [] → s.sensed z = (s.settings.assumedAmbient, .ambient))

/-- R78 to R83, R126, R127: the end of a light transaction: the measurement with its κ, the next
emitter or the sequence's end, GAIN if a κ changed in the sequence, with the decision that is then
due; and the responses that end none. The observed efficiency of an emitter whose reference has
become 0 is a free value, the model's choice of form (log 31): the statement holds for every value
of it. -/
def Obligations.LightCompletionsAndStrays : Prop :=
  (∀ (row : Instr) (tr : Transaction) (c : Completion) (e : Emitter) (s : State),
    s.live = true → EndsWith row tr c s → tr.request = .light e → tr.requesters = [.wear] →
    let measured : Sensors :=
      { s.sensors with
        inFlight := none
        light :=
          { misses := missCount c s.sensors.light.misses
            readings :=
              (match c with
               | .good v => Rgb.set s.sensors.light.readings e (some v.toNat)
               | .bad | .missed => s.sensors.light.readings) }
        counts := s.sensors.counts.modify 4 (countsAfter c) }
    -- R123: the next entry, of a sensor that is there, starts
    let next (u : State) : Prop :=
      match s.sensors.queue with
      | [] => u.sensors = measured
      | q :: rest => u.sensors =
          { measured with
            queue := rest, inFlight := some ⟨q.request, q.requesters, s.sensors.tag, 5⟩
            tag := (s.sensors.tag + 1) % 16 }
    (∀ q ∈ s.sensors.queue, ∀ p, q.request = .temp p → p ∈ s.settings.sensorMap) →
    (s.wear.staleRead = some e → Leads row s (QuietFrom s fun u =>
      u.wear = { s.wear with staleRead := none } ∧ next u ∧ KeepsBut [.sensors, .wear] s u)) ∧
    (s.wear.staleRead ≠ some e → s.wear.state ≠ .read e →
      Leads row s (QuietFrom s fun u => next u ∧ KeepsBut [.sensors] s u)) ∧
    (s.wear.staleRead ≠ some e → s.wear.state = .read e →
      let c' := s.store.constants
      let ref (f : Emitter) : Nat := Rgb.get c'.ref f
      -- R80: the prediction, at the pilot temperature
      let pred :=
        tempEfficiency (Rgb.get c'.beta e) c'.tRef (s.sensed 0).1 *
          wearEfficiency (Rgb.get c'.tables e) (Rgb.get s.wear.pilot e / 921600000) / 65536
      let old : Int := ((Rgb.get s.wear.kappa e : Nat) : Int)
      -- R80: the reading against its reference; a free value where that has become 0 (log 31)
      let obs (v : Int) : Nat :=
        if ref e = 0 then Config.observedWithoutReference (Emitter.index e) v.toNat
        else v.toNat * 65536 / ref e
      let ratio (v : Int) : Nat := min 4294967295 (obs v * 65536 / pred)
      let moved (v : Int) : Int := old + ((ratio v : Int) - old) / 8
      let kappa (v : Int) : Int :=
        if moved v < 49152 then 49152 else if 81920 < moved v then 81920 else moved v
      -- R78, R82: the emitters after e, those skipped, the one measured next
      let later : List Emitter := match e with | .r => [.g, .b] | .g => [.b] | .b => []
      let skipped := later.takeWhile fun f => decide (ref f = 0)
      Leads row s (SettledFrom s fun u =>
        let missed (r : PilotResult) : Prop :=
          Rgb.get u.wear.results e = r ∧ u.wear.kappa = s.wear.kappa ∧
          u.wear.ratios = s.wear.ratios ∧ u.wear.misses = min 65535 (s.wear.misses + 1) ∧
          u.wear.changed = s.wear.changed
        (match c with
         | .good v =>
           if pred = 0 then missed .noPrediction
           else
             Rgb.get u.wear.results e = .applied ∧ u.wear.misses = s.wear.misses ∧
             u.wear.ratios = Rgb.set s.wear.ratios e (ratio v) ∧
             ((Rgb.get u.wear.kappa e : Nat) : Int) = kappa v ∧
             (∀ f, f ≠ e → Rgb.get u.wear.kappa f = Rgb.get s.wear.kappa f) ∧
             u.wear.changed = (s.wear.changed || decide (kappa v ≠ old))
         | .bad => missed .bad
         | .missed => missed .missed) ∧
        (∀ f ∈ skipped, Rgb.get u.wear.results f = .skipped) ∧
        (∀ f, f ≠ e → f ∉ skipped → Rgb.get u.wear.results f = Rgb.get s.wear.results f) ∧
        (match later.find? fun f => decide (ref f ≠ 0) with
         | some f =>
           u.wear.state = .settle f ∧ u.wear.settleTimer = 20 ∧
           u.wear.sequences = s.wear.sequences ∧ u.composer = s.composer ∧
           u.driver = { s.driver with pilotDrive := Rgb.set ⟨0, 0, 0⟩ f 32768 }
         | none =>
           u.wear.state = .idle ∧ u.wear.settleTimer = 0 ∧
           u.wear.sequences = (s.wear.sequences + 1) % 65536 ∧ u.driver = s.driver ∧
           u.composer =
             { s.composer with
               gainPending := s.composer.gainPending || u.wear.changed }) ∧
        u.wear =
          { s.wear with
            results := u.wear.results, kappa := u.wear.kappa, ratios := u.wear.ratios
            misses := u.wear.misses, changed := u.wear.changed, state := u.wear.state
            settleTimer := u.wear.settleTimer, sequences := u.wear.sequences } ∧
        next u ∧ KeepsBut [.sensors, .wear, .composer, .driver] s u))) ∧
  ∀ (f : SensorFrame) (s : State), s.live = true →
    (f.checkOk = false → Leads (.sensorResponse f) s (QuietFrom s fun u =>
      u = s.setSensors
        { s.sensors with checkFailures := min 65535 (s.sensors.checkFailures + 1) })) ∧
    (f.checkOk = true → (∀ tr, s.sensors.inFlight = some tr → f.tag.toNat ≠ tr.tag) →
      Leads (.sensorResponse f) s (QuietFrom s fun u =>
        u = s.setSensors { s.sensors with late := min 65535 (s.sensors.late + 1) }))

/-- R30 to R35, R50, R51, R10 to R13, R24, R113 to R118, R54: the end of a block read, for BUILD,
for SCRUB, and while the composer is stopped; the park, and what moves into force at once where the
engine is not rendering; the decision that follows, and the arbiter's scan among all that wait. That
the data the job takes after a stop are those the read gave is the model's inference (log 20), and
so is it that a VALID block which reads wholly erased becomes INVALID (log 27); that such data make
a block INVALID which a program has rewritten since is its choice (log 33). -/
def Obligations.BlockReadsReachTheirJob : Prop :=
  ∀ (i : Nat) (cells : Option Stored) (s : State),
    s.store.port = .granted (.read i) →
    let content := cells.getD (s.slot i)
    let read : BlockRead := ⟨i, s.blockState i, content⟩
    let freed : State :=
      s.setStore
        { s.store with port := .free, slots := Table.put erasedBlock s.store.slots i content }
    TableLaw s →
    (s.composerStopped = true → Leads (.blockReadDone cells) s fun t =>
      Settled (fun u =>
        u = freed.setComposer { s.composer with deferred := some read }) t ∧
      t.composer.deferred = some read ∧ t.composer.running = s.composer.running ∧
      KeepsBut [.composer, .store, .driver, .render] s t ∧
      (Calm s → s.store.waiting = Waiting.none →
        t = freed.setComposer { s.composer with deferred := some read })) ∧
    (s.composerStopped = false →
      Leads (.blockReadDone cells) s (Settled fun u => Absorbed read freed u)) ∧
    (∀ (level : Nat) (f : Filling), s.composerStopped = false →
      s.composer.running = some ⟨level, .build⟩ → s.composer.staging = .filling f →
      let g := blockComputed s read f
      let record (r : Nat) : Mat3 :=
        if s.blockState i = .valid then recordAt r content.data else f.fallback
      -- R33: row `a` of record r times column `b` of the target
      let row (m : Mat3) : Nat → Row3
        | 0 => m.r0
        | 1 => m.r1
        | _ => m.r2
      let entry (x : Row3) : Nat → Int
        | 0 => x.x0
        | 1 => x.x1
        | _ => x.x2
      let raw (r a b : Nat) : Int :=
        (entry (row (record r) a) 0 * entry (row f.target 0) b +
          entry (row (record r) a) 1 * entry (row f.target 1) b +
          entry (row (record r) a) 2 * entry (row f.target 2) b + 8192) / 16384
      -- R34
      let held (v : Int) : Int :=
        if v < -32768 then -32768 else if 32767 < v then 32767 else v
      g.blocksDone = f.blocksDone + 1 ∧ g.matrices.length = f.matrices.length + 64 ∧
      (∀ r < 64,
        (g.matrices[f.matrices.length + r]?).map (·.1) =
          some ((8 * (i / (s.width / 8)) + r / 8) * s.width +
            (8 * (i % (s.width / 8)) + r % 8)) ∧
        ∀ a < 3, ∀ b < 3,
          (g.matrices[f.matrices.length + r]?).map (fun e => entry (row e.2 a) b) =
            some (held (raw r a b))) ∧
      g.saturated = f.saturated + ((List.range 64).map fun r =>
        ((List.range 9).filter fun n =>
          decide (held (raw r (n / 3) (n % 3)) ≠ raw r (n / 3) (n % 3))).length).sum ∧
      g.fallbackBlocks = f.fallbackBlocks + (if s.blockState i = .valid then 0 else 1) ∧
      (f.zone < 16 → s.zoneBlocks f.zone =
        (List.range (s.width / 32 * (s.height / 32))).map (zoneBlock s f.zone))) ∧
    (∀ level left : Nat, s.composerStopped = false → s.store.blockStates.length = 256 →
      i < s.blockCount → s.store.waiting = Waiting.none → s.composer.deferred = none →
      s.composer.running = some ⟨level, .scrub left false⟩ → s.blockState i ≠ .programming →
      let fails := (s.blockState i = .valid ∧ checkBlock content ≠ .valid) ∨
        (s.blockState i = .blank ∧ checkBlock content ≠ .blank)
      let next := if s.store.scrubPointer + 1 < s.blockCount then s.store.scrubPointer + 1 else 0
      let zone := s.zoneOfBlock i
      Leads (.blockReadDone cells) s fun t =>
        (fails → t.blockState i = .invalid ∧
          t.store.scrubFailures = min 65535 (s.store.scrubFailures + 1) ∧
          (zone < 16 → zone ∈ t.composer.buildSet ∨
            ∃ f, t.composer.staging = .filling f ∧ f.zone = zone)) ∧
        (¬fails → t.blockState i = s.blockState i ∧
          t.store.scrubFailures = s.store.scrubFailures) ∧
        t.store.scrubPointer = next ∧
        KeepsBut [.store, .composer, .driver, .render, .thermal, .wear] s t)

/-- R47, R161, R154, R170, R26, R54, R114: the end of a block program, for a link's request (with
the next queued BLOCK, or orphaned) and for the tool's (with the hold). After it the composer takes
the decision that is due, and the scan goes among all requests that wait, a stopped composer's
passed over: the first phase from the pointer that names one wins. -/
def Obligations.BlockProgramsEnd : Prop :=
  ∀ (who : Requester) (p : BlockProgram) (cells : Option Stored) (s : State),
    s.store.port = .granted (.program who p) → TableLaw s →
    s.store.blockStates.length = 256 → p.block < s.blockCount →
    let content := cells.getD ⟨p.records, p.crc, false⟩
    let ok := content.openMark = false ∧ crc16 content.data = content.crc
    let zone :=
      4 * (p.block / (s.width / 8) / (s.height / 32)) + p.block % (s.width / 8) / (s.width / 32)
    -- the store and the composer, with `w` waiting
    let stored (w : Waiting) (u : State) : Prop :=
      u.slot p.block = content ∧ u.blockState p.block = (if ok then .valid else .invalid) ∧
      (∀ j, j ≠ p.block → u.blockState j = s.blockState j ∧ u.slot j = s.slot j) ∧
      u.store =
        { s.store with
          port := .free, waiting := w, slots := u.store.slots
          blockStates := u.store.blockStates
          programFailures :=
            if ok then s.store.programFailures else min 65535 (s.store.programFailures + 1) } ∧
      u.composer =
        { s.composer with
          buildSet := (List.range 16).filter fun z =>
            decide (z ∈ s.composer.buildSet ∨ z = zone) }
    (∀ (l : Link) (e : BulkEntry) (rest : List BulkEntry),
      who = (match l with | .a => .linkA | .b => .linkB) →
      (s.link l).outstanding = .current → (s.link l).bulk = e :: rest →
      Leads (.blockProgramDone cells) s fun t => ∃ u,
        stored (nextProgram l rest s.store.waiting) u ∧
        u.link l =
          { s.link l with
            bulk := rest, outstanding := if rest = [] then .none else .current
            credits := (s.link l).credits + 1
            sends := (s.link l).sends ++
              [.answer .bulk e.tag kindBlock (if ok then .done else .failed) [], .credit 1] } ∧
        KeepsBut [.store, .composer, linkPart l] s u ∧ WorkFollows u t ∧
        (s.store.waiting = Waiting.none → rest = [] → NoDecision u → t = u)) ∧
    (∀ (l : Link) (b : Nat), who = (match l with | .a => .linkA | .b => .linkB) →
      (s.link l).outstanding = .orphaned b →
      let queued := if (s.link l).state = .ready then (s.link l).bulk else []
      Leads (.blockProgramDone cells) s fun t => ∃ u,
        stored (nextProgram l queued s.store.waiting) u ∧
        u.link l =
          { s.link l with outstanding := if queued = [] then .none else .current } ∧
        KeepsBut [.store, .composer, linkPart l] s u ∧ WorkFollows u t ∧
        (s.store.waiting = Waiting.none → queued = [] → NoDecision u → t = u)) ∧
    (∀ o : ServiceOutstanding, who = .service → s.service.outstanding = some o →
      Leads (.blockProgramDone cells) s fun t => ∃ u,
        stored (heldProgram s s.store.waiting) u ∧
        ServiceCompleted o (if ok then .done else .failed) s u ∧
        KeepsBut [.store, .composer, .service] s u ∧ WorkFollows u t ∧
        (s.store.waiting = Waiting.none → s.service.hold = none → NoDecision u → t = u))

/-- R43, R42, R45, R170, R147, R183, R184, R186, R54, R114: the ends of an identity program, with
the hold of the service line, and of a drift save, with the entry to REST or, with a held command,
the leaving of it, and the report. After either the decision that is due is taken and the scan goes
among all requests that wait: while the part is in REST past the composer's (R118), and at the
leaving of it with the composer's. -/
def Obligations.IdentityAndDriftEnd : Prop :=
  (∀ (fields : List Byte) (cells : Option Stored) (o : ServiceOutstanding) (s : State),
    s.store.port = .granted (.identity fields) → s.service.outstanding = some o →
    let content := cells.getD ⟨fields, crc16 fields, false⟩
    let ok := identityValid content
    Leads (.identityProgramDone cells) s fun t => ∃ u,
      u.store =
        { s.store with
          port := .free, waiting := heldProgram s s.store.waiting
          identity := content, identityValid := ok
          constants := if ok then readIdentity content.data else Constants.default
          programFailures :=
            if ok then s.store.programFailures
            else min 65535 (s.store.programFailures + 1) } ∧
      u.composer = { s.composer with buildSet := List.range 16 } ∧
      ServiceCompleted o (if ok then .done else .failed) s u ∧
      KeepsBut [.store, .composer, .service] s u ∧ WorkFollows u t ∧
      (s.store.waiting = Waiting.none → s.service.hold = none → NoDecision u → t = u)) ∧
  ∀ (mark : Bool) (cells : Option Stored) (s : State),
    s.store.port = .granted (.save mark) →
    let content := cells.getD { s.store.drift with openMark := false }
    let stored (u : State) : Prop :=
      u.store =
        { s.store with
          drift := content, driftValid := driftValid content, port := .free
          saveFailures :=
            if driftValid content then s.store.saveFailures
            else min 65535 (s.store.saveFailures + 1) }
    (mark = false ∨ s.chip.power ≠ .restingEntry →
      Leads (.driftSaveDone cells) s fun t => ∃ u,
        stored u ∧ KeepsBut [.store] s u ∧ Settles u t ∧
        (s.store.waiting = Waiting.none → Calm s → NoDecision s → t = u)) ∧
    (mark = true → s.chip.power = .restingEntry →
      let dimmed (w : State) : Prop :=
        stored w ∧ w.driver = { s.driver with pilotDrive := ⟨0, 0, 0⟩ } ∧
        KeepsBut [.store, .driver] s w
      (s.chip.held = .none → LeadsReporting (.driftSaveDone cells) s [.power] fun d =>
        d.chip = { s.chip with power := .rest, restWake := s.settings.restWakeInterval } ∧
        d.timebaseRuns = false ∧ d.composerStopped = true ∧
        (∀ b < 16, d.carries b = .zero ∨ d.carries b = .nothing) ∧
        ∃ w, dimmed w ∧ Settles (w.setChip d.chip) d ∧
          (Calm s → s.store.waiting = Waiting.none →
            BanksFollow w d ∧ KeepsBut [.chip, .driver] w d)) ∧
      ∀ p, (s.chip.held = .light ∧ p = .run ∨ s.chip.held = .dark ∧ p = .dark) →
        LeadsReporting (.driftSaveDone cells) s [.power] fun d =>
          ∃ w, dimmed w ∧ LeavesRest p w d)

/-- R64 to R67, R74, R75, R106, R114, R54: the end of a THERMAL job, the GAIN it requests, and the
decision and the scan that follow. -/
def Obligations.ThermalJobEnds : Prop :=
  ∀ (level : Nat) (k : LoadTake) (s : State), s.composerStopped = false →
    s.composer.running = some ⟨level, .thermal k⟩ →
    Leads .thermalJobEnd s fun t =>
      let mean (z : Nat) : Nat :=
        let a := k.load.getD z Rgb.zero
        (a.r + a.g + a.b) * 4096 / (k.samples * 3 * s.zonePixels * 65535)
      let goal (z : Nat) : Int :=
        k.sensed.getD z 400 + ((k.rho * mean z / 4096 : Nat) : Int)
      t.thermal =
        { s.thermal with
          ticks := t.thermal.ticks, sampleAfterTake := t.thermal.sampleAfterTake
          temps :=
            if s.thermal.sampleAfterTake then s.thermal.temps
            else s.thermal.temps.zipIdx.map fun e => stepsTemp k.k (goal e.2) k.ticks e.1
          meanLoad := (List.range 16).map mean } ∧
      (∀ (z : Nat) (w : Rgb Nat), s.wear.zones[z]? = some w → ∀ e,
        (t.wear.zones[z]?.map fun u => Rgb.get u e) = some
          (if s.wear.clearMarks.getD z .clear = .clear then
            min 281474976710655 (Rgb.get w e +
              Rgb.get (k.load.getD z Rgb.zero) e * 4096 / (s.zonePixels * 65535))
          else Rgb.get w e)) ∧
      (∀ e, Rgb.get t.wear.pilot e =
        min 281474976710655 (Rgb.get s.wear.pilot e + Rgb.get k.pilotLoad e * 4096 / 65535)) ∧
      t.wear.kappa = s.wear.kappa ∧ t.wear.trim = s.wear.trim ∧
      (t.composer.gainPending = true ∨ t.composer.runs .gain = true) ∧
      KeepsBut [.thermal, .wear, .composer, .store, .driver] s t ∧
      (∃ u, WorkFollows u t ∧
        u.thermal =
          { s.thermal with temps := t.thermal.temps, meanLoad := t.thermal.meanLoad } ∧
        u.wear = { s.wear with zones := t.wear.zones, pilot := t.wear.pilot } ∧
        u.composer = { s.composer with running := none, gainPending := true } ∧
        KeepsBut [.thermal, .wear, .composer] s u)

/-- R76, R92 to R100, R10 to R13, R114, R147: the end of a GAIN run: the efficiencies, capacities,
flags and counts, the gain set, the notices with their report, and what follows in the step: the
move into force where the engine is not rendering, the decision, the scan; and the lookup in a wear
table, at every wear (the model's choice where R93 says of a saturated counter that it lies beyond
any breakpoint: log 32). -/
def Obligations.GainRunEnds : Prop :=
  (∀ (level : Nat) (i : GainInputs) (s : State), s.composerStopped = false →
    s.composer.running = some ⟨level, .gain i⟩ →
    let cap := s.settings.fCap
    let clamp (lo hi x : Int) : Nat := (if x < lo then lo else if hi < x then hi else x).toNat
    -- R92 to R94
    let etaT (z : Nat) (e : Emitter) : Nat :=
      clamp 32768 98304
        (65536 - (((Rgb.get i.beta e : Nat) : Int) * (i.temps.getD z 400 - i.tRef)).tdiv 16)
    let etaW (z : Nat) (e : Emitter) : Nat :=
      wearEfficiency (Rgb.get i.tables e) (Rgb.get (i.wear.getD z Rgb.zero) e / 921600000)
    let eps (z : Nat) (e : Emitter) : Nat :=
      clamp 16384 98304 ((etaT z e * etaW z e / 65536 * Rgb.get i.kappa e / 65536 : Nat) : Int)
    -- R95, R96
    let tau (e : Emitter) : Nat := (65536 + 64 * Rgb.get i.trim e).toNat
    let raw (z : Nat) (e : Emitter) : Nat :=
      4294967296 / eps z e * tau e / 65536 * i.ceiling / 65536
    let set := (List.range 16).map fun z =>
      (⟨min cap (raw z .r), min cap (raw z .g), min cap (raw z .b)⟩ : Rgb Nat)
    -- R97
    let c (z : Nat) (e : Emitter) : Nat := min 65536 (eps z e * 65536 / tau e)
    let least (z : Nat) : Nat := min (c z .r) (min (c z .g) (c z .b))
    let capped (z : Nat) : Bool :=
      decide (cap < raw z .r ∨ cap < raw z .g ∨ cap < raw z .b)
    let short (z : Nat) : Bool := decide (least z < i.ceiling)
    let results (g : GainResults) : Prop :=
      g.zones = ((List.range 16).map fun z =>
        { capacity := least z
          limiting :=
            if c z .r = least z then .r else if c z .g = least z then .g else .b
          efficiency := ⟨eps z .r, eps z .g, eps z .b⟩
          short := short z, capped := capped z }) ∧
      -- R98
      (∀ z < 16, g.tileCapacity ≤ least z) ∧ g.weakest < 16 ∧
      least g.weakest = g.tileCapacity ∧ (∀ z < g.weakest, least z ≠ g.tileCapacity) ∧
      g.shortCount = ((List.range 16).filter short).length ∧
      g.cappedCount = ((List.range 16).filter capped).length ∧
      g.ceilingUsed = i.ceiling ∧ g.runs = (s.gain.runs + 1) % 65536
    ∃ g, results g ∧
      -- R100
      let moved : Prop := ∀ last, s.authority.lastSent = some last →
        last + 256 ≤ g.tileCapacity ∨ g.tileCapacity + 256 ≤ last
      ∃ cs : List Cause,
        (∀ x, x ∈ cs ↔ x = .capacity ∧ moved ∨ x = .short ∧ g.shortCount ≠ s.gain.shortCount) ∧
        LeadsReporting .gainEnd s cs fun d =>
          d.gain = g ∧
          (s.isRendering = true → d.render = { s.render with pendingGain := some set }) ∧
          (s.isRendering = false →
            d.render.pendingGain = none ∧ d.render.applied = set ∧
            ((∀ z, s.composer.staging ≠ .staged z) →
              d.render = { s.render with applied := set, pendingGain := none })) ∧
          KeepsBut [.gain, .render, .composer, .store, .driver, .thermal, .wear] s d ∧
          Settles (((s.setGain g).setRender
            { s.render with pendingGain := some set }).setComposer
              { s.composer with running := none }) d) ∧
  ∀ (point : Nat → Nat × Nat) (h : Nat), (∀ k < 7, (point k).1 < (point (k + 1)).1) →
    let table : WearTable := (List.range 8).map point
    (h < 16 * (point 0).1 → wearEfficiency table h = (point 0).2) ∧
    (16 * (point 7).1 ≤ h → wearEfficiency table h = (point 7).2) ∧
    ∀ k < 7, 16 * (point k).1 ≤ h → h < 16 * (point (k + 1)).1 →
      ((wearEfficiency table h : Nat) : Int) =
        (point k).2 + (((point (k + 1)).2 : Int) - (point k).2) * (h - 16 * (point k).1) /
          (16 * (((point (k + 1)).1 : Int) - (point k).1))

/-! ## Laws of the 6C -/

/-- The laws hold right after a POWER reset. -/
def Obligations.LawsHoldAtReset : Prop :=
  let s := State.reset
  CreditLaw s ∧ TemperatureLaw s ∧ KappaLaw s ∧ AuthorityLaw s ∧ FactorLaw s ∧ SensorLaw s ∧
    ProgrammingLaw s ∧ TableLaw s ∧ StackLaw s ∧ CodeLaw s

/-- R160: the BLOCKs queued plus the credits held never exceed 4. -/
def Obligations.CreditLawIsKept : Prop :=
  ∀ s t : State, CreditLaw s → step s = .next t → CreditLaw t

/-- R58: every zone temperature stays within −640 to 2000. -/
def Obligations.TemperatureLawIsKept : Prop :=
  ∀ s t : State, TemperatureLaw s → step s = .next t → TemperatureLaw t

/-- R80: every κ stays within 49152 to 81920. -/
def Obligations.KappaLawIsKept : Prop :=
  ∀ s t : State, KappaLaw s → step s = .next t → KappaLaw t

/-- R132: a link holding authority is READY. -/
def Obligations.AuthorityLawIsKept : Prop :=
  ∀ s t : State, AuthorityLaw s → step s = .next t → AuthorityLaw t

/-- R96, R102: every row factor stays within f_cap, whose range is part of the law. -/
def Obligations.FactorLawIsKept : Prop :=
  ∀ s t : State, FactorLaw s → step s = .next t → FactorLaw t

/-- R122: the sensor requests stay distinct. -/
def Obligations.SensorLawIsKept : Prop :=
  ∀ s t : State, SensorLaw s → step s = .next t → SensorLaw t

/-- R54: a block is PROGRAMMING only while a program grant for it is in force. -/
def Obligations.ProgrammingLawIsKept : Prop :=
  ∀ s t : State, ProgrammingLaw s → step s = .next t → ProgrammingLaw t

/-- The sparse tables keep their one form: entries in rising order, none equal to what an unlisted
index reads as. That form is the model's own way to hold the render table, the delivered rows and
the block slots (log 30); the manual's rules say nothing of it. -/
def Obligations.TableLawIsKept : Prop :=
  ∀ s t : State, TableLaw s → step s = .next t → TableLaw t

/-- R116: the suspension stack. -/
def Obligations.StackLawIsKept : Prop :=
  ∀ s t : State, StackLaw s → step s = .next t → StackLaw t

/-- R15, R7: every drive code lies within 0 to 65535, and while configuration is OPEN every lane
carries 0. -/
def Obligations.DriveCodesStayInRange : Prop :=
  (∀ s t : State, CodeLaw s → step s = .next t → CodeLaw t) ∧
    ∀ s : State, (CodeLaw s → ∀ x y e, Rgb.get (s.laneCode x y) e ≤ 65535) ∧
      (s.chip.config = .opened → ∀ x y, s.laneCode x y = ⟨0, 0, 0⟩)

/-- R11: while rendering, only a frame head changes the render table and the applied gain set. A
SERVICE_FRAME command may hold several frames and is left out. -/
def Obligations.TableChangesAtFrameHeads : Prop :=
  ∀ (c : Instr) (s t : State), c.wellFormed = true →
    (∀ l u, c ≠ .frameHead l u) → (∀ bytes, c ≠ .serviceFrame bytes) →
    exec c s = .next t → s.started = true → s.isRendering = true → t.isRendering = true →
    t.render.table = s.render.table ∧ t.render.zones = s.render.zones ∧
      t.render.applied = s.render.applied

/-- R74: a wear counter never decreases, but by WEAR_CLEAR, by a loss of power, by a POWER reset (at
its beginning, and at the release that ends it, R175) and by the drift record that a cold start-up
reads. -/
def Obligations.WearNeverDecreases : Prop :=
  ∀ (c : Instr) (s t : State), (∀ pins, c ≠ .powerOn pins) → c ≠ .powerLoss →
    (s.chip.phase = .poweringUp → ∀ pins, c ≠ .resetPinRelease pins) →
    (∀ f, c ≠ .startupChecksDone f) → (∀ tag z, c ≠ .wearClear tag z) →
    (∀ bytes, c ≠ .serviceFrame bytes) → exec c s = .next t →
    (∀ (z : Nat) (w : Rgb Nat), s.wear.zones[z]? = some w →
      (∀ e, Rgb.get w e ≤ 281474976710655) →
      ∃ w', t.wear.zones[z]? = some w' ∧ ∀ e, Rgb.get w e ≤ Rgb.get w' e) ∧
    ((∀ e, Rgb.get s.wear.pilot e ≤ 281474976710655) →
      ∀ e, Rgb.get s.wear.pilot e ≤ Rgb.get t.wear.pilot e)

/-- R66: a THERMAL job applies the taken number of steps to each zone's temperature; the steps one
by one, and the law that an update moves a temperature toward its equilibrium and never past it. -/
def Obligations.ThermalStepsNeverOvershoot : Prop :=
  (∀ (level : Nat) (taken : LoadTake) (s : State), s.composerStopped = false →
    s.composer.running = some ⟨level, .thermal taken⟩ → s.thermal.sampleAfterTake = false →
    Leads .thermalJobEnd s fun t =>
      ∀ (z : Nat) (now : Int), s.thermal.temps[z]? = some now →
        t.thermal.temps[z]? = some
          (stepsTemp taken.k
            (equilibrium (taken.sensed.getD z 400) taken.rho (taken.mean s.zonePixels z))
            taken.ticks now)) ∧
  ∀ (k : Nat) (e t : Int), 1 ≤ k → k ≤ 255 → -640 ≤ e → -640 ≤ t → t ≤ 2000 →
    let d := e - t
    let part := (d * k).tdiv 256
    let move : Int := if part ≠ 0 then part else if 0 < d then 1 else if d < 0 then -1 else 0
    let next : Int :=
      if t + move < -640 then -640 else if 2000 < t + move then 2000 else t + move
    stepsTemp k e 0 t = t ∧ (∀ n, stepsTemp k e (n + 1) t = stepsTemp k e n next) ∧
      ∀ n, let u := stepsTemp k e n t
        (-640 ≤ u ∧ u ≤ 2000) ∧ (t ≤ e → t ≤ u ∧ u ≤ e) ∧ (e ≤ t → e ≤ u ∧ u ≤ t) ∧
        (2000 ≤ e → 2000 ≤ t + n → u = 2000)
end

