-- ==== Sys2Proof/Laws/State.lean ====
section
/-! SUPPORT. One lemma for each field of `State` under each of its updates, so that no later proof
unfolds a record update. -/

namespace Sys2Proof.Machine

section Chip

variable (s : State) (v : Chip)

@[simp] theorem setChip_chip : (s.setChip v).chip = v := rfl
@[simp] theorem setChip_settings : (s.setChip v).settings = s.settings := rfl
@[simp] theorem setChip_timebase : (s.setChip v).timebase = s.timebase := rfl
@[simp] theorem setChip_render : (s.setChip v).render = s.render := rfl
@[simp] theorem setChip_driver : (s.setChip v).driver = s.driver := rfl
@[simp] theorem setChip_composer : (s.setChip v).composer = s.composer := rfl
@[simp] theorem setChip_store : (s.setChip v).store = s.store := rfl
@[simp] theorem setChip_thermal : (s.setChip v).thermal = s.thermal := rfl
@[simp] theorem setChip_wear : (s.setChip v).wear = s.wear := rfl
@[simp] theorem setChip_gain : (s.setChip v).gain = s.gain := rfl
@[simp] theorem setChip_sensors : (s.setChip v).sensors = s.sensors := rfl
@[simp] theorem setChip_authority : (s.setChip v).authority = s.authority := rfl
@[simp] theorem setChip_linkA : (s.setChip v).linkA = s.linkA := rfl
@[simp] theorem setChip_linkB : (s.setChip v).linkB = s.linkB := rfl
@[simp] theorem setChip_service : (s.setChip v).service = s.service := rfl
@[simp] theorem setChip_freeDraws : (s.setChip v).freeDraws = s.freeDraws := rfl
@[simp] theorem setChip_pending : (s.setChip v).pending = s.pending := rfl
@[simp] theorem setChip_link (l : Link) : (s.setChip v).link l = s.link l := by cases l <;> rfl

end Chip

section Settings

variable (s : State) (v : Settings)

@[simp] theorem setSettings_chip : (s.setSettings v).chip = s.chip := rfl
@[simp] theorem setSettings_settings : (s.setSettings v).settings = v := rfl
@[simp] theorem setSettings_timebase : (s.setSettings v).timebase = s.timebase := rfl
@[simp] theorem setSettings_render : (s.setSettings v).render = s.render := rfl
@[simp] theorem setSettings_driver : (s.setSettings v).driver = s.driver := rfl
@[simp] theorem setSettings_composer : (s.setSettings v).composer = s.composer := rfl
@[simp] theorem setSettings_store : (s.setSettings v).store = s.store := rfl
@[simp] theorem setSettings_thermal : (s.setSettings v).thermal = s.thermal := rfl
@[simp] theorem setSettings_wear : (s.setSettings v).wear = s.wear := rfl
@[simp] theorem setSettings_gain : (s.setSettings v).gain = s.gain := rfl
@[simp] theorem setSettings_sensors : (s.setSettings v).sensors = s.sensors := rfl
@[simp] theorem setSettings_authority : (s.setSettings v).authority = s.authority := rfl
@[simp] theorem setSettings_linkA : (s.setSettings v).linkA = s.linkA := rfl
@[simp] theorem setSettings_linkB : (s.setSettings v).linkB = s.linkB := rfl
@[simp] theorem setSettings_service : (s.setSettings v).service = s.service := rfl
@[simp] theorem setSettings_freeDraws : (s.setSettings v).freeDraws = s.freeDraws := rfl
@[simp] theorem setSettings_pending : (s.setSettings v).pending = s.pending := rfl
@[simp] theorem setSettings_link (l : Link) : (s.setSettings v).link l = s.link l := by cases l <;> rfl

end Settings

section Timebase

variable (s : State) (v : Timebase)

@[simp] theorem setTimebase_chip : (s.setTimebase v).chip = s.chip := rfl
@[simp] theorem setTimebase_settings : (s.setTimebase v).settings = s.settings := rfl
@[simp] theorem setTimebase_timebase : (s.setTimebase v).timebase = v := rfl
@[simp] theorem setTimebase_render : (s.setTimebase v).render = s.render := rfl
@[simp] theorem setTimebase_driver : (s.setTimebase v).driver = s.driver := rfl
@[simp] theorem setTimebase_composer : (s.setTimebase v).composer = s.composer := rfl
@[simp] theorem setTimebase_store : (s.setTimebase v).store = s.store := rfl
@[simp] theorem setTimebase_thermal : (s.setTimebase v).thermal = s.thermal := rfl
@[simp] theorem setTimebase_wear : (s.setTimebase v).wear = s.wear := rfl
@[simp] theorem setTimebase_gain : (s.setTimebase v).gain = s.gain := rfl
@[simp] theorem setTimebase_sensors : (s.setTimebase v).sensors = s.sensors := rfl
@[simp] theorem setTimebase_authority : (s.setTimebase v).authority = s.authority := rfl
@[simp] theorem setTimebase_linkA : (s.setTimebase v).linkA = s.linkA := rfl
@[simp] theorem setTimebase_linkB : (s.setTimebase v).linkB = s.linkB := rfl
@[simp] theorem setTimebase_service : (s.setTimebase v).service = s.service := rfl
@[simp] theorem setTimebase_freeDraws : (s.setTimebase v).freeDraws = s.freeDraws := rfl
@[simp] theorem setTimebase_pending : (s.setTimebase v).pending = s.pending := rfl
@[simp] theorem setTimebase_link (l : Link) : (s.setTimebase v).link l = s.link l := by cases l <;> rfl

end Timebase

section Render

variable (s : State) (v : Render)

@[simp] theorem setRender_chip : (s.setRender v).chip = s.chip := rfl
@[simp] theorem setRender_settings : (s.setRender v).settings = s.settings := rfl
@[simp] theorem setRender_timebase : (s.setRender v).timebase = s.timebase := rfl
@[simp] theorem setRender_render : (s.setRender v).render = v := rfl
@[simp] theorem setRender_driver : (s.setRender v).driver = s.driver := rfl
@[simp] theorem setRender_composer : (s.setRender v).composer = s.composer := rfl
@[simp] theorem setRender_store : (s.setRender v).store = s.store := rfl
@[simp] theorem setRender_thermal : (s.setRender v).thermal = s.thermal := rfl
@[simp] theorem setRender_wear : (s.setRender v).wear = s.wear := rfl
@[simp] theorem setRender_gain : (s.setRender v).gain = s.gain := rfl
@[simp] theorem setRender_sensors : (s.setRender v).sensors = s.sensors := rfl
@[simp] theorem setRender_authority : (s.setRender v).authority = s.authority := rfl
@[simp] theorem setRender_linkA : (s.setRender v).linkA = s.linkA := rfl
@[simp] theorem setRender_linkB : (s.setRender v).linkB = s.linkB := rfl
@[simp] theorem setRender_service : (s.setRender v).service = s.service := rfl
@[simp] theorem setRender_freeDraws : (s.setRender v).freeDraws = s.freeDraws := rfl
@[simp] theorem setRender_pending : (s.setRender v).pending = s.pending := rfl
@[simp] theorem setRender_link (l : Link) : (s.setRender v).link l = s.link l := by cases l <;> rfl

end Render

section Driver

variable (s : State) (v : Driver)

@[simp] theorem setDriver_chip : (s.setDriver v).chip = s.chip := rfl
@[simp] theorem setDriver_settings : (s.setDriver v).settings = s.settings := rfl
@[simp] theorem setDriver_timebase : (s.setDriver v).timebase = s.timebase := rfl
@[simp] theorem setDriver_render : (s.setDriver v).render = s.render := rfl
@[simp] theorem setDriver_driver : (s.setDriver v).driver = v := rfl
@[simp] theorem setDriver_composer : (s.setDriver v).composer = s.composer := rfl
@[simp] theorem setDriver_store : (s.setDriver v).store = s.store := rfl
@[simp] theorem setDriver_thermal : (s.setDriver v).thermal = s.thermal := rfl
@[simp] theorem setDriver_wear : (s.setDriver v).wear = s.wear := rfl
@[simp] theorem setDriver_gain : (s.setDriver v).gain = s.gain := rfl
@[simp] theorem setDriver_sensors : (s.setDriver v).sensors = s.sensors := rfl
@[simp] theorem setDriver_authority : (s.setDriver v).authority = s.authority := rfl
@[simp] theorem setDriver_linkA : (s.setDriver v).linkA = s.linkA := rfl
@[simp] theorem setDriver_linkB : (s.setDriver v).linkB = s.linkB := rfl
@[simp] theorem setDriver_service : (s.setDriver v).service = s.service := rfl
@[simp] theorem setDriver_freeDraws : (s.setDriver v).freeDraws = s.freeDraws := rfl
@[simp] theorem setDriver_pending : (s.setDriver v).pending = s.pending := rfl
@[simp] theorem setDriver_link (l : Link) : (s.setDriver v).link l = s.link l := by cases l <;> rfl

end Driver

section Composer

variable (s : State) (v : Composer)

@[simp] theorem setComposer_chip : (s.setComposer v).chip = s.chip := rfl
@[simp] theorem setComposer_settings : (s.setComposer v).settings = s.settings := rfl
@[simp] theorem setComposer_timebase : (s.setComposer v).timebase = s.timebase := rfl
@[simp] theorem setComposer_render : (s.setComposer v).render = s.render := rfl
@[simp] theorem setComposer_driver : (s.setComposer v).driver = s.driver := rfl
@[simp] theorem setComposer_composer : (s.setComposer v).composer = v := rfl
@[simp] theorem setComposer_store : (s.setComposer v).store = s.store := rfl
@[simp] theorem setComposer_thermal : (s.setComposer v).thermal = s.thermal := rfl
@[simp] theorem setComposer_wear : (s.setComposer v).wear = s.wear := rfl
@[simp] theorem setComposer_gain : (s.setComposer v).gain = s.gain := rfl
@[simp] theorem setComposer_sensors : (s.setComposer v).sensors = s.sensors := rfl
@[simp] theorem setComposer_authority : (s.setComposer v).authority = s.authority := rfl
@[simp] theorem setComposer_linkA : (s.setComposer v).linkA = s.linkA := rfl
@[simp] theorem setComposer_linkB : (s.setComposer v).linkB = s.linkB := rfl
@[simp] theorem setComposer_service : (s.setComposer v).service = s.service := rfl
@[simp] theorem setComposer_freeDraws : (s.setComposer v).freeDraws = s.freeDraws := rfl
@[simp] theorem setComposer_pending : (s.setComposer v).pending = s.pending := rfl
@[simp] theorem setComposer_link (l : Link) : (s.setComposer v).link l = s.link l := by cases l <;> rfl

end Composer

section Store

variable (s : State) (v : Store)

@[simp] theorem setStore_chip : (s.setStore v).chip = s.chip := rfl
@[simp] theorem setStore_settings : (s.setStore v).settings = s.settings := rfl
@[simp] theorem setStore_timebase : (s.setStore v).timebase = s.timebase := rfl
@[simp] theorem setStore_render : (s.setStore v).render = s.render := rfl
@[simp] theorem setStore_driver : (s.setStore v).driver = s.driver := rfl
@[simp] theorem setStore_composer : (s.setStore v).composer = s.composer := rfl
@[simp] theorem setStore_store : (s.setStore v).store = v := rfl
@[simp] theorem setStore_thermal : (s.setStore v).thermal = s.thermal := rfl
@[simp] theorem setStore_wear : (s.setStore v).wear = s.wear := rfl
@[simp] theorem setStore_gain : (s.setStore v).gain = s.gain := rfl
@[simp] theorem setStore_sensors : (s.setStore v).sensors = s.sensors := rfl
@[simp] theorem setStore_authority : (s.setStore v).authority = s.authority := rfl
@[simp] theorem setStore_linkA : (s.setStore v).linkA = s.linkA := rfl
@[simp] theorem setStore_linkB : (s.setStore v).linkB = s.linkB := rfl
@[simp] theorem setStore_service : (s.setStore v).service = s.service := rfl
@[simp] theorem setStore_freeDraws : (s.setStore v).freeDraws = s.freeDraws := rfl
@[simp] theorem setStore_pending : (s.setStore v).pending = s.pending := rfl
@[simp] theorem setStore_link (l : Link) : (s.setStore v).link l = s.link l := by cases l <;> rfl

end Store

section Thermal

variable (s : State) (v : Thermal)

@[simp] theorem setThermal_chip : (s.setThermal v).chip = s.chip := rfl
@[simp] theorem setThermal_settings : (s.setThermal v).settings = s.settings := rfl
@[simp] theorem setThermal_timebase : (s.setThermal v).timebase = s.timebase := rfl
@[simp] theorem setThermal_render : (s.setThermal v).render = s.render := rfl
@[simp] theorem setThermal_driver : (s.setThermal v).driver = s.driver := rfl
@[simp] theorem setThermal_composer : (s.setThermal v).composer = s.composer := rfl
@[simp] theorem setThermal_store : (s.setThermal v).store = s.store := rfl
@[simp] theorem setThermal_thermal : (s.setThermal v).thermal = v := rfl
@[simp] theorem setThermal_wear : (s.setThermal v).wear = s.wear := rfl
@[simp] theorem setThermal_gain : (s.setThermal v).gain = s.gain := rfl
@[simp] theorem setThermal_sensors : (s.setThermal v).sensors = s.sensors := rfl
@[simp] theorem setThermal_authority : (s.setThermal v).authority = s.authority := rfl
@[simp] theorem setThermal_linkA : (s.setThermal v).linkA = s.linkA := rfl
@[simp] theorem setThermal_linkB : (s.setThermal v).linkB = s.linkB := rfl
@[simp] theorem setThermal_service : (s.setThermal v).service = s.service := rfl
@[simp] theorem setThermal_freeDraws : (s.setThermal v).freeDraws = s.freeDraws := rfl
@[simp] theorem setThermal_pending : (s.setThermal v).pending = s.pending := rfl
@[simp] theorem setThermal_link (l : Link) : (s.setThermal v).link l = s.link l := by cases l <;> rfl

end Thermal

section Wear

variable (s : State) (v : Wear)

@[simp] theorem setWear_chip : (s.setWear v).chip = s.chip := rfl
@[simp] theorem setWear_settings : (s.setWear v).settings = s.settings := rfl
@[simp] theorem setWear_timebase : (s.setWear v).timebase = s.timebase := rfl
@[simp] theorem setWear_render : (s.setWear v).render = s.render := rfl
@[simp] theorem setWear_driver : (s.setWear v).driver = s.driver := rfl
@[simp] theorem setWear_composer : (s.setWear v).composer = s.composer := rfl
@[simp] theorem setWear_store : (s.setWear v).store = s.store := rfl
@[simp] theorem setWear_thermal : (s.setWear v).thermal = s.thermal := rfl
@[simp] theorem setWear_wear : (s.setWear v).wear = v := rfl
@[simp] theorem setWear_gain : (s.setWear v).gain = s.gain := rfl
@[simp] theorem setWear_sensors : (s.setWear v).sensors = s.sensors := rfl
@[simp] theorem setWear_authority : (s.setWear v).authority = s.authority := rfl
@[simp] theorem setWear_linkA : (s.setWear v).linkA = s.linkA := rfl
@[simp] theorem setWear_linkB : (s.setWear v).linkB = s.linkB := rfl
@[simp] theorem setWear_service : (s.setWear v).service = s.service := rfl
@[simp] theorem setWear_freeDraws : (s.setWear v).freeDraws = s.freeDraws := rfl
@[simp] theorem setWear_pending : (s.setWear v).pending = s.pending := rfl
@[simp] theorem setWear_link (l : Link) : (s.setWear v).link l = s.link l := by cases l <;> rfl

end Wear

section Gain

variable (s : State) (v : GainResults)

@[simp] theorem setGain_chip : (s.setGain v).chip = s.chip := rfl
@[simp] theorem setGain_settings : (s.setGain v).settings = s.settings := rfl
@[simp] theorem setGain_timebase : (s.setGain v).timebase = s.timebase := rfl
@[simp] theorem setGain_render : (s.setGain v).render = s.render := rfl
@[simp] theorem setGain_driver : (s.setGain v).driver = s.driver := rfl
@[simp] theorem setGain_composer : (s.setGain v).composer = s.composer := rfl
@[simp] theorem setGain_store : (s.setGain v).store = s.store := rfl
@[simp] theorem setGain_thermal : (s.setGain v).thermal = s.thermal := rfl
@[simp] theorem setGain_wear : (s.setGain v).wear = s.wear := rfl
@[simp] theorem setGain_gain : (s.setGain v).gain = v := rfl
@[simp] theorem setGain_sensors : (s.setGain v).sensors = s.sensors := rfl
@[simp] theorem setGain_authority : (s.setGain v).authority = s.authority := rfl
@[simp] theorem setGain_linkA : (s.setGain v).linkA = s.linkA := rfl
@[simp] theorem setGain_linkB : (s.setGain v).linkB = s.linkB := rfl
@[simp] theorem setGain_service : (s.setGain v).service = s.service := rfl
@[simp] theorem setGain_freeDraws : (s.setGain v).freeDraws = s.freeDraws := rfl
@[simp] theorem setGain_pending : (s.setGain v).pending = s.pending := rfl
@[simp] theorem setGain_link (l : Link) : (s.setGain v).link l = s.link l := by cases l <;> rfl

end Gain

section Sensors

variable (s : State) (v : Sensors)

@[simp] theorem setSensors_chip : (s.setSensors v).chip = s.chip := rfl
@[simp] theorem setSensors_settings : (s.setSensors v).settings = s.settings := rfl
@[simp] theorem setSensors_timebase : (s.setSensors v).timebase = s.timebase := rfl
@[simp] theorem setSensors_render : (s.setSensors v).render = s.render := rfl
@[simp] theorem setSensors_driver : (s.setSensors v).driver = s.driver := rfl
@[simp] theorem setSensors_composer : (s.setSensors v).composer = s.composer := rfl
@[simp] theorem setSensors_store : (s.setSensors v).store = s.store := rfl
@[simp] theorem setSensors_thermal : (s.setSensors v).thermal = s.thermal := rfl
@[simp] theorem setSensors_wear : (s.setSensors v).wear = s.wear := rfl
@[simp] theorem setSensors_gain : (s.setSensors v).gain = s.gain := rfl
@[simp] theorem setSensors_sensors : (s.setSensors v).sensors = v := rfl
@[simp] theorem setSensors_authority : (s.setSensors v).authority = s.authority := rfl
@[simp] theorem setSensors_linkA : (s.setSensors v).linkA = s.linkA := rfl
@[simp] theorem setSensors_linkB : (s.setSensors v).linkB = s.linkB := rfl
@[simp] theorem setSensors_service : (s.setSensors v).service = s.service := rfl
@[simp] theorem setSensors_freeDraws : (s.setSensors v).freeDraws = s.freeDraws := rfl
@[simp] theorem setSensors_pending : (s.setSensors v).pending = s.pending := rfl
@[simp] theorem setSensors_link (l : Link) : (s.setSensors v).link l = s.link l := by cases l <;> rfl

end Sensors

section Authority

variable (s : State) (v : Authority)

@[simp] theorem setAuthority_chip : (s.setAuthority v).chip = s.chip := rfl
@[simp] theorem setAuthority_settings : (s.setAuthority v).settings = s.settings := rfl
@[simp] theorem setAuthority_timebase : (s.setAuthority v).timebase = s.timebase := rfl
@[simp] theorem setAuthority_render : (s.setAuthority v).render = s.render := rfl
@[simp] theorem setAuthority_driver : (s.setAuthority v).driver = s.driver := rfl
@[simp] theorem setAuthority_composer : (s.setAuthority v).composer = s.composer := rfl
@[simp] theorem setAuthority_store : (s.setAuthority v).store = s.store := rfl
@[simp] theorem setAuthority_thermal : (s.setAuthority v).thermal = s.thermal := rfl
@[simp] theorem setAuthority_wear : (s.setAuthority v).wear = s.wear := rfl
@[simp] theorem setAuthority_gain : (s.setAuthority v).gain = s.gain := rfl
@[simp] theorem setAuthority_sensors : (s.setAuthority v).sensors = s.sensors := rfl
@[simp] theorem setAuthority_authority : (s.setAuthority v).authority = v := rfl
@[simp] theorem setAuthority_linkA : (s.setAuthority v).linkA = s.linkA := rfl
@[simp] theorem setAuthority_linkB : (s.setAuthority v).linkB = s.linkB := rfl
@[simp] theorem setAuthority_service : (s.setAuthority v).service = s.service := rfl
@[simp] theorem setAuthority_freeDraws : (s.setAuthority v).freeDraws = s.freeDraws := rfl
@[simp] theorem setAuthority_pending : (s.setAuthority v).pending = s.pending := rfl
@[simp] theorem setAuthority_link (l : Link) : (s.setAuthority v).link l = s.link l := by cases l <;> rfl

end Authority

section Service

variable (s : State) (v : ServiceLine)

@[simp] theorem setService_chip : (s.setService v).chip = s.chip := rfl
@[simp] theorem setService_settings : (s.setService v).settings = s.settings := rfl
@[simp] theorem setService_timebase : (s.setService v).timebase = s.timebase := rfl
@[simp] theorem setService_render : (s.setService v).render = s.render := rfl
@[simp] theorem setService_driver : (s.setService v).driver = s.driver := rfl
@[simp] theorem setService_composer : (s.setService v).composer = s.composer := rfl
@[simp] theorem setService_store : (s.setService v).store = s.store := rfl
@[simp] theorem setService_thermal : (s.setService v).thermal = s.thermal := rfl
@[simp] theorem setService_wear : (s.setService v).wear = s.wear := rfl
@[simp] theorem setService_gain : (s.setService v).gain = s.gain := rfl
@[simp] theorem setService_sensors : (s.setService v).sensors = s.sensors := rfl
@[simp] theorem setService_authority : (s.setService v).authority = s.authority := rfl
@[simp] theorem setService_linkA : (s.setService v).linkA = s.linkA := rfl
@[simp] theorem setService_linkB : (s.setService v).linkB = s.linkB := rfl
@[simp] theorem setService_service : (s.setService v).service = v := rfl
@[simp] theorem setService_freeDraws : (s.setService v).freeDraws = s.freeDraws := rfl
@[simp] theorem setService_pending : (s.setService v).pending = s.pending := rfl
@[simp] theorem setService_link (l : Link) : (s.setService v).link l = s.link l := by cases l <;> rfl

end Service

section Pending

variable (s : State) (v : List Instr)

@[simp] theorem setPending_chip : (s.setPending v).chip = s.chip := rfl
@[simp] theorem setPending_settings : (s.setPending v).settings = s.settings := rfl
@[simp] theorem setPending_timebase : (s.setPending v).timebase = s.timebase := rfl
@[simp] theorem setPending_render : (s.setPending v).render = s.render := rfl
@[simp] theorem setPending_driver : (s.setPending v).driver = s.driver := rfl
@[simp] theorem setPending_composer : (s.setPending v).composer = s.composer := rfl
@[simp] theorem setPending_store : (s.setPending v).store = s.store := rfl
@[simp] theorem setPending_thermal : (s.setPending v).thermal = s.thermal := rfl
@[simp] theorem setPending_wear : (s.setPending v).wear = s.wear := rfl
@[simp] theorem setPending_gain : (s.setPending v).gain = s.gain := rfl
@[simp] theorem setPending_sensors : (s.setPending v).sensors = s.sensors := rfl
@[simp] theorem setPending_authority : (s.setPending v).authority = s.authority := rfl
@[simp] theorem setPending_linkA : (s.setPending v).linkA = s.linkA := rfl
@[simp] theorem setPending_linkB : (s.setPending v).linkB = s.linkB := rfl
@[simp] theorem setPending_service : (s.setPending v).service = s.service := rfl
@[simp] theorem setPending_freeDraws : (s.setPending v).freeDraws = s.freeDraws := rfl
@[simp] theorem setPending_pending : (s.setPending v).pending = v := rfl
@[simp] theorem setPending_link (l : Link) : (s.setPending v).link l = s.link l := by cases l <;> rfl

end Pending

section Link

variable (s : State) (l : Link) (v : LinkPort)

@[simp] theorem setLink_chip : (s.setLink l v).chip = s.chip := by cases l <;> rfl
@[simp] theorem setLink_settings : (s.setLink l v).settings = s.settings := by cases l <;> rfl
@[simp] theorem setLink_timebase : (s.setLink l v).timebase = s.timebase := by cases l <;> rfl
@[simp] theorem setLink_render : (s.setLink l v).render = s.render := by cases l <;> rfl
@[simp] theorem setLink_driver : (s.setLink l v).driver = s.driver := by cases l <;> rfl
@[simp] theorem setLink_composer : (s.setLink l v).composer = s.composer := by cases l <;> rfl
@[simp] theorem setLink_store : (s.setLink l v).store = s.store := by cases l <;> rfl
@[simp] theorem setLink_thermal : (s.setLink l v).thermal = s.thermal := by cases l <;> rfl
@[simp] theorem setLink_wear : (s.setLink l v).wear = s.wear := by cases l <;> rfl
@[simp] theorem setLink_gain : (s.setLink l v).gain = s.gain := by cases l <;> rfl
@[simp] theorem setLink_sensors : (s.setLink l v).sensors = s.sensors := by cases l <;> rfl
@[simp] theorem setLink_authority : (s.setLink l v).authority = s.authority := by cases l <;> rfl
@[simp] theorem setLink_service : (s.setLink l v).service = s.service := by cases l <;> rfl
@[simp] theorem setLink_freeDraws : (s.setLink l v).freeDraws = s.freeDraws := by cases l <;> rfl
@[simp] theorem setLink_pending : (s.setLink l v).pending = s.pending := by cases l <;> rfl
@[simp] theorem setLink_a_linkA : (s.setLink .a v).linkA = v := rfl
@[simp] theorem setLink_a_linkB : (s.setLink .a v).linkB = s.linkB := rfl
@[simp] theorem setLink_b_linkA : (s.setLink .b v).linkA = s.linkA := rfl
@[simp] theorem setLink_b_linkB : (s.setLink .b v).linkB = v := rfl
@[simp] theorem setLink_link_same : (s.setLink l v).link l = v := by cases l <;> rfl
@[simp] theorem setLink_link_other : (s.setLink l v).link l.other = s.link l.other := by cases l <;> rfl
theorem setLink_link_of_ne {k : Link} (h : k ≠ l) : (s.setLink l v).link k = s.link k := by
  cases k <;> cases l <;> first | rfl | exact absurd rfl h
@[simp] theorem link_a : s.link .a = s.linkA := rfl
@[simp] theorem link_b : s.link .b = s.linkB := rfl

end Link

@[simp] theorem other_other (l : Link) : l.other.other = l := by cases l <;> rfl

theorem other_ne (l : Link) : l.other ≠ l := by cases l <;> decide

end Sys2Proof.Machine
end

