-- ==== Sys2Proof/Laws/Frames.lean ====
section
/-! SUPPORT. For each operation, the parts of the state it can change. A lemma `f_keeps` says: what
held of the parts outside `ps` before `f` holds after it, where `ps` has the parts `f` writes. -/

namespace Sys2Proof.Machine

theorem KeepsBut.refl (ps : List Part) (s : State) : KeepsBut ps s s := by
  intro p _; cases p <;> rfl

theorem KeepsBut.mono {ps qs : List Part} {s t : State} (h : KeepsBut ps s t) (hp : ps ⊆ qs) :
    KeepsBut qs s t := fun p hn => h p fun hm => hn (hp hm)

theorem KeepsBut.trans {ps : List Part} {s t u : State} (h : KeepsBut ps s t)
    (k : KeepsBut ps t u) : KeepsBut ps s u := by
  intro p hn
  have h1 := h p hn
  have h2 := k p hn
  cases p <;> exact h2.trans h1

section Frames

variable {ps : List Part} {s₀ s : State}

@[simp] theorem setChip_keeps (v : Chip) (h : KeepsBut ps s₀ s) (hp : .chip ∈ ps) :
    KeepsBut ps s₀ (s.setChip v) := by
  intro p hn; cases p <;> first | exact absurd hp hn | exact h _ hn

@[simp] theorem setSettings_keeps (v : Settings) (h : KeepsBut ps s₀ s) (hp : .settings ∈ ps) :
    KeepsBut ps s₀ (s.setSettings v) := by
  intro p hn; cases p <;> first | exact absurd hp hn | exact h _ hn

@[simp] theorem setTimebase_keeps (v : Timebase) (h : KeepsBut ps s₀ s) (hp : .timebase ∈ ps) :
    KeepsBut ps s₀ (s.setTimebase v) := by
  intro p hn; cases p <;> first | exact absurd hp hn | exact h _ hn

@[simp] theorem setRender_keeps (v : Render) (h : KeepsBut ps s₀ s) (hp : .render ∈ ps) :
    KeepsBut ps s₀ (s.setRender v) := by
  intro p hn; cases p <;> first | exact absurd hp hn | exact h _ hn

@[simp] theorem setDriver_keeps (v : Driver) (h : KeepsBut ps s₀ s) (hp : .driver ∈ ps) :
    KeepsBut ps s₀ (s.setDriver v) := by
  intro p hn; cases p <;> first | exact absurd hp hn | exact h _ hn

@[simp] theorem setComposer_keeps (v : Composer) (h : KeepsBut ps s₀ s) (hp : .composer ∈ ps) :
    KeepsBut ps s₀ (s.setComposer v) := by
  intro p hn; cases p <;> first | exact absurd hp hn | exact h _ hn

@[simp] theorem setStore_keeps (v : Store) (h : KeepsBut ps s₀ s) (hp : .store ∈ ps) :
    KeepsBut ps s₀ (s.setStore v) := by
  intro p hn; cases p <;> first | exact absurd hp hn | exact h _ hn

@[simp] theorem setThermal_keeps (v : Thermal) (h : KeepsBut ps s₀ s) (hp : .thermal ∈ ps) :
    KeepsBut ps s₀ (s.setThermal v) := by
  intro p hn; cases p <;> first | exact absurd hp hn | exact h _ hn

@[simp] theorem setWear_keeps (v : Wear) (h : KeepsBut ps s₀ s) (hp : .wear ∈ ps) :
    KeepsBut ps s₀ (s.setWear v) := by
  intro p hn; cases p <;> first | exact absurd hp hn | exact h _ hn

@[simp] theorem setGain_keeps (v : GainResults) (h : KeepsBut ps s₀ s) (hp : .gain ∈ ps) :
    KeepsBut ps s₀ (s.setGain v) := by
  intro p hn; cases p <;> first | exact absurd hp hn | exact h _ hn

@[simp] theorem setSensors_keeps (v : Sensors) (h : KeepsBut ps s₀ s) (hp : .sensors ∈ ps) :
    KeepsBut ps s₀ (s.setSensors v) := by
  intro p hn; cases p <;> first | exact absurd hp hn | exact h _ hn

@[simp] theorem setAuthority_keeps (v : Authority) (h : KeepsBut ps s₀ s) (hp : .authority ∈ ps) :
    KeepsBut ps s₀ (s.setAuthority v) := by
  intro p hn; cases p <;> first | exact absurd hp hn | exact h _ hn

@[simp] theorem setService_keeps (v : ServiceLine) (h : KeepsBut ps s₀ s) (hp : .service ∈ ps) :
    KeepsBut ps s₀ (s.setService v) := by
  intro p hn; cases p <;> first | exact absurd hp hn | exact h _ hn

@[simp] theorem setPending_keeps (v : List Instr) (h : KeepsBut ps s₀ s) (hp : .pending ∈ ps) :
    KeepsBut ps s₀ (s.setPending v) := by
  intro p hn; cases p <;> first | exact absurd hp hn | exact h _ hn

@[simp] theorem setLink_keeps (l : Link) (v : LinkPort) (h : KeepsBut ps s₀ s)
    (ha : .linkA ∈ ps) (hb : .linkB ∈ ps) : KeepsBut ps s₀ (s.setLink l v) := by
  intro p hn
  cases l <;> cases p <;> first | exact absurd ha hn | exact absurd hb hn | exact h _ hn

/-! ### The driver port -/

@[simp] theorem primeBanks_keeps (h : KeepsBut ps s₀ s) (hp : [.driver] ⊆ ps) :
    KeepsBut ps s₀ (primeBanks s) := by
  simp only [List.cons_subset, List.nil_subset, and_true] at hp
  simp (maxDischargeDepth := 9) [primeBanks, h, hp]

@[simp] theorem forgetRows_keeps (h : KeepsBut ps s₀ s) (hp : [.driver] ⊆ ps) :
    KeepsBut ps s₀ (forgetRows s) := by
  simp only [List.cons_subset, List.nil_subset, and_true] at hp
  simp (maxDischargeDepth := 9) [forgetRows, h, hp]

@[simp] theorem settleBanks_keeps (h : KeepsBut ps s₀ s) (hp : [.driver] ⊆ ps) :
    KeepsBut ps s₀ (settleBanks s) := by
  simp only [List.cons_subset, List.nil_subset, and_true] at hp
  simp (maxDischargeDepth := 9) [settleBanks, h, hp]

@[simp] theorem deliverRow_keeps (y : Nat) (c : List (Rgb Nat)) (h : KeepsBut ps s₀ s)
    (hp : [.driver] ⊆ ps) :
    KeepsBut ps s₀ (deliverRow y c s) := by
  simp only [List.cons_subset, List.nil_subset, and_true] at hp
  simp (maxDischargeDepth := 9) [deliverRow, h, hp]

@[simp] theorem loadSample_keeps (h : KeepsBut ps s₀ s) (hp : [.driver] ⊆ ps) :
    KeepsBut ps s₀ (loadSample s) := by
  simp only [List.cons_subset, List.nil_subset, and_true] at hp
  simp (maxDischargeDepth := 9) [loadSample, h, hp]

@[simp] theorem clearLoad_keeps (h : KeepsBut ps s₀ s) (hp : [.driver] ⊆ ps) :
    KeepsBut ps s₀ (clearLoad s) := by
  simp only [List.cons_subset, List.nil_subset, and_true] at hp
  simp (maxDischargeDepth := 9) [clearLoad, h, hp]

@[simp] theorem setPilotDrive_keeps (v : Rgb Nat) (h : KeepsBut ps s₀ s) (hp : [.driver] ⊆ ps) :
    KeepsBut ps s₀ (setPilotDrive v s) := by
  simp only [List.cons_subset, List.nil_subset, and_true] at hp
  simp (maxDischargeDepth := 9) [setPilotDrive, h, hp]

@[simp] theorem releaseWaiting_keeps (h : KeepsBut ps s₀ s) (hp : [.driver] ⊆ ps) :
    KeepsBut ps s₀ (releaseWaiting s) := by
  simp only [List.cons_subset, List.nil_subset, and_true] at hp
  simp (maxDischargeDepth := 9) [releaseWaiting, h, hp]

@[simp] theorem primingExpired_keeps (b : Nat) (h : KeepsBut ps s₀ s) (hp : [.driver] ⊆ ps) :
    KeepsBut ps s₀ (primingExpired b s) := by
  simp only [List.cons_subset, List.nil_subset, and_true] at hp
  simp (maxDischargeDepth := 9) [primingExpired, h, hp]

@[simp] theorem setBankMode_keeps (b : Nat) (m : BankMode) (h : KeepsBut ps s₀ s)
    (hp : [.driver] ⊆ ps) :
    KeepsBut ps s₀ (setBankMode b m s) := by
  simp only [List.cons_subset, List.nil_subset, and_true] at hp
  simp (maxDischargeDepth := 9) [setBankMode, h, hp]

@[simp] theorem setBankLatch_keeps (b : Nat) (v : Rgb Nat) (h : KeepsBut ps s₀ s)
    (hp : [.driver] ⊆ ps) :
    KeepsBut ps s₀ (setBankLatch b v s) := by
  simp only [List.cons_subset, List.nil_subset, and_true] at hp
  simp (maxDischargeDepth := 9) [setBankLatch, h, hp]

@[simp] theorem setBankPolicy_keeps (b : Nat) (p : DarkPolicy) (h : KeepsBut ps s₀ s)
    (hp : [.driver] ⊆ ps) :
    KeepsBut ps s₀ (setBankPolicy b p s) := by
  simp only [List.cons_subset, List.nil_subset, and_true] at hp
  simp (maxDischargeDepth := 9) [setBankPolicy, h, hp]

@[simp] theorem tickBanks_keeps (h : KeepsBut ps s₀ s) (hp : [.driver] ⊆ ps) :
    KeepsBut ps s₀ (tickBanks s) := by
  simp only [List.cons_subset, List.nil_subset, and_true] at hp
  simp (maxDischargeDepth := 9) [tickBanks, h, hp]

/-! ### The render engine -/

@[simp] theorem computeRow_keeps (y : Nat) (p : List (Rgb Nat)) (h : KeepsBut ps s₀ s)
    (hp : [.render, .driver] ⊆ ps) :
    KeepsBut ps s₀ (computeRow y p s) := by
  simp only [List.cons_subset, List.nil_subset, and_true] at hp
  simp (maxDischargeDepth := 9) [computeRow, h, hp]

@[simp] theorem renderRow_keeps (y : Nat) (p : List (Rgb Nat)) (h : KeepsBut ps s₀ s)
    (hp : [.render, .driver] ⊆ ps) :
    KeepsBut ps s₀ (renderRow y p s) := by
  simp only [List.cons_subset, List.nil_subset, and_true] at hp
  unfold renderRow; split <;> simp (maxDischargeDepth := 9) [h, hp]

@[simp] theorem commitStaged_keeps (h : KeepsBut ps s₀ s) (hp : [.render, .composer] ⊆ ps) :
    KeepsBut ps s₀ (commitStaged s) := by
  simp only [List.cons_subset, List.nil_subset, and_true] at hp
  unfold commitStaged; split <;> simp (maxDischargeDepth := 9) [h, hp]

@[simp] theorem applyPendingGain_keeps (h : KeepsBut ps s₀ s) (hp : [.render] ⊆ ps) :
    KeepsBut ps s₀ (applyPendingGain s) := by
  simp only [List.cons_subset, List.nil_subset, and_true] at hp
  unfold applyPendingGain; split <;> simp (maxDischargeDepth := 9) [h, hp]

@[simp] theorem moveIntoForce_keeps (h : KeepsBut ps s₀ s) (hp : [.render, .composer] ⊆ ps) :
    KeepsBut ps s₀ (moveIntoForce s) := by
  simp only [List.cons_subset, List.nil_subset, and_true] at hp
  simp (maxDischargeDepth := 9) [moveIntoForce, h, hp]

@[simp] theorem settleRender_keeps (h : KeepsBut ps s₀ s) (hp : [.render, .composer] ⊆ ps) :
    KeepsBut ps s₀ (settleRender s) := by
  simp only [List.cons_subset, List.nil_subset, and_true] at hp
  unfold settleRender; split <;> simp (maxDischargeDepth := 9) [h, hp]

@[simp] theorem capGains_keeps (c : Nat) (h : KeepsBut ps s₀ s) (hp : [.render] ⊆ ps) :
    KeepsBut ps s₀ (capGains c s) := by
  simp only [List.cons_subset, List.nil_subset, and_true] at hp
  simp (maxDischargeDepth := 9) [capGains, h, hp]

@[simp] theorem clearLimited_keeps (h : KeepsBut ps s₀ s) (hp : [.render] ⊆ ps) :
    KeepsBut ps s₀ (clearLimited s) := by
  simp only [List.cons_subset, List.nil_subset, and_true] at hp
  simp (maxDischargeDepth := 9) [clearLimited, h, hp]

/-! ### The store -/

@[simp] theorem loadIdentity_keeps (h : KeepsBut ps s₀ s) (hp : [.store] ⊆ ps) :
    KeepsBut ps s₀ (loadIdentity s) := by
  simp only [List.cons_subset, List.nil_subset, and_true] at hp
  simp (maxDischargeDepth := 9) [loadIdentity, h, hp]

@[simp] theorem loadDrift_keeps (h : KeepsBut ps s₀ s) (hp : [.store, .wear] ⊆ ps) :
    KeepsBut ps s₀ (loadDrift s) := by
  simp only [List.cons_subset, List.nil_subset, and_true] at hp
  simp (maxDischargeDepth := 9) [loadDrift, h, hp]

@[simp] theorem setSlot_keeps (i : Nat) (c : Stored) (h : KeepsBut ps s₀ s) (hp : [.store] ⊆ ps) :
    KeepsBut ps s₀ (setSlot i c s) := by
  simp only [List.cons_subset, List.nil_subset, and_true] at hp
  simp (maxDischargeDepth := 9) [setSlot, h, hp]

@[simp] theorem setBlockState_keeps (i : Nat) (b : BlockState) (h : KeepsBut ps s₀ s)
    (hp : [.store] ⊆ ps) :
    KeepsBut ps s₀ (setBlockState i b s) := by
  simp only [List.cons_subset, List.nil_subset, and_true] at hp
  simp (maxDischargeDepth := 9) [setBlockState, h, hp]

@[simp] theorem checkBlocks_keeps (h : KeepsBut ps s₀ s) (hp : [.store] ⊆ ps) :
    KeepsBut ps s₀ (checkBlocks s) := by
  simp only [List.cons_subset, List.nil_subset, and_true] at hp
  simp (maxDischargeDepth := 9) [checkBlocks, h, hp]

@[simp] theorem setPort_keeps (p : PortUse) (h : KeepsBut ps s₀ s) (hp : [.store] ⊆ ps) :
    KeepsBut ps s₀ (setPort p s) := by
  simp only [List.cons_subset, List.nil_subset, and_true] at hp
  simp (maxDischargeDepth := 9) [setPort, h, hp]

@[simp] theorem setWaiting_keeps (w : Waiting) (h : KeepsBut ps s₀ s) (hp : [.store] ⊆ ps) :
    KeepsBut ps s₀ (setWaiting w s) := by
  simp only [List.cons_subset, List.nil_subset, and_true] at hp
  simp (maxDischargeDepth := 9) [setWaiting, h, hp]

@[simp] theorem beginProgram_keeps (who : Requester) (p : BlockProgram) (h : KeepsBut ps s₀ s)
    (hp : [.store] ⊆ ps) :
    KeepsBut ps s₀ (beginProgram who p s) := by
  simp only [List.cons_subset, List.nil_subset, and_true] at hp
  simp (maxDischargeDepth := 9) [beginProgram, h, hp]

@[simp] theorem beginIdentity_keeps (f : List Byte) (h : KeepsBut ps s₀ s) (hp : [.store] ⊆ ps) :
    KeepsBut ps s₀ (beginIdentity f s) := by
  simp only [List.cons_subset, List.nil_subset, and_true] at hp
  simp (maxDischargeDepth := 9) [beginIdentity, h, hp]

@[simp] theorem beginSave_keeps (m : Bool) (h : KeepsBut ps s₀ s) (hp : [.store] ⊆ ps) :
    KeepsBut ps s₀ (beginSave m s) := by
  simp only [List.cons_subset, List.nil_subset, and_true] at hp
  simp (maxDischargeDepth := 9) [beginSave, h, hp]

@[simp] theorem grantRequest_keeps (r : Requester) (h : KeepsBut ps s₀ s) (hp : [.store] ⊆ ps) :
    KeepsBut ps s₀ (grantRequest r s) := by
  simp only [List.cons_subset, List.nil_subset, and_true] at hp
  unfold grantRequest; dsimp only; repeat' split
  all_goals simp (maxDischargeDepth := 9) [h, hp]

@[simp] theorem settleStore_keeps (h : KeepsBut ps s₀ s) (hp : [.store] ⊆ ps) :
    KeepsBut ps s₀ (settleStore s) := by
  simp only [List.cons_subset, List.nil_subset, and_true] at hp
  unfold settleStore; repeat' split
  all_goals simp (maxDischargeDepth := 9) [h, hp]

@[simp] theorem requestSave_keeps (m : Bool) (h : KeepsBut ps s₀ s) (hp : [.store] ⊆ ps) :
    KeepsBut ps s₀ (requestSave m s) := by
  simp only [List.cons_subset, List.nil_subset, and_true] at hp
  simp (maxDischargeDepth := 9) [requestSave, h, hp]

@[simp] theorem placeRead_keeps (i : Nat) (h : KeepsBut ps s₀ s) (hp : [.store] ⊆ ps) :
    KeepsBut ps s₀ (placeRead i s) := by
  simp only [List.cons_subset, List.nil_subset, and_true] at hp
  simp (maxDischargeDepth := 9) [placeRead, h, hp]

@[simp] theorem placeProgram_keeps (l : Link) (p : BlockProgram) (h : KeepsBut ps s₀ s)
    (hp : [.store] ⊆ ps) :
    KeepsBut ps s₀ (placeProgram l p s) := by
  simp only [List.cons_subset, List.nil_subset, and_true] at hp
  unfold placeProgram; split <;> simp (maxDischargeDepth := 9) [h, hp]

@[simp] theorem placeService_keeps (p : ServiceProgram) (h : KeepsBut ps s₀ s)
    (hp : [.store] ⊆ ps) :
    KeepsBut ps s₀ (placeService p s) := by
  simp only [List.cons_subset, List.nil_subset, and_true] at hp
  simp (maxDischargeDepth := 9) [placeService, h, hp]

/-! ### BUILD and SCRUB -/

@[simp] theorem joinBuild_keeps (zs : List Nat) (h : KeepsBut ps s₀ s) (hp : [.composer] ⊆ ps) :
    KeepsBut ps s₀ (joinBuild zs s) := by
  simp only [List.cons_subset, List.nil_subset, and_true] at hp
  simp (maxDischargeDepth := 9) [joinBuild, h, hp]

@[simp] theorem joinAll_keeps (h : KeepsBut ps s₀ s) (hp : [.composer] ⊆ ps) :
    KeepsBut ps s₀ (joinAll s) := by
  simp only [List.cons_subset, List.nil_subset, and_true] at hp
  simp (maxDischargeDepth := 9) [joinAll, h, hp]

@[simp] theorem requestBlock_keeps (f : Filling) (h : KeepsBut ps s₀ s) (hp : [.store] ⊆ ps) :
    KeepsBut ps s₀ (requestBlock f s) := by
  simp only [List.cons_subset, List.nil_subset, and_true] at hp
  unfold requestBlock; split <;> simp (maxDischargeDepth := 9) [h, hp]

@[simp] theorem takeZone_keeps (h : KeepsBut ps s₀ s) (hp : [.composer, .store] ⊆ ps) :
    KeepsBut ps s₀ (takeZone s) := by
  simp only [List.cons_subset, List.nil_subset, and_true] at hp
  unfold takeZone; split <;> simp (maxDischargeDepth := 9) [h, hp]

@[simp] theorem park_keeps (f : Filling) (h : KeepsBut ps s₀ s) (hp : [.composer] ⊆ ps) :
    KeepsBut ps s₀ (park f s) := by
  simp only [List.cons_subset, List.nil_subset, and_true] at hp
  simp (maxDischargeDepth := 9) [park, h, hp]

@[simp] theorem absorbBuild_keeps (r : BlockRead) (h : KeepsBut ps s₀ s)
    (hp : [.composer, .store] ⊆ ps) :
    KeepsBut ps s₀ (absorbBuild r s) := by
  simp only [List.cons_subset, List.nil_subset, and_true] at hp
  unfold absorbBuild; dsimp only; repeat' split
  all_goals simp (maxDischargeDepth := 9) [h, hp]

@[simp] theorem scrubFailure_keeps (i : Nat) (h : KeepsBut ps s₀ s)
    (hp : [.composer, .store] ⊆ ps) :
    KeepsBut ps s₀ (scrubFailure i s) := by
  simp only [List.cons_subset, List.nil_subset, and_true] at hp
  simp (maxDischargeDepth := 9) [scrubFailure, h, hp]

@[simp] theorem advanceScrub_keeps (h : KeepsBut ps s₀ s) (hp : [.store] ⊆ ps) :
    KeepsBut ps s₀ (advanceScrub s) := by
  simp only [List.cons_subset, List.nil_subset, and_true] at hp
  simp (maxDischargeDepth := 9) [advanceScrub, h, hp]

@[simp] theorem absorbScrub_keeps (a b : Nat) (r : BlockRead) (h : KeepsBut ps s₀ s)
    (hp : [.composer, .store] ⊆ ps) :
    KeepsBut ps s₀ (absorbScrub a b r s) := by
  simp only [List.cons_subset, List.nil_subset, and_true] at hp
  unfold absorbScrub; split <;> simp (maxDischargeDepth := 9) [h, hp]

@[simp] theorem absorbRead_keeps (r : BlockRead) (h : KeepsBut ps s₀ s)
    (hp : [.composer, .store] ⊆ ps) :
    KeepsBut ps s₀ (absorbRead r s) := by
  simp only [List.cons_subset, List.nil_subset, and_true] at hp
  unfold absorbRead; split <;> simp (maxDischargeDepth := 9) [h, hp]

/-! ### The composer -/

@[simp] theorem requestGain_keeps (h : KeepsBut ps s₀ s) (hp : [.composer] ⊆ ps) :
    KeepsBut ps s₀ (requestGain s) := by
  simp only [List.cons_subset, List.nil_subset, and_true] at hp
  simp (maxDischargeDepth := 9) [requestGain, h, hp]

@[simp] theorem requestThermal_keeps (h : KeepsBut ps s₀ s) (hp : [.composer] ⊆ ps) :
    KeepsBut ps s₀ (requestThermal s) := by
  simp only [List.cons_subset, List.nil_subset, and_true] at hp
  unfold requestThermal; split <;> simp (maxDischargeDepth := 9) [h, hp]

@[simp] theorem requestScrub_keeps (h : KeepsBut ps s₀ s) (hp : [.composer] ⊆ ps) :
    KeepsBut ps s₀ (requestScrub s) := by
  simp only [List.cons_subset, List.nil_subset, and_true] at hp
  unfold requestScrub; split <;> simp (maxDischargeDepth := 9) [h, hp]

@[simp] theorem takeLoad_keeps (h : KeepsBut ps s₀ s) (hp : [.driver, .thermal, .wear] ⊆ ps) :
    KeepsBut ps s₀ (takeLoad s) := by
  simp only [List.cons_subset, List.nil_subset, and_true] at hp
  simp (maxDischargeDepth := 9) [takeLoad, h, hp]

@[simp] theorem setRunning_keeps (r : Running) (h : KeepsBut ps s₀ s) (hp : [.composer] ⊆ ps) :
    KeepsBut ps s₀ (setRunning r s) := by
  simp only [List.cons_subset, List.nil_subset, and_true] at hp
  simp (maxDischargeDepth := 9) [setRunning, h, hp]

@[simp] theorem startJob_keeps (k : JobKind) (h : KeepsBut ps s₀ s)
    (hp : [.composer, .store, .driver, .thermal, .wear] ⊆ ps) :
    KeepsBut ps s₀ (startJob k s) := by
  simp only [List.cons_subset, List.nil_subset, and_true] at hp
  unfold startJob; split <;> simp (maxDischargeDepth := 9) [h, hp]

@[simp] theorem resumeTop_keeps (e : Suspended) (rest : List Suspended) (h : KeepsBut ps s₀ s)
    (hp : [.composer, .store] ⊆ ps) :
    KeepsBut ps s₀ (resumeTop e rest s) := by
  simp only [List.cons_subset, List.nil_subset, and_true] at hp
  simp (maxDischargeDepth := 9) [resumeTop, h, hp]

@[simp] theorem takeDecision_keeps (h : KeepsBut ps s₀ s)
    (hp : [.composer, .store, .driver, .thermal, .wear] ⊆ ps) :
    KeepsBut ps s₀ (takeDecision s) := by
  simp only [List.cons_subset, List.nil_subset, and_true] at hp
  unfold takeDecision; repeat' split
  all_goals simp (maxDischargeDepth := 9) [h, hp]

@[simp] theorem pushScrub_keeps (a b : Nat) (h : KeepsBut ps s₀ s) (hp : [.composer] ⊆ ps) :
    KeepsBut ps s₀ (pushScrub a b s) := by
  simp only [List.cons_subset, List.nil_subset, and_true] at hp
  simp (maxDischargeDepth := 9) [pushScrub, h, hp]

@[simp] theorem decideAtPoint_keeps (a b : Nat) (h : KeepsBut ps s₀ s)
    (hp : [.composer, .store, .driver, .thermal, .wear] ⊆ ps) :
    KeepsBut ps s₀ (decideAtPoint a b s) := by
  simp only [List.cons_subset, List.nil_subset, and_true] at hp
  unfold decideAtPoint; repeat' split
  all_goals simp (maxDischargeDepth := 9) [h, hp]

@[simp] theorem settleComposer_keeps (h : KeepsBut ps s₀ s)
    (hp : [.composer, .store, .driver, .thermal, .wear] ⊆ ps) :
    KeepsBut ps s₀ (settleComposer s) := by
  simp only [List.cons_subset, List.nil_subset, and_true] at hp
  unfold settleComposer; repeat' split
  all_goals simp (maxDischargeDepth := 9) [h, hp]

@[simp] theorem takeDeferred_keeps (h : KeepsBut ps s₀ s) (hp : [.composer, .store] ⊆ ps) :
    KeepsBut ps s₀ (takeDeferred s) := by
  simp only [List.cons_subset, List.nil_subset, and_true] at hp
  unfold takeDeferred; repeat' split
  all_goals simp (maxDischargeDepth := 9) [h, hp]

@[simp] theorem settleWork_keeps (h : KeepsBut ps s₀ s)
    (hp : [.composer, .store, .driver, .thermal, .wear] ⊆ ps) :
    KeepsBut ps s₀ (settleWork s) := by
  simp only [List.cons_subset, List.nil_subset, and_true] at hp
  simp (maxDischargeDepth := 9) [settleWork, h, hp]

@[simp] theorem settle_keeps (h : KeepsBut ps s₀ s)
    (hp : [.composer, .store, .driver, .thermal, .wear, .render] ⊆ ps) :
    KeepsBut ps s₀ (settle s) := by
  simp only [List.cons_subset, List.nil_subset, and_true] at hp
  simp (maxDischargeDepth := 9) [settle, h, hp]

/-! ### Sensors and the wear unit -/

@[simp] theorem setSensorQueue_keeps (q : List QueuedRequest) (h : KeepsBut ps s₀ s)
    (hp : [.sensors] ⊆ ps) :
    KeepsBut ps s₀ (setSensorQueue q s) := by
  simp only [List.cons_subset, List.nil_subset, and_true] at hp
  simp (maxDischargeDepth := 9) [setSensorQueue, h, hp]

@[simp] theorem placeSensor_keeps (r : SensorRequest) (u : SensorUser) (h : KeepsBut ps s₀ s)
    (hp : [.sensors] ⊆ ps) :
    KeepsBut ps s₀ (placeSensor r u s) := by
  simp only [List.cons_subset, List.nil_subset, and_true] at hp
  unfold placeSensor; repeat' split
  all_goals simp (maxDischargeDepth := 9) [h, hp]

@[simp] theorem recordCompletion_keeps (r : SensorRequest) (c : Completion) (h : KeepsBut ps s₀ s)
    (hp : [.sensors] ⊆ ps) :
    KeepsBut ps s₀ (recordCompletion r c s) := by
  simp only [List.cons_subset, List.nil_subset, and_true] at hp
  simp (maxDischargeDepth := 9) [recordCompletion, h, hp]

@[simp] theorem remapSensors_keeps (m : List Nat) (h : KeepsBut ps s₀ s)
    (hp : [.sensors, .settings] ⊆ ps) :
    KeepsBut ps s₀ (remapSensors m s) := by
  simp only [List.cons_subset, List.nil_subset, and_true] at hp
  simp (maxDischargeDepth := 9) [remapSensors, h, hp]

@[simp] theorem endSequence_keeps (h : KeepsBut ps s₀ s) (hp : [.wear, .composer] ⊆ ps) :
    KeepsBut ps s₀ (endSequence s) := by
  simp only [List.cons_subset, List.nil_subset, and_true] at hp
  unfold endSequence; split <;> simp (maxDischargeDepth := 9) [h, hp]

@[simp] theorem settleEmitter_keeps (e : Emitter) (h : KeepsBut ps s₀ s)
    (hp : [.wear, .driver] ⊆ ps) :
    KeepsBut ps s₀ (settleEmitter e s) := by
  simp only [List.cons_subset, List.nil_subset, and_true] at hp
  simp (maxDischargeDepth := 9) [settleEmitter, h, hp]

@[simp] theorem setPilotResult_keeps (e : Emitter) (r : PilotResult) (h : KeepsBut ps s₀ s)
    (hp : [.wear] ⊆ ps) :
    KeepsBut ps s₀ (setPilotResult e r s) := by
  simp only [List.cons_subset, List.nil_subset, and_true] at hp
  simp (maxDischargeDepth := 9) [setPilotResult, h, hp]

@[simp] theorem takeBlue_keeps (h : KeepsBut ps s₀ s) (hp : [.wear, .composer, .driver] ⊆ ps) :
    KeepsBut ps s₀ (takeBlue s) := by
  simp only [List.cons_subset, List.nil_subset, and_true] at hp
  unfold takeBlue takeEmitter; split <;> simp (maxDischargeDepth := 9) [h, hp]

@[simp] theorem takeGreen_keeps (h : KeepsBut ps s₀ s) (hp : [.wear, .composer, .driver] ⊆ ps) :
    KeepsBut ps s₀ (takeGreen s) := by
  simp only [List.cons_subset, List.nil_subset, and_true] at hp
  unfold takeGreen takeEmitter; split <;> simp (maxDischargeDepth := 9) [h, hp]

@[simp] theorem takeRed_keeps (h : KeepsBut ps s₀ s) (hp : [.wear, .composer, .driver] ⊆ ps) :
    KeepsBut ps s₀ (takeRed s) := by
  simp only [List.cons_subset, List.nil_subset, and_true] at hp
  unfold takeRed takeEmitter; split <;> simp (maxDischargeDepth := 9) [h, hp]

@[simp] theorem takeAfter_keeps (e : Emitter) (h : KeepsBut ps s₀ s)
    (hp : [.wear, .composer, .driver] ⊆ ps) :
    KeepsBut ps s₀ (takeAfter e s) := by
  simp only [List.cons_subset, List.nil_subset, and_true] at hp
  cases e <;> simp [takeAfter, h, hp]

@[simp] theorem startSequence_keeps (h : KeepsBut ps s₀ s) (hp : [.wear, .composer, .driver] ⊆ ps) :
    KeepsBut ps s₀ (startSequence s) := by
  simp only [List.cons_subset, List.nil_subset, and_true] at hp
  unfold startSequence; split <;> simp (maxDischargeDepth := 9) [h, hp]

@[simp] theorem beginRead_keeps (e : Emitter) (h : KeepsBut ps s₀ s) (hp : [.wear, .sensors] ⊆ ps) :
    KeepsBut ps s₀ (beginRead e s) := by
  simp only [List.cons_subset, List.nil_subset, and_true] at hp
  simp (maxDischargeDepth := 9) [beginRead, h, hp]

@[simp] theorem abandonSequence_keeps (h : KeepsBut ps s₀ s) (hp : [.wear, .composer] ⊆ ps) :
    KeepsBut ps s₀ (abandonSequence s) := by
  simp only [List.cons_subset, List.nil_subset, and_true] at hp
  unfold abandonSequence; split <;> (try split) <;> simp (maxDischargeDepth := 9) [h, hp]

@[simp] theorem missMeasurement_keeps (e : Emitter) (r : PilotResult) (h : KeepsBut ps s₀ s)
    (hp : [.wear] ⊆ ps) :
    KeepsBut ps s₀ (missMeasurement e r s) := by
  simp only [List.cons_subset, List.nil_subset, and_true] at hp
  simp (maxDischargeDepth := 9) [missMeasurement, h, hp]

@[simp] theorem applyRatio_keeps (e : Emitter) (r : Nat) (h : KeepsBut ps s₀ s)
    (hp : [.wear] ⊆ ps) :
    KeepsBut ps s₀ (applyRatio e r s) := by
  simp only [List.cons_subset, List.nil_subset, and_true] at hp
  simp (maxDischargeDepth := 9) [applyRatio, h, hp]

@[simp] theorem measure_keeps (e : Emitter) (c : Completion) (h : KeepsBut ps s₀ s)
    (hp : [.wear] ⊆ ps) :
    KeepsBut ps s₀ (measure e c s) := by
  simp only [List.cons_subset, List.nil_subset, and_true] at hp
  unfold measure; repeat' split
  all_goals simp (maxDischargeDepth := 9) [h, hp]

@[simp] theorem lightCompletion_keeps (e : Emitter) (c : Completion) (h : KeepsBut ps s₀ s)
    (hp : [.wear, .composer, .driver] ⊆ ps) :
    KeepsBut ps s₀ (lightCompletion e c s) := by
  simp only [List.cons_subset, List.nil_subset, and_true] at hp
  unfold lightCompletion; repeat' split
  all_goals simp (maxDischargeDepth := 9) [h, hp]

@[simp] theorem addWear_keeps (t : LoadTake) (h : KeepsBut ps s₀ s) (hp : [.wear] ⊆ ps) :
    KeepsBut ps s₀ (addWear t s) := by
  simp only [List.cons_subset, List.nil_subset, and_true] at hp
  simp (maxDischargeDepth := 9) [addWear, h, hp]

@[simp] theorem setTrims_keeps (t : Rgb Int) (h : KeepsBut ps s₀ s)
    (hp : [.wear, .store, .composer] ⊆ ps) :
    KeepsBut ps s₀ (setTrims t s) := by
  simp only [List.cons_subset, List.nil_subset, and_true] at hp
  unfold setTrims; split <;> simp (maxDischargeDepth := 9) [h, hp]

@[simp] theorem clearWear_keeps (z : Nat) (h : KeepsBut ps s₀ s)
    (hp : [.wear, .store, .composer] ⊆ ps) :
    KeepsBut ps s₀ (clearWear z s) := by
  simp only [List.cons_subset, List.nil_subset, and_true] at hp
  simp (maxDischargeDepth := 9) [clearWear, h, hp]

/-! ### Power states -/

@[simp] theorem setPower_keeps (p : PowerState) (h : KeepsBut ps s₀ s) (hp : [.chip] ⊆ ps) :
    KeepsBut ps s₀ (setPower p s) := by
  simp only [List.cons_subset, List.nil_subset, and_true] at hp
  simp (maxDischargeDepth := 9) [setPower, h, hp]

@[simp] theorem setHeld_keeps (x : HeldCommand) (h : KeepsBut ps s₀ s) (hp : [.chip] ⊆ ps) :
    KeepsBut ps s₀ (setHeld x s) := by
  simp only [List.cons_subset, List.nil_subset, and_true] at hp
  simp (maxDischargeDepth := 9) [setHeld, h, hp]

@[simp] theorem enterResting_keeps (h : KeepsBut ps s₀ s)
    (hp : [.chip, .store, .wear, .composer] ⊆ ps) :
    KeepsBut ps s₀ (enterResting s) := by
  simp only [List.cons_subset, List.nil_subset, and_true] at hp
  simp (maxDischargeDepth := 9) [enterResting, h, hp]

@[simp] theorem leaveRest_keeps (p : PowerState) (h : KeepsBut ps s₀ s)
    (hp : [.chip, .composer] ⊆ ps) :
    KeepsBut ps s₀ (leaveRest p s) := by
  simp only [List.cons_subset, List.nil_subset, and_true] at hp
  simp (maxDischargeDepth := 9) [leaveRest, h, hp]

@[simp] theorem stayInRest_keeps (h : KeepsBut ps s₀ s) (hp : [.chip] ⊆ ps) :
    KeepsBut ps s₀ (stayInRest s) := by
  simp only [List.cons_subset, List.nil_subset, and_true] at hp
  simp (maxDischargeDepth := 9) [stayInRest, h, hp]

@[simp] theorem enterRest_keeps (h : KeepsBut ps s₀ s) (hp : [.chip, .driver, .composer] ⊆ ps) :
    KeepsBut ps s₀ (enterRest s) := by
  simp only [List.cons_subset, List.nil_subset, and_true] at hp
  unfold enterRest; split <;> simp (maxDischargeDepth := 9) [h, hp]

@[simp] theorem commandDark_keeps (h : KeepsBut ps s₀ s) (hp : [.chip, .composer] ⊆ ps) :
    KeepsBut ps s₀ (commandDark s) := by
  simp only [List.cons_subset, List.nil_subset, and_true] at hp
  unfold commandDark; split <;> simp (maxDischargeDepth := 9) [h, hp]

@[simp] theorem commandLight_keeps (h : KeepsBut ps s₀ s) (hp : [.chip, .composer] ⊆ ps) :
    KeepsBut ps s₀ (commandLight s) := by
  simp only [List.cons_subset, List.nil_subset, and_true] at hp
  unfold commandLight; split <;> simp (maxDischargeDepth := 9) [h, hp]

@[simp] theorem commandRest_keeps (h : KeepsBut ps s₀ s)
    (hp : [.chip, .store, .wear, .composer] ⊆ ps) :
    KeepsBut ps s₀ (commandRest s) := by
  simp only [List.cons_subset, List.nil_subset, and_true] at hp
  unfold commandRest; split <;> simp (maxDischargeDepth := 9) [h, hp]

@[simp] theorem reportSync_keeps (h : KeepsBut ps s₀ s) (hp : [.chip, .composer] ⊆ ps) :
    KeepsBut ps s₀ (reportSync s) := by
  simp only [List.cons_subset, List.nil_subset, and_true] at hp
  unfold reportSync; repeat' split
  all_goals simp (maxDischargeDepth := 9) [h, hp]

@[simp] theorem sampleReported_keeps (h : KeepsBut ps s₀ s)
    (hp : [.chip, .driver, .composer] ⊆ ps) :
    KeepsBut ps s₀ (sampleReported s) := by
  simp only [List.cons_subset, List.nil_subset, and_true] at hp
  unfold sampleReported; split <;> simp (maxDischargeDepth := 9) [h, hp]

/-! ### The thermal estimator and the sensor bus -/

@[simp] theorem setRound_keeps (r : Option Round) (h : KeepsBut ps s₀ s) (hp : [.thermal] ⊆ ps) :
    KeepsBut ps s₀ (setRound r s) := by
  simp only [List.cons_subset, List.nil_subset, and_true] at hp
  simp (maxDischargeDepth := 9) [setRound, h, hp]

@[simp] theorem senseZones_keeps (h : KeepsBut ps s₀ s) (hp : [.thermal] ⊆ ps) :
    KeepsBut ps s₀ (senseZones s) := by
  simp only [List.cons_subset, List.nil_subset, and_true] at hp
  simp (maxDischargeDepth := 9) [senseZones, h, hp]

@[simp] theorem endStartRound_keeps (h : KeepsBut ps s₀ s) (hp : [.thermal, .chip] ⊆ ps) :
    KeepsBut ps s₀ (endStartRound s) := by
  simp only [List.cons_subset, List.nil_subset, and_true] at hp
  unfold endStartRound; split <;> simp (maxDischargeDepth := 9) [h, hp]

@[simp] theorem endSampleRound_keeps (h : KeepsBut ps s₀ s)
    (hp : [.thermal, .chip, .driver, .composer] ⊆ ps) :
    KeepsBut ps s₀ (endSampleRound s) := by
  simp only [List.cons_subset, List.nil_subset, and_true] at hp
  simp (maxDischargeDepth := 9) [endSampleRound, h, hp]

@[simp] theorem endRound_keeps (r : Round) (h : KeepsBut ps s₀ s)
    (hp : [.thermal, .chip, .driver, .composer] ⊆ ps) :
    KeepsBut ps s₀ (endRound r s) := by
  simp only [List.cons_subset, List.nil_subset, and_true] at hp
  unfold endRound; simp only; split <;> split <;> split <;> simp (maxDischargeDepth := 9) [h, hp]

@[simp] theorem tempCompletion_keeps (q : Nat) (h : KeepsBut ps s₀ s)
    (hp : [.thermal, .chip, .driver, .composer] ⊆ ps) :
    KeepsBut ps s₀ (tempCompletion q s) := by
  simp only [List.cons_subset, List.nil_subset, and_true] at hp
  unfold tempCompletion; dsimp only; repeat' split
  all_goals simp (maxDischargeDepth := 9) [h, hp]

@[simp] theorem deliverTo_keeps (r : SensorRequest) (c : Completion) (u : SensorUser) (h : KeepsBut ps s₀ s)
    (hp : [.thermal, .chip, .driver, .composer, .wear] ⊆ ps) :
    KeepsBut ps s₀ (deliverTo r c u s) := by
  simp only [List.cons_subset, List.nil_subset, and_true] at hp
  unfold deliverTo; split <;> simp (maxDischargeDepth := 9) [h, hp]

@[simp] theorem deliver_keeps (r : SensorRequest) (c : Completion) (us : List SensorUser) (h : KeepsBut ps s₀ s)
    (hp : [.thermal, .chip, .driver, .composer, .wear] ⊆ ps) :
    KeepsBut ps s₀ (deliver r c us s) := by
  simp only [List.cons_subset, List.nil_subset, and_true] at hp
  unfold deliver; induction us generalizing s with
  | nil => exact h
  | cons u us ih => exact ih (deliverTo_keeps r c u h (by simp [hp]))

@[simp] theorem startTransactions_keeps (n : Nat) (h : KeepsBut ps s₀ s)
    (hp : [.thermal, .chip, .driver, .composer, .wear, .sensors] ⊆ ps) :
    KeepsBut ps s₀ (startTransactions n s) := by
  simp only [List.cons_subset, List.nil_subset, and_true] at hp
  induction n generalizing s with
  | zero => exact h
  | succ n ih =>
    unfold startTransactions
    split
    · exact h
    · exact h
    · dsimp only
      split
      · exact ih (deliver_keeps _ _ _ (by simp (maxDischargeDepth := 9) [h, hp]) (by simp [hp]))
      · simp (maxDischargeDepth := 9) [h, hp]

@[simp] theorem startNext_keeps (h : KeepsBut ps s₀ s)
    (hp : [.thermal, .chip, .driver, .composer, .wear, .sensors] ⊆ ps) :
    KeepsBut ps s₀ (startNext s) := by
  simp only [List.cons_subset, List.nil_subset, and_true] at hp
  simp (maxDischargeDepth := 9) [startNext, h, hp]

@[simp] theorem endTransaction_keeps (t : Transaction) (c : Completion) (h : KeepsBut ps s₀ s)
    (hp : [.thermal, .chip, .driver, .composer, .wear, .sensors] ⊆ ps) :
    KeepsBut ps s₀ (endTransaction t c s) := by
  simp only [List.cons_subset, List.nil_subset, and_true] at hp
  simp (maxDischargeDepth := 9) [endTransaction, h, hp]

@[simp] theorem sensorResponse_keeps (f : SensorFrame) (h : KeepsBut ps s₀ s)
    (hp : [.thermal, .chip, .driver, .composer, .wear, .sensors] ⊆ ps) :
    KeepsBut ps s₀ (sensorResponse f s) := by
  simp only [List.cons_subset, List.nil_subset, and_true] at hp
  unfold sensorResponse; dsimp only; split
  · split
    · split <;> simp (maxDischargeDepth := 9) [h, hp]
    · simp (maxDischargeDepth := 9) [h, hp]
  · simp (maxDischargeDepth := 9) [h, hp]

@[simp] theorem sensorDeadline_keeps (h : KeepsBut ps s₀ s)
    (hp : [.thermal, .chip, .driver, .composer, .wear, .sensors] ⊆ ps) :
    KeepsBut ps s₀ (sensorDeadline s) := by
  simp only [List.cons_subset, List.nil_subset, and_true] at hp
  unfold sensorDeadline; split <;> simp (maxDischargeDepth := 9) [h, hp]

@[simp] theorem openRound_keeps (m : RoundMark) (h : KeepsBut ps s₀ s)
    (hp : [.thermal, .chip, .driver, .composer, .sensors] ⊆ ps) :
    KeepsBut ps s₀ (openRound m s) := by
  simp only [List.cons_subset, List.nil_subset, and_true] at hp
  unfold openRound; dsimp only; split
  · simp (maxDischargeDepth := 9) [h, hp]
  · have : ∀ (qs : List Nat) (s : State), KeepsBut ps s₀ s →
        KeepsBut ps s₀ (qs.foldl (fun s q => placeSensor (.temp q) .thermal s) s) := by
      intro qs
      induction qs with
      | nil => intro s h; exact h
      | cons q qs ih => intro s h; exact ih _ (placeSensor_keeps _ _ h (by simp [hp]))
    exact this _ _ (by simp (maxDischargeDepth := 9) [h, hp])

@[simp] theorem joinRound_keeps (m : RoundMark) (h : KeepsBut ps s₀ s)
    (hp : [.thermal, .chip, .driver, .composer, .sensors] ⊆ ps) :
    KeepsBut ps s₀ (joinRound m s) := by
  simp only [List.cons_subset, List.nil_subset, and_true] at hp
  unfold joinRound; split <;> simp (maxDischargeDepth := 9) [h, hp]

@[simp] theorem endThermal_keeps (t : LoadTake) (h : KeepsBut ps s₀ s)
    (hp : [.thermal, .wear, .composer] ⊆ ps) :
    KeepsBut ps s₀ (endThermal t s) := by
  simp only [List.cons_subset, List.nil_subset, and_true] at hp
  simp (maxDischargeDepth := 9) [endThermal, h, hp]

/-! ### The authority unit -/

@[simp] theorem putInForce_keeps (r : WallRecord) (h : KeepsBut ps s₀ s)
    (hp : [.authority, .composer] ⊆ ps) :
    KeepsBut ps s₀ (putInForce r s) := by
  simp only [List.cons_subset, List.nil_subset, and_true] at hp
  unfold putInForce; dsimp only; split <;> split <;> simp (maxDischargeDepth := 9) [h, hp]

@[simp] theorem adoptRecord_keeps (l : Link) (h : KeepsBut ps s₀ s)
    (hp : [.authority, .composer] ⊆ ps) :
    KeepsBut ps s₀ (adoptRecord l s) := by
  simp only [List.cons_subset, List.nil_subset, and_true] at hp
  unfold adoptRecord; split <;> simp (maxDischargeDepth := 9) [h, hp]

@[simp] theorem storeRecord_keeps (l : Link) (r : WallRecord) (h : KeepsBut ps s₀ s)
    (hp : [.linkA, .linkB, .authority, .composer] ⊆ ps) :
    KeepsBut ps s₀ (storeRecord l r s) := by
  simp only [List.cons_subset, List.nil_subset, and_true] at hp
  unfold storeRecord; dsimp only; split <;> simp (maxDischargeDepth := 9) [h, hp]

@[simp] theorem becomeStale_keeps (l : Link) (h : KeepsBut ps s₀ s)
    (hp : [.linkA, .linkB, .authority] ⊆ ps) :
    KeepsBut ps s₀ (becomeStale l s) := by
  simp only [List.cons_subset, List.nil_subset, and_true] at hp
  unfold becomeStale; dsimp only; split <;> simp (maxDischargeDepth := 9) [h, hp]

@[simp] theorem refresh_keeps (l : Link) (h : KeepsBut ps s₀ s) (hp : [.linkA, .linkB] ⊆ ps) :
    KeepsBut ps s₀ (refresh l s) := by
  simp only [List.cons_subset, List.nil_subset, and_true] at hp
  simp (maxDischargeDepth := 9) [refresh, h, hp]

@[simp] theorem moveAuthority_keeps (l : Link) (h : KeepsBut ps s₀ s)
    (hp : [.authority, .composer] ⊆ ps) :
    KeepsBut ps s₀ (moveAuthority l s) := by
  simp only [List.cons_subset, List.nil_subset, and_true] at hp
  simp (maxDischargeDepth := 9) [moveAuthority, h, hp]

@[simp] theorem enterHolding_keeps (h : KeepsBut ps s₀ s) (hp : [.authority] ⊆ ps) :
    KeepsBut ps s₀ (enterHolding s) := by
  simp only [List.cons_subset, List.nil_subset, and_true] at hp
  unfold enterHolding; split <;> simp (maxDischargeDepth := 9) [h, hp]

@[simp] theorem openFrame_keeps (h : KeepsBut ps s₀ s)
    (hp : [.authority, .composer, .render, .driver] ⊆ ps) :
    KeepsBut ps s₀ (openFrame s) := by
  simp only [List.cons_subset, List.nil_subset, and_true] at hp
  simp (maxDischargeDepth := 9) [openFrame, h, hp]

@[simp] theorem takeFrameHead_keeps (l : Link) (h : KeepsBut ps s₀ s)
    (hp : [.linkA, .linkB, .authority, .composer, .render, .driver] ⊆ ps) :
    KeepsBut ps s₀ (takeFrameHead l s) := by
  simp only [List.cons_subset, List.nil_subset, and_true] at hp
  unfold takeFrameHead; dsimp only; split
  · split
    · simp (maxDischargeDepth := 9) [h, hp]
    · split <;> simp (maxDischargeDepth := 9) [h, hp]
  · simp (maxDischargeDepth := 9) [h, hp]

@[simp] theorem takeRow_keeps (l : Link) (y : Nat) (p : List (Rgb Nat)) (h : KeepsBut ps s₀ s)
    (hp : [.linkA, .linkB, .render, .driver] ⊆ ps) :
    KeepsBut ps s₀ (takeRow l y p s) := by
  simp only [List.cons_subset, List.nil_subset, and_true] at hp
  unfold takeRow; split
  · split <;> simp (maxDischargeDepth := 9) [h, hp]
  · exact h

@[simp] theorem holdExpiry_keeps (l : Link) (h : KeepsBut ps s₀ s)
    (hp : [.authority, .composer] ⊆ ps) :
    KeepsBut ps s₀ (holdExpiry l s) := by
  simp only [List.cons_subset, List.nil_subset, and_true] at hp
  unfold holdExpiry; split
  · split <;> simp (maxDischargeDepth := 9) [h, hp]
  · exact h

@[simp] theorem linkStale_keeps (l : Link) (h : KeepsBut ps s₀ s)
    (hp : [.linkA, .linkB, .authority, .composer] ⊆ ps) :
    KeepsBut ps s₀ (linkStale l s) := by
  simp only [List.cons_subset, List.nil_subset, and_true] at hp
  simp (maxDischargeDepth := 9) [linkStale, h, hp]

@[simp] theorem authorityDown_keeps (l : Link) (h : KeepsBut ps s₀ s)
    (hp : [.linkA, .linkB, .authority, .composer] ⊆ ps) :
    KeepsBut ps s₀ (authorityDown l s) := by
  simp only [List.cons_subset, List.nil_subset, and_true] at hp
  unfold authorityDown; dsimp only; split
  · split <;> simp (maxDischargeDepth := 9) [h, hp]
  · simp (maxDischargeDepth := 9) [h, hp]

@[simp] theorem blank_keeps (h : KeepsBut ps s₀ s) (hp : [.authority] ⊆ ps) :
    KeepsBut ps s₀ (blank s) := by
  simp only [List.cons_subset, List.nil_subset, and_true] at hp
  simp (maxDischargeDepth := 9) [blank, h, hp]

@[simp] theorem applyHoldTime_keeps (v : Nat) (h : KeepsBut ps s₀ s)
    (hp : [.linkA, .linkB, .authority, .composer, .settings] ⊆ ps) :
    KeepsBut ps s₀ (applyHoldTime v s) := by
  simp only [List.cons_subset, List.nil_subset, and_true] at hp
  unfold applyHoldTime; dsimp only
  have h1 : KeepsBut ps s₀ (s.setSettings { s.settings with holdTime := v }) := by simp (maxDischargeDepth := 9) [h, hp]
  repeat' split
  all_goals simp (maxDischargeDepth := 9) [h1, hp]

@[simp] theorem applyBlankAfter_keeps (v : Nat) (h : KeepsBut ps s₀ s)
    (hp : [.authority, .settings] ⊆ ps) :
    KeepsBut ps s₀ (applyBlankAfter v s) := by
  simp only [List.cons_subset, List.nil_subset, and_true] at hp
  unfold applyBlankAfter; dsimp only; split <;> simp (maxDischargeDepth := 9) [h, hp]

/-! ### Reports and outgoing messages -/

@[simp] theorem send_keeps (l : Link) (m : Outgoing) (h : KeepsBut ps s₀ s)
    (hp : [.linkA, .linkB] ⊆ ps) :
    KeepsBut ps s₀ (send l m s) := by
  simp only [List.cons_subset, List.nil_subset, and_true] at hp
  simp (maxDischargeDepth := 9) [send, h, hp]

@[simp] theorem sendReport_keeps (l : Link) (b : List Byte) (h : KeepsBut ps s₀ s)
    (hp : [.linkA, .linkB] ⊆ ps) :
    KeepsBut ps s₀ (sendReport l b s) := by
  simp only [List.cons_subset, List.nil_subset, and_true] at hp
  unfold sendReport; split <;> simp (maxDischargeDepth := 9) [h, hp]

@[simp] theorem report_keeps (cs : List Cause) (h : KeepsBut ps s₀ s)
    (hp : [.linkA, .linkB, .authority, .render] ⊆ ps) :
    KeepsBut ps s₀ (report cs s) := by
  simp only [List.cons_subset, List.nil_subset, and_true] at hp
  unfold report; split <;> simp (maxDischargeDepth := 9) [h, hp]

/-! ### Settings, prompts, the service line -/

@[simp] theorem countDrop_keeps (n : Nat) (h : KeepsBut ps s₀ s) (hp : [.service] ⊆ ps) :
    KeepsBut ps s₀ (countDrop n s) := by
  simp only [List.cons_subset, List.nil_subset, and_true] at hp
  simp (maxDischargeDepth := 9) [countDrop, h, hp]

@[simp] theorem pushAnswer_keeps (a : ServiceAnswer) (h : KeepsBut ps s₀ s) (hp : [.service] ⊆ ps) :
    KeepsBut ps s₀ (pushAnswer a s) := by
  simp only [List.cons_subset, List.nil_subset, and_true] at hp
  simp (maxDischargeDepth := 9) [pushAnswer, h, hp]

@[simp] theorem answerLater_keeps (a : ServiceAnswer) (h : KeepsBut ps s₀ s)
    (hp : [.service] ⊆ ps) :
    KeepsBut ps s₀ (answerLater a s) := by
  simp only [List.cons_subset, List.nil_subset, and_true] at hp
  unfold answerLater; split <;> simp (maxDischargeDepth := 9) [h, hp]

@[simp] theorem placeTool_keeps (t : Byte) (p : ServiceProgram) (h : KeepsBut ps s₀ s)
    (hp : [.store, .service] ⊆ ps) :
    KeepsBut ps s₀ (placeTool t p s) := by
  simp only [List.cons_subset, List.nil_subset, and_true] at hp
  simp (maxDischargeDepth := 9) [placeTool, h, hp]

@[simp] theorem releaseHold_keeps (h : KeepsBut ps s₀ s) (hp : [.store, .service] ⊆ ps) :
    KeepsBut ps s₀ (releaseHold s) := by
  simp only [List.cons_subset, List.nil_subset, and_true] at hp
  unfold releaseHold; split
  · exact h
  · dsimp only; split
    · simp (maxDischargeDepth := 9) [h, hp]
    · split <;> simp (maxDischargeDepth := 9) [h, hp]

@[simp] theorem completeService_keeps (ok : Bool) (h : KeepsBut ps s₀ s)
    (hp : [.store, .service] ⊆ ps) :
    KeepsBut ps s₀ (completeService ok s) := by
  simp only [List.cons_subset, List.nil_subset, and_true] at hp
  unfold completeService; split
  · dsimp only; split <;> simp (maxDischargeDepth := 9) [h, hp]
  · exact h

@[simp] theorem setReceiving_keeps (r : Option (List Byte)) (h : KeepsBut ps s₀ s)
    (hp : [.service] ⊆ ps) :
    KeepsBut ps s₀ (setReceiving r s) := by
  simp only [List.cons_subset, List.nil_subset, and_true] at hp
  simp (maxDischargeDepth := 9) [setReceiving, h, hp]

@[simp] theorem countFraming_keeps (h : KeepsBut ps s₀ s) (hp : [.service] ⊆ ps) :
    KeepsBut ps s₀ (countFraming s) := by
  simp only [List.cons_subset, List.nil_subset, and_true] at hp
  simp (maxDischargeDepth := 9) [countFraming, h, hp]

@[simp] theorem discardFrame_keeps (h : KeepsBut ps s₀ s) (hp : [.service] ⊆ ps) :
    KeepsBut ps s₀ (discardFrame s) := by
  simp only [List.cons_subset, List.nil_subset, and_true] at hp
  simp (maxDischargeDepth := 9) [discardFrame, h, hp]

@[simp] theorem dueReset_keeps (c : WarmCause) (h : KeepsBut ps s₀ s) (hp : [.chip] ⊆ ps) :
    KeepsBut ps s₀ (dueReset c s) := by
  simp only [List.cons_subset, List.nil_subset, and_true] at hp
  simp (maxDischargeDepth := 9) [dueReset, h, hp]

@[simp] theorem returnToSync_keeps (h : KeepsBut ps s₀ s) (hp : [.service, .chip] ⊆ ps) :
    KeepsBut ps s₀ (returnToSync s) := by
  simp only [List.cons_subset, List.nil_subset, and_true] at hp
  unfold returnToSync; dsimp only; split <;> simp (maxDischargeDepth := 9) [h, hp]

@[simp] theorem serviceSent_keeps (h : KeepsBut ps s₀ s) (hp : [.service, .chip] ⊆ ps) :
    KeepsBut ps s₀ (serviceSent s) := by
  simp only [List.cons_subset, List.nil_subset, and_true] at hp
  unfold serviceSent; split
  · dsimp only; split <;> simp (maxDischargeDepth := 9) [h, hp]
  · exact h

/-! ### The link ports -/

@[simp] theorem setCounts_keeps (l : Link) (f : LinkCounts → LinkCounts) (h : KeepsBut ps s₀ s)
    (hp : [.linkA, .linkB] ⊆ ps) :
    KeepsBut ps s₀ (setCounts l f s) := by
  simp only [List.cons_subset, List.nil_subset, and_true] at hp
  simp (maxDischargeDepth := 9) [setCounts, h, hp]

@[simp] theorem setLinkState_keeps (l : Link) (x : LinkState) (h : KeepsBut ps s₀ s)
    (hp : [.linkA, .linkB] ⊆ ps) :
    KeepsBut ps s₀ (setLinkState l x s) := by
  simp only [List.cons_subset, List.nil_subset, and_true] at hp
  simp (maxDischargeDepth := 9) [setLinkState, h, hp]

@[simp] theorem offerCredits_keeps (l : Link) (h : KeepsBut ps s₀ s) (hp : [.linkA, .linkB] ⊆ ps) :
    KeepsBut ps s₀ (offerCredits l s) := by
  simp only [List.cons_subset, List.nil_subset, and_true] at hp
  simp (maxDischargeDepth := 9) [offerCredits, h, hp]

@[simp] theorem becomeReady_keeps (l : Link) (h : KeepsBut ps s₀ s) (hp : [.linkA, .linkB] ⊆ ps) :
    KeepsBut ps s₀ (becomeReady l s) := by
  simp only [List.cons_subset, List.nil_subset, and_true] at hp
  simp (maxDischargeDepth := 9) [becomeReady, h, hp]

@[simp] theorem requestHead_keeps (l : Link) (h : KeepsBut ps s₀ s)
    (hp : [.linkA, .linkB, .store] ⊆ ps) :
    KeepsBut ps s₀ (requestHead l s) := by
  simp only [List.cons_subset, List.nil_subset, and_true] at hp
  unfold requestHead; dsimp only; split <;> simp (maxDischargeDepth := 9) [h, hp]

@[simp] theorem answerBlock_keeps (l : Link) (t : Byte) (r : Result) (h : KeepsBut ps s₀ s)
    (hp : [.linkA, .linkB] ⊆ ps) :
    KeepsBut ps s₀ (answerBlock l t r s) := by
  simp only [List.cons_subset, List.nil_subset, and_true] at hp
  simp (maxDischargeDepth := 9) [answerBlock, h, hp]

@[simp] theorem admitBlock_keeps (l : Link) (t : Byte) (p : BlockProgram) (h : KeepsBut ps s₀ s)
    (hp : [.linkA, .linkB, .store] ⊆ ps) :
    KeepsBut ps s₀ (admitBlock l t p s) := by
  simp only [List.cons_subset, List.nil_subset, and_true] at hp
  simp (maxDischargeDepth := 9) [admitBlock, h, hp]

@[simp] theorem refuseBlock_keeps (l : Link) (t : Byte) (h : KeepsBut ps s₀ s)
    (hp : [.linkA, .linkB] ⊆ ps) :
    KeepsBut ps s₀ (refuseBlock l t s) := by
  simp only [List.cons_subset, List.nil_subset, and_true] at hp
  simp (maxDischargeDepth := 9) [refuseBlock, h, hp]

@[simp] theorem takeBlock_keeps (l : Link) (t : Byte) (b : List Byte) (h : KeepsBut ps s₀ s)
    (hp : [.linkA, .linkB, .store] ⊆ ps) :
    KeepsBut ps s₀ (takeBlock l t b s) := by
  simp only [List.cons_subset, List.nil_subset, and_true] at hp
  unfold takeBlock; split
  · simp (maxDischargeDepth := 9) [h, hp]
  · split
    · split <;> simp (maxDischargeDepth := 9) [h, hp]
    · simp (maxDischargeDepth := 9) [h, hp]

@[simp] theorem completeLink_keeps (l : Link) (ok : Bool) (h : KeepsBut ps s₀ s)
    (hp : [.linkA, .linkB, .store] ⊆ ps) :
    KeepsBut ps s₀ (completeLink l ok s) := by
  simp only [List.cons_subset, List.nil_subset, and_true] at hp
  unfold completeLink; dsimp only; split
  · simp (maxDischargeDepth := 9) [h, hp]
  · simp (maxDischargeDepth := 9) [h, hp]
  · split <;> simp (maxDischargeDepth := 9) [h, hp]
  · exact h

@[simp] theorem enqueuePrompt_keeps (l : Link) (k : Byte) (u : LinkUnit) (h : KeepsBut ps s₀ s)
    (hp : [.linkA, .linkB] ⊆ ps) :
    KeepsBut ps s₀ (enqueuePrompt l k u s) := by
  simp only [List.cons_subset, List.nil_subset, and_true] at hp
  unfold enqueuePrompt; dsimp only; split <;> simp (maxDischargeDepth := 9) [h, hp]

@[simp] theorem afterSent_keeps (l : Link) (m : Outgoing) (h : KeepsBut ps s₀ s)
    (hp : [.linkA, .linkB, .chip] ⊆ ps) :
    KeepsBut ps s₀ (afterSent l m s) := by
  simp only [List.cons_subset, List.nil_subset, and_true] at hp
  unfold afterSent; split <;> simp (maxDischargeDepth := 9) [h, hp]

@[simp] theorem linkSent_keeps (l : Link) (h : KeepsBut ps s₀ s)
    (hp : [.linkA, .linkB, .chip] ⊆ ps) :
    KeepsBut ps s₀ (linkSent l s) := by
  simp only [List.cons_subset, List.nil_subset, and_true] at hp
  unfold linkSent; split <;> simp (maxDischargeDepth := 9) [h, hp]

@[simp] theorem countCheckFailure_keeps (l : Link) (h : KeepsBut ps s₀ s)
    (hp : [.linkA, .linkB] ⊆ ps) :
    KeepsBut ps s₀ (countCheckFailure l s) := by
  simp only [List.cons_subset, List.nil_subset, and_true] at hp
  simp (maxDischargeDepth := 9) [countCheckFailure, h, hp]

@[simp] theorem countNotReady_keeps (l : Link) (h : KeepsBut ps s₀ s) (hp : [.linkA, .linkB] ⊆ ps) :
    KeepsBut ps s₀ (countNotReady l s) := by
  simp only [List.cons_subset, List.nil_subset, and_true] at hp
  simp (maxDischargeDepth := 9) [countNotReady, h, hp]

end Frames

end Sys2Proof.Machine
end

