-- ==== Sys2Proof/Laws/Ops.lean ====
section
/-! SUPPORT. What the operations over tables, colour triples, zone lists, counters and bytes do. -/

namespace Sys2Proof.Machine

/-! ## Sparse tables: what is read, and the canonical form -/

section Tables

variable {α : Type} (d : α)

@[simp] theorem Table.get_nil (i : Nat) : Table.get d [] i = d := rfl

theorem Table.get_cons (k : Nat) (w : α) (t : Table α) (i : Nat) :
    Table.get d ((k, w) :: t) i = if k = i then w else Table.get d t i := rfl

variable [DecidableEq α]

/-- A larger bound from below weakens nothing that stands above it. -/
theorem Table.wfFrom_mono {t : Table α} {lo lo' : Nat} (h : Table.wfFrom d lo t = true)
    (hl : lo' ≤ lo) : Table.wfFrom d lo' t = true := by
  cases t with
  | nil => rfl
  | cons e t =>
    simp only [Table.wfFrom, Bool.and_eq_true, decide_eq_true_eq] at h ⊢
    exact ⟨⟨hl.trans h.1.1, h.1.2⟩, h.2⟩

/-- An index below every entry reads as the default. -/
theorem Table.get_of_wfFrom {t : Table α} {lo : Nat} (h : Table.wfFrom d lo t = true) {i : Nat}
    (hi : i < lo) : Table.get d t i = d := by
  induction t generalizing lo with
  | nil => rfl
  | cons e t ih =>
    simp only [Table.wfFrom, Bool.and_eq_true, decide_eq_true_eq] at h
    rw [Table.get, if_neg (by omega)]
    exact ih h.2 (by omega)

/-- A write keeps the canonical form. -/
theorem Table.wfFrom_put {t : Table α} {lo : Nat} (h : Table.wfFrom d lo t = true) {i : Nat}
    (hi : lo ≤ i) (v : α) : Table.wfFrom d lo (Table.put d t i v) = true := by
  induction t generalizing lo with
  | nil =>
    by_cases hv : v = d <;> simp [Table.put, hv, Table.wfFrom, hi]
  | cons e t ih =>
    obtain ⟨k, w⟩ := e
    have h' := h
    simp only [Table.wfFrom, Bool.and_eq_true, decide_eq_true_eq, Bool.not_eq_true',
      decide_eq_false_iff_not] at h
    obtain ⟨⟨hk, hw⟩, ht⟩ := h
    unfold Table.put
    split_ifs with h1 h2 h3 h4
    · exact h'
    · simp only [Table.wfFrom, Bool.and_eq_true, decide_eq_true_eq, Bool.not_eq_true',
        decide_eq_false_iff_not]
      exact ⟨⟨hi, h2⟩, ⟨⟨by omega, hw⟩, ht⟩⟩
    · exact Table.wfFrom_mono d ht (by omega)
    · simp only [Table.wfFrom, Bool.and_eq_true, decide_eq_true_eq, Bool.not_eq_true',
        decide_eq_false_iff_not]
      exact ⟨⟨hi, h4⟩, h3 ▸ ht⟩
    · simp only [Table.wfFrom, Bool.and_eq_true, decide_eq_true_eq, Bool.not_eq_true',
        decide_eq_false_iff_not]
      exact ⟨⟨hk, hw⟩, ih ht (by omega)⟩

theorem Table.wf_put {t : Table α} (h : Table.wf d t = true) (i : Nat) (v : α) :
    Table.wf d (Table.put d t i v) = true := Table.wfFrom_put d h (Nat.zero_le i) v

theorem Table.wf_putAll {t : Table α} (h : Table.wf d t = true) (es : List (Nat × α)) :
    Table.wf d (Table.putAll d t es) = true := by
  induction es generalizing t with
  | nil => exact h
  | cons e es ih => exact ih (Table.wf_put d h e.1 e.2)

theorem Table.wfFrom_filter {t : Table α} {lo : Nat} (h : Table.wfFrom d lo t = true)
    (p : Nat × α → Bool) : Table.wfFrom d lo (t.filter p) = true := by
  induction t generalizing lo with
  | nil => rfl
  | cons e t ih =>
    have h' := h
    simp only [Table.wfFrom, Bool.and_eq_true, decide_eq_true_eq] at h
    rw [List.filter_cons]
    split_ifs
    · simp only [Table.wfFrom, Bool.and_eq_true, decide_eq_true_eq]
      exact ⟨h.1, ih h.2⟩
    · exact Table.wfFrom_mono d (ih h.2) (by omega)

theorem Table.wf_filter {t : Table α} (h : Table.wf d t = true) (p : Nat × α → Bool) :
    Table.wf d (t.filter p) = true := Table.wfFrom_filter d h p

/-- Reading back the index that was written. -/
theorem Table.get_put_same {t : Table α} {lo : Nat} (h : Table.wfFrom d lo t = true) (i : Nat)
    (v : α) : Table.get d (Table.put d t i v) i = v := by
  induction t generalizing lo with
  | nil =>
    by_cases hv : v = d <;> simp [Table.put, hv, Table.get]
  | cons e t ih =>
    obtain ⟨k, w⟩ := e
    simp only [Table.wfFrom, Bool.and_eq_true, decide_eq_true_eq] at h
    unfold Table.put
    split_ifs with h1 h2 h3 h4
    · rw [Table.get, if_neg (by omega), h2]
      exact Table.get_of_wfFrom d h.2 (by omega)
    · simp [Table.get]
    · rw [h4]; exact Table.get_of_wfFrom d h.2 (by omega)
    · simp [Table.get]
    · rw [Table.get, if_neg (by omega)]
      exact ih h.2

/-- Reading back a value that is not the default, whatever the table's form. -/
theorem Table.get_put_of_ne (t : Table α) (i : Nat) {v : α} (hv : v ≠ d) :
    Table.get d (Table.put d t i v) i = v := by
  induction t with
  | nil => simp [Table.put, hv, Table.get]
  | cons e t ih =>
    obtain ⟨k, w⟩ := e
    unfold Table.put
    split_ifs with h1 h2
    · simp [Table.get]
    · simp [Table.get]
    · rw [Table.get, if_neg (fun h => h2 h.symm)]
      exact ih

/-- Every other index reads as before. -/
theorem Table.get_put_other (t : Table α) {i j : Nat} (hj : j ≠ i) (v : α) :
    Table.get d (Table.put d t i v) j = Table.get d t j := by
  induction t with
  | nil =>
    by_cases hv : v = d <;> simp [Table.put, hv, Table.get, hj.symm]
  | cons e t ih =>
    obtain ⟨k, w⟩ := e
    unfold Table.put
    split_ifs with h1 h2 h3 h4
    · rfl
    · rw [Table.get, if_neg hj.symm]
    · subst h3; rw [Table.get, if_neg hj.symm]
    · subst h3; rw [Table.get, if_neg hj.symm, Table.get, if_neg hj.symm]
    · rw [Table.get, Table.get, ih]

/-- What stands in a table after a write stood in it before, or was written. -/
theorem Table.mem_put {t : Table α} {i : Nat} {v : α} {e : Nat × α}
    (h : e ∈ Table.put d t i v) : e ∈ t ∨ e = (i, v) := by
  induction t with
  | nil =>
    unfold Table.put at h
    split_ifs at h <;> simp_all
  | cons a t ih =>
    obtain ⟨k, w⟩ := a
    unfold Table.put at h
    split_ifs at h with h1 h2 h3 h4
    · exact .inl h
    · rcases List.mem_cons.mp h with h | h
      · exact .inr h
      · exact .inl h
    · exact .inl (List.mem_cons_of_mem _ h)
    · rcases List.mem_cons.mp h with h | h
      · exact .inr h
      · exact .inl (List.mem_cons_of_mem _ h)
    · rcases List.mem_cons.mp h with h | h
      · exact .inl (h ▸ List.mem_cons_self)
      · exact (ih h).imp_left (List.mem_cons_of_mem _)

end Tables

/-! ## Colour triples and zone lists -/

section Triples

variable {α β γ : Type}

@[simp] theorem Rgb.get_set_same (t : Rgb α) (e : Emitter) (v : α) :
    Rgb.get (Rgb.set t e v) e = v := by cases e <;> rfl

theorem Rgb.get_set_other (t : Rgb α) {e f : Emitter} (h : f ≠ e) (v : α) :
    Rgb.get (Rgb.set t e v) f = Rgb.get t f := by
  cases e <;> cases f <;> first | exact absurd rfl h | rfl

@[simp] theorem Rgb.get_map (f : α → β) (t : Rgb α) (e : Emitter) :
    Rgb.get (Rgb.map f t) e = f (Rgb.get t e) := by cases e <;> rfl

@[simp] theorem Rgb.get_zip (f : α → β → γ) (t : Rgb α) (u : Rgb β) (e : Emitter) :
    Rgb.get (Rgb.zip f t u) e = f (Rgb.get t e) (Rgb.get u e) := by cases e <;> rfl

@[simp] theorem Rgb.get_zero (e : Emitter) : Rgb.get Rgb.zero e = 0 := by cases e <;> rfl

/-- Two triples that agree on every emitter are one. -/
theorem Rgb.eq_of_get {t u : Rgb α} (h : ∀ e, Rgb.get t e = Rgb.get u e) : t = u := by
  cases t; cases u
  have hr := h .r; have hg := h .g; have hb := h .b
  simp only [Rgb.get] at hr hg hb
  simp [hr, hg, hb]

@[simp] theorem length_setAt (l : List α) (i : Nat) (f : α → α) :
    (setAt l i f).length = l.length := List.length_modify ..

theorem getElem?_setAt_same (l : List α) (i : Nat) (f : α → α) :
    (setAt l i f)[i]? = l[i]?.map f := by simp [setAt]

theorem getElem?_setAt_other (l : List α) {i j : Nat} (h : j ≠ i) (f : α → α) :
    (setAt l i f)[j]? = l[j]? := by simp [setAt, h.symm]

end Triples

/-! ## Bounds and counters -/

theorem clampInt_mem {lo hi : Int} (h : lo ≤ hi) (v : Int) :
    lo ≤ clampInt lo hi v ∧ clampInt lo hi v ≤ hi := by
  unfold clampInt; omega

theorem clampInt_of_mem {lo hi v : Int} (h1 : lo ≤ v) (h2 : v ≤ hi) : clampInt lo hi v = v := by
  unfold clampInt; omega

theorem clampInt_eq_ite {lo hi : Int} (h : lo ≤ hi) (v : Int) :
    clampInt lo hi v = if v < lo then lo else if hi < v then hi else v := by
  unfold clampInt; split_ifs <;> omega

theorem satAdd_le (bound n k : Nat) : satAdd bound n k ≤ bound := Nat.min_le_left ..

theorem le_satAdd {bound n : Nat} (h : n ≤ bound) (k : Nat) : n ≤ satAdd bound n k := by
  unfold satAdd; omega

theorem inc16_eq (n : Nat) : inc16 n = min 65535 (n + 1) := rfl

theorem inc32_eq (n : Nat) : inc32 n = min 4294967295 (n + 1) := rfl

theorem wrap16_lt (n : Nat) : wrap16 n < 65536 := Nat.mod_lt _ (by decide)

/-! ## Bytes: what is put is read back -/

@[simp] theorem length_leBytes (n v : Nat) : (leBytes n v).length = n := by simp [leBytes]

theorem leBytes_succ (n v : Nat) :
    leBytes (n + 1) v = BitVec.ofNat 8 v :: leBytes n (v / 256) := by
  unfold leBytes
  rw [List.range_succ_eq_map, List.map_cons, List.map_map]
  refine congrArg₂ _ (by simp) (List.map_congr_left fun i _ => ?_)
  simp only [Function.comp_apply]
  rw [Nat.pow_succ', ← Nat.div_div_eq_div_mul]

theorem leNat_leBytes (n v : Nat) : leNat (leBytes n v) = v % 256 ^ n := by
  induction n generalizing v with
  | zero => simp [leBytes, leNat, Nat.mod_one]
  | succ n ih =>
    rw [leBytes_succ, leNat, ih, BitVec.toNat_ofNat,
      show 256 ^ (n + 1) = 256 * 256 ^ n from Nat.pow_succ']
    exact (Nat.mod_mul (x := v) (a := 256) (b := 256 ^ n)).symm

theorem leNat_lt (bs : List Byte) : leNat bs < 256 ^ bs.length := by
  induction bs with
  | nil => simp [leNat]
  | cons b bs ih =>
    have hb := b.isLt
    rw [leNat, List.length_cons, Nat.pow_succ']
    omega

theorem leInt_leSigned {n : Nat} {v : Int} (h1 : -(256 ^ n : Nat) ≤ 2 * v)
    (h2 : 2 * v < (256 ^ n : Nat)) : leInt (leSigned n v) = v := by
  have hp : (0 : Int) < ((256 ^ n : Nat) : Int) := by positivity
  have hc : ((256 : Int) ^ n) = ((256 ^ n : Nat) : Int) := by push_cast; rfl
  have h0 : 0 ≤ v % (256 : Int) ^ n := Int.emod_nonneg _ (by rw [hc]; omega)
  have hl : v % (256 : Int) ^ n < ((256 ^ n : Nat) : Int) := by
    rw [hc]; exact Int.emod_lt_of_pos _ hp
  have ht : ((v % (256 : Int) ^ n).toNat : Int) = v % (256 : Int) ^ n := Int.toNat_of_nonneg h0
  have hm : (v % (256 : Int) ^ n).toNat % 256 ^ n = (v % (256 : Int) ^ n).toNat :=
    Nat.mod_eq_of_lt (by omega)
  unfold leInt leSigned
  simp only [leNat_leBytes, length_leBytes, hm]
  rw [hc] at ht ⊢
  by_cases hv : 0 ≤ v
  · have he : v % ((256 ^ n : Nat) : Int) = v := Int.emod_eq_of_lt hv (by omega)
    rw [he] at ht ⊢
    split_ifs <;> omega
  · have he : v % ((256 ^ n : Nat) : Int) = v + ((256 ^ n : Nat) : Int) := by
      rw [← Int.add_emod_right]; exact Int.emod_eq_of_lt (by omega) (by omega)
    rw [he] at ht ⊢
    split_ifs <;> omega

end Sys2Proof.Machine
end

