-- ==== Sys2Proof/Laws/Settle.lean ====
section
/-! SUPPORT. What follows inside a step: when a part of settling changes nothing, what each of them
does, the reports of a step, and the step itself. -/

namespace Sys2Proof.Machine

/-- The tables of the reset state have the canonical form. -/
theorem reset_tables_wf :
    Table.wf zeroMatrix State.reset.render.table = true ∧
      Table.wf [] State.reset.driver.rows = true ∧
      Table.wf erasedBlock State.reset.store.slots = true := ⟨rfl, rfl, rfl⟩

/-! ## The step -/

theorem step_cons {s : State} {c : Instr} {rest : List Instr} (h : s.pending = c :: rest) :
    step s = exec c (s.setPending rest) := by unfold step; rw [h]

theorem step_nil {s : State} (h : s.pending = []) : step s = .next (idleSecond s) := by
  unfold step; rw [h]

theorem Leads.intro {c : Instr} {s t : State} {P : State → Prop} (h : exec c s = .next t)
    (hp : P t) : Leads c s P := ⟨t, h, hp⟩

theorem Leads.mono {c : Instr} {s : State} {P Q : State → Prop} (h : Leads c s P)
    (hpq : ∀ t, P t → Q t) : Leads c s Q := by
  obtain ⟨t, ht, hp⟩ := h
  exact ⟨t, ht, hpq t hp⟩

/-! ## The composer -/

theorem settleComposer_of_busy {s : State} (h : Busy s) : settleComposer s = s := by
  obtain ⟨-, h | ⟨⟨level, work⟩, hr, hw⟩⟩ := h
  · simp [settleComposer, h]
  · unfold settleComposer
    split_ifs
    · rfl
    · rw [hr]
      cases work with
      | gain i => rfl
      | thermal i => rfl
      | build => rfl
      | scrub left point =>
        cases point with
        | true => exact absurd rfl (hw left)
        | false => rfl

theorem takeDeferred_of_none {s : State} (h : s.composer.deferred = none) :
    takeDeferred s = s := by unfold takeDeferred; rw [h]; split_ifs <;> rfl

/-- Being busy is a matter of the composer, the power state and the phase. -/
theorem Busy.congr {s t : State} (h : Busy s) (hc : t.composer = s.composer)
    (hp : t.chip.power = s.chip.power) (hf : t.chip.phase = s.chip.phase) : Busy t := by
  unfold Busy State.composerStopped State.started at *
  rw [hc, hp, hf]
  exact h

/-! ## The banks (R15, R17) -/

theorem primed_eq_bankAfter (p : PowerState) (b : Bank) :
    b.primed (darkHeld p b) = bankAfter p b := by
  unfold Bank.primed bankAfter darkHeld
  cases b.policy <;> cases p <;> cases b.mode <;> simp

theorem Table.get_filter {α : Type} (d : α) (f : Nat → Bool) (y : Nat) (t : Table α) :
    Table.get d (t.filter fun e => f e.1) y = if f y = true then Table.get d t y else d := by
  induction t with
  | nil => simp [Table.get]
  | cons e t ih =>
    obtain ⟨k, v⟩ := e
    by_cases hk : k = y
    · subst hk
      by_cases hf : f k = true
      · simp [hf, Table.get]
      · rw [List.filter_cons_of_neg (by simpa using hf), ih]
        simp [hf]
    · by_cases hf : f k = true <;> simp [hf, Table.get, hk, ih]

/-- What settling the banks does. -/
theorem banksFollow_settleBanks (s : State) : BanksFollow s (settleBanks s) := by
  refine ⟨?_, fun y => ?_, rfl⟩
  · show s.driver.banks.map _ = s.driver.banks.map _
    exact List.map_congr_left fun b _ => primed_eq_bankAfter _ b
  · refine (Table.get_filter [] (fun k => (primeBanks s).carries (bankOf k) == .rows) y
      s.driver.rows).trans ?_
    have hc : (settleBanks s).carries (bankOf y) = (primeBanks s).carries (bankOf y) := rfl
    rw [hc]
    simp

/-! ## The render engine -/

theorem settleRender_of_rendering {s : State} (h : s.isRendering = true) :
    settleRender s = s := by simp [settleRender, h]

theorem moveIntoForce_of_nothing {s : State} (h : ∀ z, s.composer.staging ≠ .staged z)
    (hg : s.render.pendingGain = none) : moveIntoForce s = s := by
  have hc : commitStaged s = s := by
    unfold commitStaged
    split
    · exact absurd ‹_› (h _)
    · rfl
    · rfl
  unfold moveIntoForce applyPendingGain
  rw [hc, hg]

theorem settleRender_of_nothing {s : State}
    (h : s.isRendering = true ∨
      (∀ z, s.composer.staging ≠ .staged z) ∧ s.render.pendingGain = none) :
    settleRender s = s := by
  rcases h with h | ⟨h, hg⟩
  · exact settleRender_of_rendering h
  · unfold settleRender
    split_ifs
    · rfl
    · exact moveIntoForce_of_nothing h hg

/-- A commit changes only the render engine and the composer's staging and park. -/
theorem commitStaged_pendingGain (s : State) :
    (commitStaged s).render.pendingGain = s.render.pendingGain := by
  unfold commitStaged; split <;> simp

theorem commitStaged_applied (s : State) :
    (commitStaged s).render.applied = s.render.applied := by
  unfold commitStaged; split <;> simp

theorem commitStaged_staging (s : State) (z : StagedZone) :
    (commitStaged s).composer.staging ≠ .staged z := by
  unfold commitStaged
  split
  · simp
  · rename_i h; simp [h]
  · rename_i h; simp [h]

/-- After a move into force nothing waits to move. -/
theorem moveIntoForce_nothing (s : State) :
    (∀ z, (moveIntoForce s).composer.staging ≠ .staged z) ∧
      (moveIntoForce s).render.pendingGain = none ∧
      (moveIntoForce s).render.applied = s.render.pendingGain.getD s.render.applied := by
  have hp := commitStaged_pendingGain s
  have ha := commitStaged_applied s
  have hs := commitStaged_staging s
  unfold moveIntoForce applyPendingGain
  rw [hp]
  split
  · rename_i g hg
    simpa [hg] using hs
  · rename_i hg
    simp only [hg, Option.getD_none]
    exact ⟨hs, hp.trans hg, ha⟩

/-! ## The store's arbiter -/

theorem settleStore_of_taken {s : State} (h : s.store.port ≠ .free) : settleStore s = s := by
  simp [settleStore, h]

theorem settleStore_of_no_winner {s : State} (h : s.winningPhase = none) :
    settleStore s = s := by unfold settleStore; rw [h]; split_ifs <;> rfl

theorem settleStore_of_steady {s : State}
    (h : s.store.port ≠ .free ∨ s.winningPhase = none) : settleStore s = s := by
  rcases h with h | h
  · exact settleStore_of_taken h
  · exact settleStore_of_no_winner h

theorem Waiting.has_none (r : Requester) : Waiting.none.has r = false := by cases r <;> rfl

theorem winningPhase_of_nothing {s : State} (h : s.store.waiting = Waiting.none) :
    s.winningPhase = none := by
  unfold State.winningPhase
  rw [List.find?_eq_none]
  intro p _
  simp [State.eligible, h, Waiting.has_none]

/-- The winner of a scan has a request waiting. -/
theorem eligible_of_winningPhase {s : State} {p : Nat} (h : s.winningPhase = some p) :
    s.eligible (s.store.phaseTable.getD p .composer) = true ∧ p < 16 := by
  unfold State.winningPhase at h
  refine ⟨by simpa using List.find?_some h, ?_⟩
  obtain ⟨i, -, rfl⟩ := List.mem_map.mp (List.mem_of_find?_eq_some h)
  exact Nat.mod_lt _ (by decide)

/-- Where one requester alone waits and a phase names it, the scan finds it. -/
theorem winningPhase_of_only {s : State} {r : Requester} (hl : s.store.phaseTable.length = 16)
    (hm : r ∈ s.store.phaseTable) (he : s.eligible r = true)
    (ho : ∀ q, q ≠ r → s.eligible q = false) :
    ∃ p, s.winningPhase = some p ∧ s.store.phaseTable.getD p .composer = r := by
  obtain ⟨k, hk, rfl⟩ := List.getElem_of_mem hm
  rw [hl] at hk
  cases hw : s.winningPhase with
  | some p =>
    refine ⟨p, rfl, ?_⟩
    by_contra hne
    have := (eligible_of_winningPhase hw).1
    rw [ho _ hne] at this
    exact Bool.noConfusion this
  | none =>
    exfalso
    unfold State.winningPhase at hw
    rw [List.find?_eq_none] at hw
    refine hw k ?_ ?_
    · refine List.mem_map.mpr ⟨(k + 16 - s.store.phasePointer % 16) % 16, ?_, ?_⟩
      · exact List.mem_range.mpr (Nat.mod_lt _ (by decide))
      · omega
    · have hd : s.store.phaseTable.getD k .composer = s.store.phaseTable[k] := by
        rw [List.getD_eq_getElem?_getD, List.getElem?_eq_getElem (by omega), Option.getD_some]
      rw [hd]
      exact he

/-- The model's test of a request for the scan is the rule's. -/
theorem State.eligible_iff (s : State) (r : Requester) : s.eligible r = true ↔ Seeks s r := by
  cases r <;> simp [State.eligible, Waiting.has, Seeks, Option.isSome_iff_ne_none]

/-- Where no request takes part in the scan, there is no winner. -/
theorem winningPhase_of_no_seeks {s : State} (h : ∀ r, ¬Seeks s r) : s.winningPhase = none := by
  unfold State.winningPhase
  rw [List.find?_eq_none]
  exact fun p _ he => h _ ((s.eligible_iff _).mp he)

theorem settleStore_of_no_seeks {s : State} (h : s.store.port ≠ .free ∨ ∀ r, ¬Seeks s r) :
    settleStore s = s :=
  settleStore_of_steady (h.imp_right winningPhase_of_no_seeks)

/-! ## Reports -/

/-- A step that changes neither authority nor output nor power gives no trigger of its own. -/
theorem conclude_of_no_trigger {s t : State} (hh : s.authority.holder = t.authority.holder)
    (ho : s.authority.output = t.authority.output) (hp : s.chip.power = t.chip.power)
    (hf : s.chip.phase = t.chip.phase) : conclude [] s t = t := by
  simp [conclude, causesOf, hh, ho, hp, hf]

/-- No report where no link is READY. -/
theorem report_of_none_ready {s : State} (ha : s.linkA.state ≠ .ready)
    (hb : s.linkB.state ≠ .ready) (cs : List Cause) : report cs s = s := by
  simp [report, ha, hb]

/-- What a report changes: its count, the last capacity sent, the limited counts and the send
queues of the READY links. -/
theorem report_of_ready {s : State} (h : s.linkA.state = .ready ∨ s.linkB.state = .ready)
    (cs : List Cause) :
    (report cs s).authority =
        { s.authority with
          reports := wrap16 s.authority.reports, lastSent := some s.gain.tileCapacity } ∧
      (report cs s).render = { s.render with limited := List.replicate 16 0 } ∧
      ∀ l, (report cs s).link l =
        { s.link l with
          sends := (s.link l).sends ++
            (if (s.link l).state = .ready then
              [.report (s.reportBody (wrap16 s.authority.reports) cs)] else []) } := by
  refine ⟨?_, ?_, fun l => ?_⟩ <;>
    by_cases ha : s.linkA.state = .ready <;> by_cases hb : s.linkB.state = .ready <;>
    simp_all [report, sendReport, send, clearLimited, State.link, State.setLink,
      State.setAuthority, State.setRender] <;>
    (cases l <;> simp_all)

/-- The parts a report does not write. -/
theorem report_keepsBut (cs : List Cause) (s : State) :
    KeepsBut [.authority, .render, .linkA, .linkB] s (report cs s) :=
  report_keeps cs (KeepsBut.refl _ s) (by simp)

/-- The end of a step is the report of its causes. -/
theorem reported_conclude (extra : List Cause) (s d : State) :
    Reported (causesOf extra s d) d (conclude extra s d) := by
  unfold Reported conclude
  by_cases ht : d.started = true ∧ causesOf extra s d ≠ []
  · by_cases hr : d.linkA.state = .ready ∨ d.linkB.state = .ready
    · rw [if_pos ⟨ht.1, ht.2, hr⟩]
      obtain ⟨ha, hn, hl⟩ := report_of_ready hr (causesOf extra s d)
      simp only [if_pos ht]
      refine ⟨ha, hn, fun l => (hl l).trans ?_, report_keepsBut _ d⟩
      split_ifs <;> simp [wrap16]
    · rw [if_neg (fun h => hr h.2.2)]
      simp only [if_pos ht]
      exact report_of_none_ready (fun h => hr (.inl h)) (fun h => hr (.inr h)) _
  · rw [if_neg (fun h => ht ⟨h.1, h.2.1⟩)]
    simp only [if_neg ht]

/-- A command whose step ends in a report of causes `cs`. -/
theorem LeadsReporting.intro {c : Instr} {s d : State} {extra cs : List Cause} {P : State → Prop}
    (h : exec c s = .next (conclude extra s d)) (hc : causesOf extra s d = cs) (hp : P d) :
    LeadsReporting c s cs P := ⟨d, _, h, hp, hc ▸ reported_conclude extra s d⟩

end Sys2Proof.Machine
end

