-- ==== Sys2Proof/Laws/Decisions.lean ====
section
/-! SUPPORT. What follows inside a step: which kind the composer chooses, what a start and a
decision do, the arbiter's scan, the data of a block read; and that `settle` does what `Settles`
says. -/

namespace Sys2Proof.Machine

/-! ## The kind chosen (R113) -/

theorem Composer.isPending_iff (c : Composer) (k : JobKind) :
    c.isPending k = true ↔ Wanted c k := by
  cases k <;> simp [Composer.isPending, Composer.buildPending, Wanted, and_assoc]

theorem Composer.startable_iff (c : Composer) (k : JobKind) :
    c.startable k = true ↔ Wanted c k ∧ c.levels.of k ≤ 2 := by
  rw [Composer.startable, Bool.and_eq_true, Composer.isPending_iff, decide_eq_true_eq]

theorem Chosen.unique {c : Composer} {j k : JobKind} (hj : Chosen c j) (hk : Chosen c k) :
    j = k := by
  have h1 := hj.2.2 k hk.1 hk.2.1
  have h2 := hk.2.2 j hj.1 hj.2.1
  have hc : JobKind.code j = JobKind.code k := by omega
  cases j <;> cases k <;> first | rfl | exact absurd hc (by decide)

/-- No kind is chosen where none is startable. -/
theorem NoneChosen.not_chosen {c : Composer} (h : NoneChosen c) (k : JobKind) : ¬Chosen c k :=
  fun hk => absurd (h k hk.1) (by have := hk.2.1; omega)

/-- The search over kinds in the order of their codes, from a best one on: what it finds has the
highest level, and of those the lowest code. -/
theorem foldl_best (c : Composer) : ∀ (l : List JobKind) (b : JobKind),
    (∀ x ∈ l, JobKind.code b ≤ JobKind.code x) →
    l.Pairwise (fun x y => JobKind.code x ≤ JobKind.code y) →
    ∃ r ∈ b :: l,
      l.foldl
        (fun best k =>
          match best with
          | none => some k
          | some b => if c.levels.of b < c.levels.of k then some k else some b) (some b) =
        some r ∧
      ∀ x ∈ b :: l,
        c.levels.of x < c.levels.of r ∨
          c.levels.of x = c.levels.of r ∧ JobKind.code r ≤ JobKind.code x
  | [], b, _, _ => ⟨b, List.mem_cons_self, rfl, fun x hx => .inr (by simp_all)⟩
  | k :: t, b, hb, hp => by
    obtain ⟨hk, ht⟩ := List.pairwise_cons.mp hp
    have hbk := hb k List.mem_cons_self
    simp only [List.foldl]
    by_cases hlt : c.levels.of b < c.levels.of k
    · obtain ⟨r, hr, he, hm⟩ := foldl_best c t k hk ht
      rw [if_pos hlt]
      refine ⟨r, List.mem_cons_of_mem _ hr, he, fun x hx => ?_⟩
      rcases List.mem_cons.mp hx with rfl | hx
      · have := hm k List.mem_cons_self
        omega
      · exact hm x hx
    · obtain ⟨r, hr, he, hm⟩ :=
        foldl_best c t b (fun x hx => hb x (List.mem_cons_of_mem _ hx)) ht
      rw [if_neg hlt]
      have hbr := hm b List.mem_cons_self
      refine ⟨r, ?_, he, fun x hx => ?_⟩
      · rcases List.mem_cons.mp hr with rfl | hr
        · exact List.mem_cons_self
        · exact List.mem_cons_of_mem _ (List.mem_cons_of_mem _ hr)
      · rcases List.mem_cons.mp hx with rfl | hx
        · exact hbr
        · rcases List.mem_cons.mp hx with rfl | hx
          · omega
          · exact hm x (List.mem_cons_of_mem _ hx)

theorem mem_tieOrder (k : JobKind) : k ∈ tieOrder := by cases k <;> decide

/-- What the search for a kind finds. -/
theorem Composer.chosen_spec (c : Composer) :
    (∃ k, c.chosen = some k ∧ Chosen c k) ∨ c.chosen = none ∧ NoneChosen c := by
  have hm : ∀ k, k ∈ tieOrder.filter c.startable ↔ Wanted c k ∧ c.levels.of k ≤ 2 := fun k => by
    rw [List.mem_filter, ← c.startable_iff]
    exact and_iff_right (mem_tieOrder k)
  have hp : (tieOrder.filter c.startable).Pairwise
      (fun x y => JobKind.code x ≤ JobKind.code y) :=
    List.Pairwise.filter _ (by decide)
  unfold Composer.chosen
  revert hm hp
  cases tieOrder.filter c.startable with
  | nil =>
    intro hm _
    refine .inr ⟨rfl, fun k hw => ?_⟩
    by_contra hl
    exact absurd ((hm k).mpr ⟨hw, by omega⟩) List.not_mem_nil
  | cons b l =>
    intro hm hp
    obtain ⟨hb, hl⟩ := List.pairwise_cons.mp hp
    obtain ⟨r, hr, he, hx⟩ := foldl_best c l b hb hl
    obtain ⟨hw, h2⟩ := (hm r).mp hr
    exact .inl ⟨r, he, hw, h2, fun j hj hj2 => hx j ((hm j).mpr ⟨hj, hj2⟩)⟩

/-! ## The arbiter's scan (R54) -/

/-- The phase that wins: the first from the pointer on whose requester takes part. -/
theorem winningPhase_eq_some {u : State} (hl : u.store.phaseTable.length = 16) {n : Nat}
    (hn : n < 16) {r : Requester}
    (hr : u.store.phaseTable[(u.store.phasePointer + n) % 16]? = some r) (hs : Seeks u r)
    (hmin : ∀ m < n, ∀ q, ¬(u.store.phaseTable[(u.store.phasePointer + m) % 16]? = some q ∧
      Seeks u q)) :
    u.winningPhase = some ((u.store.phasePointer + n) % 16) := by
  have hd : ∀ m, ∃ q, u.store.phaseTable[(u.store.phasePointer + m) % 16]? = some q ∧
      u.store.phaseTable.getD ((u.store.phasePointer + m) % 16) .composer = q := fun m => by
    have : (u.store.phasePointer + m) % 16 < u.store.phaseTable.length :=
      by rw [hl]; exact Nat.mod_lt _ (by decide)
    exact ⟨_, List.getElem?_eq_getElem this,
      by rw [List.getD_eq_getElem?_getD, List.getElem?_eq_getElem this, Option.getD_some]⟩
  have hf : (List.range 16).find?
      (fun m => u.eligible
        (u.store.phaseTable.getD ((u.store.phasePointer + m) % 16) .composer)) = some n := by
    rw [List.find?_range_eq_some]
    refine ⟨?_, List.mem_range.mpr hn, fun m hm => ?_⟩
    · obtain ⟨q, hq, hg⟩ := hd n
      rw [hg, u.eligible_iff]
      rw [hr] at hq
      exact Option.some.inj hq ▸ hs
    · obtain ⟨q, hq, hg⟩ := hd m
      rw [hg]
      simp only [Bool.not_eq_true', Bool.eq_false_iff, ne_eq, u.eligible_iff]
      exact fun hsq => hmin m hm q ⟨hq, hsq⟩
  unfold State.winningPhase
  rw [List.find?_map]
  exact congrArg (Option.map _) hf

theorem winningPhase_eq_none {u : State} (hl : u.store.phaseTable.length = 16)
    (h : ∀ n < 16, ∀ r, ¬(u.store.phaseTable[(u.store.phasePointer + n) % 16]? = some r ∧
      Seeks u r)) : u.winningPhase = none := by
  unfold State.winningPhase
  rw [List.find?_eq_none]
  intro p hp he
  obtain ⟨n, hn, rfl⟩ := List.mem_map.mp hp
  have hlt : (u.store.phasePointer + n) % 16 < u.store.phaseTable.length :=
    by rw [hl]; exact Nat.mod_lt _ (by decide)
  refine h n (List.mem_range.mp hn) _ ⟨List.getElem?_eq_getElem hlt, ?_⟩
  rw [← u.eligible_iff]
  rwa [List.getD_eq_getElem?_getD, List.getElem?_eq_getElem hlt, Option.getD_some] at he

/-- What a grant does. -/
theorem grantBegins_grantRequest (r : Requester) (u : State) :
    GrantBegins r u (grantRequest r u) := by
  cases r with
  | linkA => intro p hp; simp only [grantRequest, hp]; rfl
  | linkB => intro p hp; simp only [grantRequest, hp]; rfl
  | service =>
    refine ⟨fun p hp => ?_, fun fields hp => ?_⟩
    · simp only [grantRequest, hp]; rfl
    · simp only [grantRequest, hp]; rfl
  | composer => intro i hi; simp only [grantRequest, hi]; rfl
  | driftSave => intro m hm; simp only [grantRequest, hm]; rfl

/-- The arbiter's scan at the end of a step. -/
theorem scanned_settleStore (u : State) : Scanned u (settleStore u) := by
  refine ⟨settleStore_of_no_seeks, fun hp hl => ⟨fun h => ?_, fun n hn r hw hmin => ?_⟩⟩
  · exact settleStore_of_no_winner (winningPhase_eq_none hl h)
  · have hwin := winningPhase_eq_some hl hn hw.1 hw.2 hmin
    have hd : u.store.phaseTable.getD ((u.store.phasePointer + n) % 16) .composer = r := by
      rw [List.getD_eq_getElem?_getD, hw.1, Option.getD_some]
    have hpp : ((u.store.phasePointer + n) % 16 + 1) % 16 =
        (u.store.phasePointer + n + 1) % 16 := by omega
    unfold settleStore
    rw [if_pos hp, hwin]
    simp only [hd, hpp]
    exact grantBegins_grantRequest r _

/-! ## Starts (R112) -/

/-- R30: the blocks of a zone, for every tile. -/
theorem zoneBlocks_eq (s : State) {z : Nat} (hz : z < 16) :
    s.zoneBlocks z = (List.range (s.width / 32 * (s.height / 32))).map (zoneBlock s z) := by
  have key : ∀ (w h : Fin 4) (z : Fin 16),
      ((List.range (4 * (w.val + 1) * (4 * (h.val + 1)))).filter fun i =>
        4 * (i / (4 * (w.val + 1)) / (h.val + 1)) + i % (4 * (w.val + 1)) / (w.val + 1) ==
          z.val) =
        (List.range ((w.val + 1) * (h.val + 1))).map fun n =>
          (z.val / 4 * (h.val + 1) + n / (w.val + 1)) * (4 * (w.val + 1)) +
            (z.val % 4 * (w.val + 1) + n % (w.val + 1)) := by
    decide +kernel
  have hw8 : s.width / 8 = 4 * (s.chip.straps.width.val + 1) := by
    unfold State.width; omega
  have hw32 : s.width / 32 = s.chip.straps.width.val + 1 := by unfold State.width; omega
  have hh8 : s.height / 8 = 4 * (s.chip.straps.height.val + 1) := by
    unfold State.height; omega
  have hh32 : s.height / 32 = s.chip.straps.height.val + 1 := by unfold State.height; omega
  unfold State.zoneBlocks State.zoneOfBlock State.blockCount zoneBlock
  rw [hw8, hw32, hh8, hh32]
  exact key s.chip.straps.width s.chip.straps.height ⟨z, hz⟩

/-- The block that BUILD asks for after those it has done. -/
theorem nextBlock_eq (s : State) {f : Filling} (hz : f.zone < 16)
    (hn : f.blocksDone < s.width / 32 * (s.height / 32)) :
    s.nextBlock f = some (zoneBlock s f.zone f.blocksDone) := by
  unfold State.nextBlock
  rw [zoneBlocks_eq s hz, List.getElem?_map, List.getElem?_range hn]
  rfl

theorem zone_has_blocks (s : State) : 0 < s.width / 32 * (s.height / 32) := by
  have hw : s.width / 32 = s.chip.straps.width.val + 1 := by unfold State.width; omega
  have hh : s.height / 32 = s.chip.straps.height.val + 1 := by unfold State.height; omega
  rw [hw, hh]
  exact Nat.mul_pos (Nat.succ_pos _) (Nat.succ_pos _)

/-- What a start does. -/
theorem started_startJob (k : JobKind) (u : State) : Started k u (startJob k u) := by
  cases k with
  | gain => exact rfl
  | thermal =>
    have hm : ClearMark.atTake = fun m => if m = .set then .taken else .clear := by
      funext m; cases m <;> rfl
    show startJob .thermal u = _
    unfold startJob takeLoad
    rw [hm]
    rfl
  | build =>
    intro z hz hmin hz16
    have hl : (setRunning ⟨u.composer.levels.of .build, .build⟩ u).lowestZone = some z := by
      unfold State.lowestZone
      rw [List.find?_range_eq_some]
      refine ⟨by simpa [setRunning] using hz, List.mem_range.mpr hz16, fun y hy => ?_⟩
      have : y ∉ u.composer.buildSet := fun hm => absurd (hmin y hm) (by omega)
      simpa [setRunning] using this
    have hn : ∀ c, ((setRunning ⟨u.composer.levels.of .build, .build⟩ u).setComposer
        c).nextBlock ((setRunning ⟨u.composer.levels.of .build, .build⟩ u).fillingFor z) =
        some (zoneBlock u z 0) := fun _ =>
      nextBlock_eq u (f := u.fillingFor z) hz16 (zone_has_blocks u)
    show startJob .build u = _
    simp only [startJob, takeZone, hl, requestBlock, hn]
    rfl
  | scrub => exact rfl

/-! ## Decisions (R114 to R116) -/

/-- The decision of a free composer. -/
theorem decided_takeDecision (u : State) : Decided u (takeDecision u) := by
  have start := fun k => started_startJob k u
  unfold Decided takeDecision
  dsimp only
  rcases u.composer.chosen_spec with ⟨k, he, hk⟩ | ⟨he, hn⟩ <;> rw [he]
  · cases u.composer.stack with
    | nil => exact ⟨fun j hj => hj.unique hk ▸ start k, fun h => absurd hk (h.not_chosen k)⟩
    | cons e rest =>
      dsimp only
      split_ifs with hl
      · refine ⟨fun j hj _ => hj.unique hk ▸ start k, fun h => ?_⟩
        rcases h with h | ⟨j, hj, hle⟩
        · exact absurd hk (h.not_chosen k)
        · rw [hj.unique hk] at hle
          omega
      · refine ⟨fun j hj hlt => ?_, fun _ => rfl⟩
        rw [hj.unique hk] at hlt
        exact absurd hlt hl
  · cases u.composer.stack with
    | nil => exact ⟨fun j hj => absurd hj (hn.not_chosen j), fun _ => rfl⟩
    | cons e rest => exact ⟨fun j hj _ => absurd hj (hn.not_chosen j), fun _ => rfl⟩

/-- The decision at SCRUB's preemption point. -/
theorem decidedAtPoint_decideAtPoint (level left : Nat) (u : State) :
    DecidedAtPoint level left u (decideAtPoint level left u) := by
  have start := fun k => started_startJob k (pushScrub level left u)
  unfold DecidedAtPoint decideAtPoint
  dsimp only
  rcases u.composer.chosen_spec with ⟨k, he, hk⟩ | ⟨he, hn⟩ <;> rw [he]
  · dsimp only
    split_ifs with hl
    · refine ⟨fun j hj _ => hj.unique hk ▸ start k, fun h => ?_⟩
      rcases h with h | ⟨j, hj, hle⟩
      · exact absurd hk (h.not_chosen k)
      · rw [hj.unique hk] at hle
        omega
    · refine ⟨fun j hj hlt => ?_, fun _ => rfl⟩
      rw [hj.unique hk] at hlt
      exact absurd hlt hl
  · exact ⟨fun j hj _ => absurd hj (hn.not_chosen j), fun _ => rfl⟩

/-- The decision at the end of a step. -/
theorem composerFollows_settleComposer (u : State) : ComposerFollows u (settleComposer u) := by
  unfold settleComposer
  refine ⟨fun h => if_pos h, fun h => ?_⟩
  rw [if_neg (by rw [h]; exact Bool.false_ne_true)]
  refine ⟨fun hr => ?_, fun r hr => ⟨fun left hw => ?_, fun hw => ?_⟩⟩
  · rw [hr]
    exact decided_takeDecision u
  · obtain ⟨level, work⟩ := r
    obtain rfl : work = .scrub left true := hw
    rw [hr]
    exact decidedAtPoint_decideAtPoint level left u
  · obtain ⟨level, work⟩ := r
    rw [hr]
    cases work with
    | gain i => rfl
    | thermal i => rfl
    | build => rfl
    | scrub left point =>
      cases point with
      | true => exact absurd rfl (hw left)
      | false => rfl

/-- The decision and the scan at the end of a step. -/
theorem workFollows_settleWork (u : State) : WorkFollows u (settleWork u) :=
  ⟨_, composerFollows_settleComposer u, scanned_settleStore _⟩

/-- A decision of an idle composer with nothing startable changes nothing. -/
theorem settleComposer_of_noDecision {s : State} (h : NoDecision s) : settleComposer s = s := by
  rcases h with h | ⟨-, hr, hs, hn⟩
  · exact settleComposer_of_busy h
  · obtain hc := s.composer.chosen_spec
    rcases hc with ⟨k, -, hk⟩ | ⟨hc, -⟩
    · exact absurd hk (hn.not_chosen k)
    · unfold settleComposer takeDecision
      rw [hr, hs, hc]
      split_ifs <;> rfl

theorem NoDecision.deferred {s : State} (h : NoDecision s) : s.composer.deferred = none := by
  rcases h with h | h
  · exact h.1
  · exact h.1

/-! ## The data of a block read (R31 to R36, R50, R51) -/

theorem saturate_eq (v : Int) : saturate v = saturated16 v := by
  unfold saturate clampInt saturated16
  split_ifs <;> omega

theorem buildMatrix_eq (f t : Mat3) : buildMatrix f t = productOf f t := by
  have hs : ∀ r : Row3, saturateRow r = ⟨saturated16 r.x0, saturated16 r.x1, saturated16 r.x2⟩ :=
    fun r => by simp [saturateRow, saturate_eq]
  have hv : ∀ v : Int, (saturate v != v) = decide (v < -32768 ∨ 32767 < v) := fun v => by
    have hd : (saturate v != v) = decide (saturate v ≠ v) := by
      by_cases h : saturate v = v <;> simp [h]
    rw [hd]
    refine decide_eq_decide.mpr ?_
    unfold saturate clampInt
    omega
  have hc : ∀ a b c : Row3, saturatedIn a + saturatedIn b + saturatedIn c =
      ([a.x0, a.x1, a.x2, b.x0, b.x1, b.x2, c.x0, c.x1, c.x2].filter fun v =>
        decide (v < -32768 ∨ 32767 < v)).length := fun a b c => by
    unfold saturatedIn
    simp only [hv]
    rw [← List.length_append, ← List.length_append, ← List.filter_append, ← List.filter_append]
    rfl
  have hr : rawRow = productRow := rfl
  unfold buildMatrix productOf
  simp only [hs, hc, hr]

theorem getMat_eq (r : Nat) (bs : List Byte) : getMat (18 * r) bs = recordAt r bs := rfl

/-- What one more block makes of the zone. -/
theorem fillBlock_eq (u : State) (f : Filling) (read : BlockRead) :
    u.fillBlock f read = blockComputed u read f := by
  have hr : factoryRecord f read = fun r =>
      if read.state = .valid then recordAt r read.content.data else f.fallback := rfl
  unfold State.fillBlock blockComputed
  rw [hr]
  simp only [buildMatrix_eq, List.map_map]
  rfl

theorem checkFails_iff (read : BlockRead) : scrubFails read = true ↔ CheckFails read := by
  have he : allErased read.content = true ↔
      (∀ b ∈ read.content.data, b = 0xFF) ∧ read.content.crc = 0xFFFF := by
    simp [allErased]
  unfold scrubFails CheckFails checkBlock crcMatches
  dsimp only
  rw [← he]
  cases read.state <;> cases read.content.openMark <;> cases allErased read.content <;>
    by_cases hc : crc16 read.content.data = read.content.crc <;> simp [hc]

/-- The scrub pointer goes on. -/
theorem advanceScrub_eq (s : State) : advanceScrub s = s.setStore
    { s.store with
      scrubPointer :=
        if s.store.scrubPointer + 1 < s.blockCount then s.store.scrubPointer + 1 else 0 } := by
  unfold advanceScrub
  by_cases h : s.store.scrubPointer + 1 < s.blockCount
  · rw [if_pos h]; simp [Nat.not_le.mpr h]
  · rw [if_neg h]; simp [Nat.not_lt.mp h]

/-- A zone joins the build set. -/
theorem joined_eq (zone : Nat) (l : List Nat) :
    ((List.range 16).filter fun z => [zone].contains z || l.contains z) =
      (List.range 16).filter fun z => decide (z = zone ∨ z ∈ l) :=
  List.filter_congr fun z _ => by simp

/-- What the running job makes of its block read. -/
theorem absorbed_absorbRead (read : BlockRead) (u : State) :
    Absorbed read u (absorbRead read u) := by
  unfold Absorbed absorbRead
  dsimp only
  rcases hr : u.composer.running with _ | ⟨level, work⟩
  · rfl
  cases work with
  | gain i => rfl
  | thermal k => rfl
  | build =>
    dsimp only
    unfold absorbBuild
    cases hs : u.composer.staging with
    | empty => rfl
    | staged z => rfl
    | filling f =>
      dsimp only
      rw [fillBlock_eq]
      have hlen : ∀ hz : f.zone < 16,
          (u.zoneBlocks f.zone).length = u.width / 32 * (u.height / 32) := fun hz => by
        rw [zoneBlocks_eq u hz, List.length_map, List.length_range]
      refine ⟨fun hz hlt => ?_, fun hz hle => ?_⟩
      · rw [if_pos (by rw [hlen hz]; exact hlt)]
        have hn' : ∀ c, (u.setComposer c).nextBlock (blockComputed u read f) =
            some (zoneBlock u f.zone (blockComputed u read f).blocksDone) := fun _ =>
          nextBlock_eq u (f := blockComputed u read f) hz hlt
        unfold requestBlock
        rw [hn', ← hr]
        exact rfl
      · rw [if_neg (by rw [hlen hz]; exact Nat.not_lt.mpr hle)]
        rfl
  | scrub left point =>
    dsimp only
    refine ⟨fun hf => ?_, fun hf => ?_⟩
    · unfold absorbScrub
      rw [if_pos ((checkFails_iff read).mpr hf), advanceScrub_eq]
      have hj := joined_eq (u.zoneOfBlock read.block) u.composer.buildSet
      unfold scrubFailure joinBuild
      have hb : (setBlockState read.block .invalid u).composer = u.composer := rfl
      dsimp only
      rw [hb, hj]
      rfl
    · unfold absorbScrub
      rw [if_neg (fun h => hf ((checkFails_iff read).mp h)), advanceScrub_eq]
      rfl

/-- At the lift the job takes the read that was kept for it. -/
theorem readFollows_takeDeferred (u : State) : ReadFollows u (takeDeferred u) := by
  unfold ReadFollows takeDeferred
  refine ⟨fun h => ?_, fun hs read hd => ?_⟩
  · rcases h with h | h
    · rw [if_pos h]
    · rw [h]
      split_ifs <;> rfl
  · rw [if_neg (by rw [hs]; exact Bool.false_ne_true), hd]
    exact absorbed_absorbRead _ _

/-- What waits moves into force where the engine is not rendering. -/
theorem forceFollows_settleRender (u : State) : ForceFollows u (settleRender u) := by
  unfold ForceFollows settleRender moveIntoForce applyPendingGain commitStaged renderInForce
    composerInForce
  split_ifs
  · rfl
  · obtain ⟨_, _, _, ⟨_, _, _, gains, _⟩, _, ⟨_, _, _, _, _, _, _, _, staging, _, _⟩, _, _, _, _, _,
      _, _, _, _, _, _⟩ := u
    cases staging <;> cases gains <;> rfl

/-! ## A whole settling -/

/-- A steady state has nothing left to follow. -/
theorem settle_of_steady {s : State} (h : Steady s) : settle s = s := by
  obtain ⟨hn, hk, hr, hs⟩ := h
  unfold settle settleWork
  rw [hk, takeDeferred_of_none hn.deferred, settleRender_of_nothing hr,
    settleComposer_of_noDecision hn, settleStore_of_no_seeks hs]

theorem settleWork_of_steady {s : State} (h : Steady s) : settleWork s = s := by
  unfold settleWork
  rw [settleComposer_of_noDecision h.1, settleStore_of_no_seeks h.2.2.2]

/-- What settling does. -/
theorem settles_settle (u : State) : Settles u (settle u) :=
  ⟨settle_of_steady, _, _, _, banksFollow_settleBanks u,
    settleBanks_keeps (KeepsBut.refl _ u) (by simp), readFollows_takeDeferred _,
    forceFollows_settleRender _, workFollows_settleWork _⟩

theorem Settled.intro {P : State → Prop} {u : State} (h : P u) : Settled P (settle u) :=
  ⟨u, h, settles_settle u⟩

theorem QuietFrom.intro {P : State → Prop} {s u : State} (h : P u)
    (hs : Steady s → Steady u) : QuietFrom s P (settle u) :=
  ⟨.intro h, fun hq => by rw [settle_of_steady (hs hq)]; exact h⟩

theorem SettledFrom.intro {P : State → Prop} {s u : State} (h : P u)
    (hs : Steady s → Busy s → P (settle u)) : SettledFrom s P (settle u) := ⟨.intro h, hs⟩

theorem WorkedFrom.intro {P : State → Prop} {s u : State} (h : P u)
    (hs : Steady s → Busy s → P (settleWork u)) : WorkedFrom s P (settleWork u) :=
  ⟨⟨u, h, workFollows_settleWork u⟩, hs⟩

theorem QuietWorkFrom.intro {P : State → Prop} {s u : State} (h : P u)
    (hs : Steady s → Steady u) : QuietWorkFrom s P (settleWork u) :=
  ⟨⟨u, h, workFollows_settleWork u⟩, fun hq => by
    rw [settleWork_of_steady (hs hq)]; exact h⟩

/-- R186: leaving the rest, settled. -/
theorem leavesRest_leaveRest (p : PowerState) (s : State) :
    LeavesRest p s (settle (leaveRest p s)) := settles_settle _

/-- No decision is due after a step that leaves the composer, the power state and the phase. -/
theorem NoDecision.congr {s t : State} (h : NoDecision s) (hc : t.composer = s.composer)
    (hp : t.chip.power = s.chip.power) (hf : t.chip.phase = s.chip.phase) : NoDecision t :=
  h.imp (fun hb => hb.congr hc hp hf) (fun hi => by rw [hc]; exact hi)

/-- Which requests take part in a scan is a matter of the store, the power state and the phase. -/
theorem Seeks.congr {s t : State} {r : Requester} (h : Seeks s r) (hw : t.store = s.store)
    (hp : t.chip.power = s.chip.power) (hf : t.chip.phase = s.chip.phase) : Seeks t r := by
  unfold Seeks State.composerStopped State.started at *
  rw [hw, hp, hf]
  exact h

end Sys2Proof.Machine
end

