-- ==== Sys2Proof/Laws/Handling.lean ====
section
/-! SUPPORT. The way of a request: its layout read back, its handling from the head of a prompt
queue or from a service frame. -/

namespace Sys2Proof.Machine

/-! ## Layouts read back -/

theorem parseRequest_take : parseRequest kindTake [] = some .take := rfl
theorem parseRequest_dark : parseRequest kindDark [] = some .dark := rfl
theorem parseRequest_light : parseRequest kindLight [] = some .light := rfl
theorem parseRequest_rest : parseRequest kindRest [] = some .rest := rfl
theorem parseRequest_close : parseRequest kindClose [] = some .close := rfl
theorem parseRequest_reset : parseRequest kindReset [] = some .reset := rfl

theorem parseRequest_wall (b : List Byte) : parseRequest kindWall b = parseWall b := rfl
theorem parseRequest_rebuild (b : List Byte) : parseRequest kindRebuild b = parseRebuild b := rfl
theorem parseRequest_query (b : List Byte) : parseRequest kindQuery b = parseQuery b := rfl
theorem parseRequest_set (b : List Byte) :
    parseRequest kindSet b = (parseSet b).map .set := rfl

theorem parseRebuild_body {zones : List Byte} (h : zones.length ≤ 255) :
    parseRebuild (rebuildBody zones) = some (.rebuild (zones.map BitVec.toNat)) := by
  have : zones.length = (BitVec.ofNat 8 zones.length).toNat := by
    rw [BitVec.toNat_ofNat, Nat.mod_eq_of_lt (by omega)]
  simp [parseRebuild, rebuildBody, ← this]

/-- The four bytes of a value and the value they are read as. -/
theorem leInt_putU32 (v : U32) : leInt (putU32 v.toNat) = v.toInt := by
  have hl := v.isLt
  have hm : v.toNat % 256 ^ 4 = v.toNat := Nat.mod_eq_of_lt (by omega)
  unfold leInt putU32
  simp only [leNat_leBytes, length_leBytes, hm, BitVec.toInt_eq_toNat_cond]
  split_ifs <;> omega

theorem parseSet_body (n index : Byte) (v : U32) (hn : n.toNat ≠ 2) :
    parseSet (setBody n index v) =
      if n.toNat = 1 then (jobKindOfCode index.toNat).map fun k => .jobLevel k v.toInt
      else if n.toNat = 10 then
        (if index.toNat ≤ 15 then some (.darkPolicy index.toNat v.toInt) else none)
      else if index.toNat = 0 then (settingOfCode n.toNat).map fun x => .value x v.toInt
      else none := by
  have h0 : slice 0 1 (setBody n index v) = [n] := rfl
  have h1 : slice 1 1 (setBody n index v) = [index] := rfl
  have hl : (putU32 v.toNat).length = 4 := length_leBytes 4 _
  have h2 : slice 2 4 (setBody n index v) = putU32 v.toNat := by
    show ((putU32 v.toNat).take 4) = putU32 v.toNat
    rw [List.take_of_length_le (by omega)]
  have h3 : (setBody n index v).length = 6 := by simp [setBody, hl]
  have hb : ∀ b : Byte, leNat [b] = b.toNat := fun b => by simp [leNat]
  unfold parseSet
  simp only [h0, h1, h2, h3, hb, leInt_putU32, if_neg hn, if_true]

/-! ## Bytes on the wires (R188, R189) -/

/-- Two bytes read back. -/
theorem getU16_putU16 (v : U16) : leNat (putU16 v.toNat) = v.toNat := by
  rw [putU16, leNat_leBytes]
  exact Nat.mod_eq_of_lt v.isLt

@[simp] theorem length_withCrc (bs : List Byte) : (withCrc bs).length = bs.length + 2 := by
  rw [withCrc, List.length_append, putU16, length_leBytes]

/-- The CRC sent behind the bytes is the one a receiver computes over them. -/
theorem getCrc_withCrc (bs : List Byte) : getCrc bs.length (withCrc bs) = crc16 bs := by
  have hl : (putU16 (crc16 bs).toNat).length = 2 := length_leBytes 2 _
  have hs : slice bs.length 2 (withCrc bs) = putU16 (crc16 bs).toNat := by
    rw [withCrc, slice, List.drop_left, List.take_of_length_le hl.le]
  rw [getCrc, getU16, hs, getU16_putU16, BitVec.ofNat_toNat, BitVec.setWidth_eq]

/-- The length of a unit: the header, the body and the link check. -/
theorem length_unit_answer (x : AnswerTo) (tag kind : Byte) (r : Result) (content : List Byte) :
    (Outgoing.answer x tag kind r content).unit.length = 8 + content.length := by
  simp only [Outgoing.unit, length_withCrc, linkBytes, answerBody, putU16, putU8,
    List.length_cons, List.length_append, length_leBytes]
  omega

theorem length_frame (a : ServiceAnswer) : a.frame.length = 9 + a.content.length := by
  simp only [ServiceAnswer.frame, length_withCrc, answerBody, putU16, putU8,
    List.length_cons, List.length_append, length_leBytes]
  omega

/-! ## The head of a prompt queue (R157) -/

theorem promptStep_of_head {l : Link} {mine : Request → Bool} {s : State} {m : Message}
    {rest : List Message} {r : Request} (hs : s.started = true) (ha : (s.link l).awaiting = false)
    (hq : (s.link l).prompts = m :: rest) (hr : parseRequest m.kind m.body = some r)
    (hm : mine r = true) :
    promptStep l mine s = conclude [] s (handlePrompt l m rest r s) := by
  simp [promptStep, State.mayTakePrompt, hs, ha, hq, hr, hm]

/-- The answer stands behind what the step's own rule sent, and the prompt has left. -/
theorem handlePrompt_eq (l : Link) (m : Message) (rest : List Message) (r : Request) (s : State) :
    handlePrompt l m rest r s =
      send l
        (.answer (if r == .reset then .resetPrompt else .prompt) m.tag m.kind
          (perform (.link l) r (beginPrompt l rest s)).result
          (perform (.link l) r (beginPrompt l rest s)).content)
        (perform (.link l) r (beginPrompt l rest s)).state := rfl

@[simp] theorem send_link_same (l : Link) (m : Outgoing) (s : State) :
    (send l m s).link l = { s.link l with sends := (s.link l).sends ++ [m] } := by
  cases l <;> rfl

@[simp] theorem beginPrompt_link_same (l : Link) (rest : List Message) (s : State) :
    (beginPrompt l rest s).link l = { s.link l with prompts := rest, awaiting := true } := by
  cases l <;> rfl

/-! ## A service frame (R169) -/

theorem toolStep_of_room {tag kind : Byte} {t : ToolRequest} {s : State}
    (hs : s.started = true) (hl : s.service.line = .locked) (hr : s.service.sends.length < 8) :
    toolStep tag kind (some t) s =
      conclude [] s (answerTool tag kind (t == .shared .reset) (performTool tag t s)) := by
  have hv : s.live = true := by
    unfold State.started at hs
    unfold State.live
    split <;> simp_all
  have hf : s.serviceFull = false := by simp [State.serviceFull]; omega
  simp [toolStep, State.serviceLocked, handleFrame, hv, hl, hf, hs]

theorem toolStep_of_bad {tag kind : Byte} {s : State} (hs : s.started = true)
    (hl : s.service.line = .locked) (hr : s.service.sends.length < 8) :
    toolStep tag kind none s = pushAnswer ⟨tag, kind, .refusedBad, [], false⟩ s := by
  have hv : s.live = true := by
    unfold State.started at hs
    unfold State.live
    split <;> simp_all
  have hf : s.serviceFull = false := by simp [State.serviceFull]; omega
  simp only [toolStep, State.serviceLocked, handleFrame, hv, hl, hf, hs]
  exact conclude_of_no_trigger rfl rfl rfl rfl

@[simp] theorem pushAnswer_service (a : ServiceAnswer) (s : State) :
    (pushAnswer a s).service = { s.service with sends := s.service.sends ++ [a] } := rfl

end Sys2Proof.Machine
end

