-- ==== Sys2Proof/Laws/PerInstr.lean ====
section
/-! SUPPORT. The family OwnRow, one lemma for each command: a well-formed PROMPT_MESSAGE_ARRIVAL
never carries a kind that has a row of its own (R155), so no event has two rows. -/

namespace Sys2Proof.Laws.OwnRow

/-- The command is no arrival of a message whose kind has a row of its own. -/
def Statement (i : Instr) : Prop :=
  i.wellFormed = true → ∀ l k u, i = .promptMessageArrival l k u → k ∉ ownRowKinds

theorem powerOn (pins : StrapPins) : Statement (.powerOn pins) :=
  fun _ _ _ _ he => nomatch he

theorem resetPinRelease (pins : StrapPins) : Statement (.resetPinRelease pins) :=
  fun _ _ _ _ he => nomatch he

theorem warmReset (cause : WarmCause) : Statement (.warmReset cause) :=
  fun _ _ _ _ he => nomatch he

theorem startupChecksDone (found : StoreFindings) : Statement (.startupChecksDone found) :=
  fun _ _ _ _ he => nomatch he

theorem loadSample : Statement .loadSample :=
  fun _ _ _ _ he => nomatch he

theorem thermalTick : Statement .thermalTick :=
  fun _ _ _ _ he => nomatch he

theorem pilotTick : Statement .pilotTick :=
  fun _ _ _ _ he => nomatch he

theorem scrubTick : Statement .scrubTick :=
  fun _ _ _ _ he => nomatch he

theorem reportTick : Statement .reportTick :=
  fun _ _ _ _ he => nomatch he

theorem driftSaveTick : Statement .driftSaveTick :=
  fun _ _ _ _ he => nomatch he

theorem restWakeExpiry : Statement .restWakeExpiry :=
  fun _ _ _ _ he => nomatch he

theorem primingTimerExpiry (bank : Fin 16) : Statement (.primingTimerExpiry bank) :=
  fun _ _ _ _ he => nomatch he

theorem settleTimerExpiry : Statement .settleTimerExpiry :=
  fun _ _ _ _ he => nomatch he

theorem linkStale (l : Link) : Statement (.linkStale l) :=
  fun _ _ _ _ he => nomatch he

theorem blankAfterExpiry : Statement .blankAfterExpiry :=
  fun _ _ _ _ he => nomatch he

theorem creditResendTimer (l : Link) : Statement (.creditResendTimer l) :=
  fun _ _ _ _ he => nomatch he

theorem signalDetected (l : Link) : Statement (.signalDetected l) :=
  fun _ _ _ _ he => nomatch he

theorem symbolLock (l : Link) : Statement (.symbolLock l) :=
  fun _ _ _ _ he => nomatch he

theorem linkDown (l : Link) : Statement (.linkDown l) :=
  fun _ _ _ _ he => nomatch he

theorem init (l : Link) (u : LinkUnit) : Statement (.init l u) :=
  fun _ _ _ _ he => nomatch he

theorem frameHead (l : Link) (u : LinkUnit) : Statement (.frameHead l u) :=
  fun _ _ _ _ he => nomatch he

theorem row (l : Link) (u : LinkUnit) : Statement (.row l u) :=
  fun _ _ _ _ he => nomatch he

theorem promptMessageArrival (l : Link) (kind : Byte) (u : LinkUnit) : Statement (.promptMessageArrival l kind u) := by
  intro h l' k' u' he hk
  cases he
  simp only [Instr.wellFormed, Bool.and_eq_true, Bool.not_eq_true', List.contains_eq_mem,
    decide_eq_false_iff_not] at h
  exact h.2 hk

theorem answerSent (who : Sender) : Statement (.answerSent who) :=
  fun _ _ _ _ he => nomatch he

theorem unknownKind (l : Link) : Statement (.unknownKind l) :=
  fun _ _ _ _ he => nomatch he

theorem block (v : BlockVia) : Statement (.block v) :=
  fun _ _ _ _ he => nomatch he

theorem wall (l : Link) : Statement (.wall l) :=
  fun _ _ _ _ he => nomatch he

theorem take (l : Link) : Statement (.take l) :=
  fun _ _ _ _ he => nomatch he

theorem dark (v : Via Unit) : Statement (.dark v) :=
  fun _ _ _ _ he => nomatch he

theorem light (v : Via Unit) : Statement (.light v) :=
  fun _ _ _ _ he => nomatch he

theorem rest (v : Via Unit) : Statement (.rest v) :=
  fun _ _ _ _ he => nomatch he

theorem rebuild (v : Via (List Byte)) : Statement (.rebuild v) :=
  fun _ _ _ _ he => nomatch he

theorem queryZoneStatus (v : Via Unit) : Statement (.queryZoneStatus v) :=
  fun _ _ _ _ he => nomatch he

theorem queryStoreStatus (v : Via Unit) : Statement (.queryStoreStatus v) :=
  fun _ _ _ _ he => nomatch he

theorem queryThermalState (v : Via Unit) : Statement (.queryThermalState v) :=
  fun _ _ _ _ he => nomatch he

theorem queryWearState (v : Via Unit) : Statement (.queryWearState v) :=
  fun _ _ _ _ he => nomatch he

theorem queryGainState (v : Via Unit) : Statement (.queryGainState v) :=
  fun _ _ _ _ he => nomatch he

theorem queryComposerState (v : Via Unit) : Statement (.queryComposerState v) :=
  fun _ _ _ _ he => nomatch he

theorem querySensorState (v : Via Unit) : Statement (.querySensorState v) :=
  fun _ _ _ _ he => nomatch he

theorem queryAuthorityState (v : Via Unit) : Statement (.queryAuthorityState v) :=
  fun _ _ _ _ he => nomatch he

theorem queryLinkState (v : Via Unit) : Statement (.queryLinkState v) :=
  fun _ _ _ _ he => nomatch he

theorem queryConfiguration (v : Via Unit) : Statement (.queryConfiguration v) :=
  fun _ _ _ _ he => nomatch he

theorem setJobLevel (v : Via (JobKind × U32)) : Statement (.setJobLevel v) :=
  fun _ _ _ _ he => nomatch he

theorem setPhaseTable (v : Via (List Requester)) : Statement (.setPhaseTable v) :=
  fun _ _ _ _ he => nomatch he

theorem setHoldTime (v : Via U32) : Statement (.setHoldTime v) :=
  fun _ _ _ _ he => nomatch he

theorem setBlankAfter (v : Via U32) : Statement (.setBlankAfter v) :=
  fun _ _ _ _ he => nomatch he

theorem setThermalInterval (v : Via U32) : Statement (.setThermalInterval v) :=
  fun _ _ _ _ he => nomatch he

theorem setK (v : Via U32) : Statement (.setK v) :=
  fun _ _ _ _ he => nomatch he

theorem setRho (v : Via U32) : Statement (.setRho v) :=
  fun _ _ _ _ he => nomatch he

theorem setFCap (v : Via U32) : Statement (.setFCap v) :=
  fun _ _ _ _ he => nomatch he

theorem setSensorMap (v : Via U32) : Statement (.setSensorMap v) :=
  fun _ _ _ _ he => nomatch he

theorem setDarkPolicy (v : Via (Fin 16 × U32)) : Statement (.setDarkPolicy v) :=
  fun _ _ _ _ he => nomatch he

theorem setAssumedAmbient (v : Via U32) : Statement (.setAssumedAmbient v) :=
  fun _ _ _ _ he => nomatch he

theorem setPilotInterval (v : Via U32) : Statement (.setPilotInterval v) :=
  fun _ _ _ _ he => nomatch he

theorem setScrubInterval (v : Via U32) : Statement (.setScrubInterval v) :=
  fun _ _ _ _ he => nomatch he

theorem setReportInterval (v : Via U32) : Statement (.setReportInterval v) :=
  fun _ _ _ _ he => nomatch he

theorem setDriftSaveInterval (v : Via U32) : Statement (.setDriftSaveInterval v) :=
  fun _ _ _ _ he => nomatch he

theorem setRestWakeInterval (v : Via U32) : Statement (.setRestWakeInterval v) :=
  fun _ _ _ _ he => nomatch he

theorem close (v : Via Unit) : Statement (.close v) :=
  fun _ _ _ _ he => nomatch he

theorem reset (v : Via Unit) : Statement (.reset v) :=
  fun _ _ _ _ he => nomatch he

theorem trim (tag : Byte) (codes : Rgb Byte) : Statement (.trim tag codes) :=
  fun _ _ _ _ he => nomatch he

theorem wearClear (tag : Byte) (zone : Byte) : Statement (.wearClear tag zone) :=
  fun _ _ _ _ he => nomatch he

theorem bank (tag : Byte) (entries : List (Byte × Byte)) : Statement (.bank tag entries) :=
  fun _ _ _ _ he => nomatch he

theorem latch (tag : Byte) (bank : Byte) (drive : Rgb U16) : Statement (.latch tag bank drive) :=
  fun _ _ _ _ he => nomatch he

theorem identity (tag : Byte) (fields : List Byte) : Statement (.identity tag fields) :=
  fun _ _ _ _ he => nomatch he

theorem sync (low : Nat) : Statement (.sync low) :=
  fun _ _ _ _ he => nomatch he

theorem serviceFrame (bytes : List LineByte) : Statement (.serviceFrame bytes) :=
  fun _ _ _ _ he => nomatch he

theorem serviceFrameTimeout : Statement .serviceFrameTimeout :=
  fun _ _ _ _ he => nomatch he

theorem serviceBreak (low : Nat) : Statement (.serviceBreak low) :=
  fun _ _ _ _ he => nomatch he

theorem idle : Statement .idle :=
  fun _ _ _ _ he => nomatch he

theorem sensorResponse (f : SensorFrame) : Statement (.sensorResponse f) :=
  fun _ _ _ _ he => nomatch he

theorem sensorDeadline : Statement .sensorDeadline :=
  fun _ _ _ _ he => nomatch he

theorem blockReadDone (cells : Option Stored) : Statement (.blockReadDone cells) :=
  fun _ _ _ _ he => nomatch he

theorem blockProgramDone (cells : Option Stored) : Statement (.blockProgramDone cells) :=
  fun _ _ _ _ he => nomatch he

theorem identityProgramDone (cells : Option Stored) : Statement (.identityProgramDone cells) :=
  fun _ _ _ _ he => nomatch he

theorem driftSaveDone (cells : Option Stored) : Statement (.driftSaveDone cells) :=
  fun _ _ _ _ he => nomatch he

theorem thermalJobEnd : Statement .thermalJobEnd :=
  fun _ _ _ _ he => nomatch he

theorem gainEnd : Statement .gainEnd :=
  fun _ _ _ _ he => nomatch he

theorem resetPinDrivenLow : Statement .resetPinDrivenLow :=
  fun _ _ _ _ he => nomatch he

theorem powerLoss : Statement .powerLoss :=
  fun _ _ _ _ he => nomatch he

end Sys2Proof.Laws.OwnRow
end

