-- ==== Sys2Proof/Tests/Slice0.lean ====
section
/-! SUPPORT. Tests: the well-formedness checks, the manual's worked examples, and for the
statements with hypotheses a state that meets them. -/

namespace Sys2Proof.Tests

open Sys2Proof.Machine

-- The kernel's evaluations one after another: side by side they want too much memory.
set_option Elab.async false

/-! ## Well-formed commands: each check refuses an ill-formed term -/

def unitOf (body : List Byte) : LinkUnit := ⟨0, body, 0⟩

theorem test_findings_sizes :
    (Instr.startupChecksDone ⟨some ⟨[0], 0, false⟩, none, []⟩).wellFormed = false ∧
      (Instr.startupChecksDone ⟨none, some ⟨[0], 0, false⟩, []⟩).wellFormed = false ∧
      (Instr.startupChecksDone ⟨none, none, [(0, ⟨[0], 0, false⟩)]⟩).wellFormed = false ∧
      (Instr.startupChecksDone ⟨none, none, [(256, erasedBlock)]⟩).wellFormed = false ∧
      (Instr.startupChecksDone ⟨none, none, [(255, erasedBlock)]⟩).wellFormed = true := by
  decide +kernel

theorem test_unit_length :
    (Instr.init .a (unitOf (List.replicate 65536 0))).wellFormed = false ∧
      (Instr.frameHead .a (unitOf (List.replicate 65536 0))).wellFormed = false ∧
      (Instr.row .a (unitOf (List.replicate 65536 0))).wellFormed = false ∧
      (Instr.block (.port .a (unitOf (List.replicate 65536 0)))).wellFormed = false ∧
      (Instr.promptMessageArrival .a 0x10 (unitOf (List.replicate 65536 0))).wellFormed =
        false := by decide +kernel

theorem test_own_row_kinds :
    (Instr.promptMessageArrival .a 0x20 (unitOf [])).wellFormed = false ∧
      (Instr.promptMessageArrival .a 0x10 (unitOf [])).wellFormed = true := by decide

theorem test_payload_sizes :
    (Instr.block (.tool 0 [0])).wellFormed = false ∧
      (Instr.rebuild (.tool 0 (List.replicate 256 0))).wellFormed = false ∧
      (Instr.setPhaseTable (.tool 0 [.linkA])).wellFormed = false ∧
      (Instr.bank 0 (List.replicate 256 (0, 0))).wellFormed = false ∧
      (Instr.identity 0 [0]).wellFormed = false := by decide +kernel

theorem test_low_periods :
    (Instr.sync 0).wellFormed = false ∧ (Instr.serviceBreak 0).wellFormed = false := by decide

theorem test_cell_sizes :
    (Instr.blockReadDone (some ⟨[0], 0, false⟩)).wellFormed = false ∧
      (Instr.blockProgramDone (some ⟨[0], 0, false⟩)).wellFormed = false ∧
      (Instr.identityProgramDone (some ⟨[0], 0, false⟩)).wellFormed = false ∧
      (Instr.driftSaveDone (some ⟨[0], 0, false⟩)).wellFormed = false := by decide

/-! ## The manual's worked examples -/

/-- R188: the CRC of the nine bytes "123456789". -/
theorem test_crc_check_value :
    crc16 [0x31, 0x32, 0x33, 0x34, 0x35, 0x36, 0x37, 0x38, 0x39] = 0x29B1 := by
  decide +kernel

theorem test_geometry_64_by_64 :
    let s := { State.reset with chip := { Chip.reset with straps := ⟨1, 1, false⟩ } }
    s.zoneBlocks 5 = [18, 19, 26, 27] ∧ s.zoneOf 20 21 = 5 ∧ s.blockCount = 64 := by
  decide +kernel

/-- The fallback matrix of the example of chapter 2. -/
def exampleTarget : Mat3 := ⟨⟨16000, 300, 0⟩, ⟨200, 16100, 100⟩, ⟨0, 150, 16200⟩⟩

/-- R33: pixel (20, 21) of block 18, and the fallback record. -/
theorem test_build_matrix :
    buildMatrix ⟨⟨15565, 328, 0⟩, ⟨115, 16168, 22⟩, ⟨-48, 114, 16232⟩⟩ exampleTarget =
        (⟨⟨15204, 607, 2⟩, ⟨310, 15890, 120⟩, ⟨-45, 260, 16050⟩⟩, 0) ∧
      buildMatrix ⟨⟨15800, 400, 0⟩, ⟨150, 16000, 100⟩, ⟨0, 200, 16100⟩⟩ exampleTarget =
        (⟨⟨15435, 682, 2⟩, ⟨342, 15726, 197⟩, ⟨2, 344, 15920⟩⟩, 0) := by decide +kernel

/-- R33, R34: a coefficient at its bound. -/
theorem test_coefficient_saturates :
    (buildMatrix ⟨⟨32767, 0, 0⟩, ⟨32767, 0, 0⟩, ⟨0, 0, 0⟩⟩
        ⟨⟨16000, 17000, 0⟩, ⟨0, 0, 0⟩, ⟨0, 0, 0⟩⟩) =
      (⟨⟨31999, 32767, 0⟩, ⟨31999, 32767, 0⟩, ⟨0, 0, 0⟩⟩, 2) := by decide +kernel

/-- The render example of chapter 1: the tile, zone 5 built, one pixel's matrix. -/
def exampleRender : State :=
  { State.reset with
    chip := { Chip.reset with phase := .running, config := .closed, straps := ⟨1, 1, false⟩ }
    render :=
      { Render.reset with
        table := [(1364, ⟨⟨15204, 607, 2⟩, ⟨310, 15890, 120⟩, ⟨-45, 260, 16050⟩⟩)]
        zones := setAt Render.reset.zones 5 fun _ => ⟨true, 7, 0, 0⟩
        applied := setAt Render.reset.applied 5 fun _ => ⟨61102, 66012, 65790⟩ } }

/-- R5 to R8: below the limiter, above it, and in a zone that is not built. -/
theorem test_render_pixel :
    exampleRender.renderPixel 20 21 ⟨40000, 30000, 20000⟩ = (⟨35646, 30217, 20035⟩, false) ∧
      exampleRender.renderPixel 20 21 ⟨65535, 65535, 65535⟩ = (⟨58776, 65535, 65094⟩, true) ∧
      exampleRender.renderPixel 20 21 ⟨65535, 0, 0⟩ = (⟨56700, 1249, 0⟩, false) ∧
      exampleRender.renderPixel 40 21 ⟨65535, 65535, 65535⟩ = (⟨0, 0, 0⟩, false) := by
  decide +kernel

/-- The locator bank of chapter 1, with its latch. -/
def exampleLocator (latch : Rgb Nat) : State :=
  { State.reset with
    chip :=
      { Chip.reset with
        phase := .running, config := .closed, power := .dark, straps := ⟨1, 1, false⟩ }
    driver :=
      { Driver.reset with
        banks := setAt Driver.reset.banks 2 fun b => { b with mode := .direct, latch := latch } } }

/-- R20, R23. -/
theorem test_locator_sums :
    (exampleLocator ⟨1000, 0, 0⟩).latchedSum 5 = ⟨128000, 0, 0⟩ ∧
      (exampleLocator ⟨1000, 0, 0⟩).latchedSum 8 = ⟨0, 0, 0⟩ ∧
      (loadSample (exampleLocator ⟨1000, 0, 0⟩)).driver.pilotDrive = ⟨125, 0, 0⟩ ∧
      (loadSample (exampleLocator ⟨0, 2000, 0⟩)).driver.pilotDrive = ⟨0, 250, 0⟩ := by
  decide +kernel

/-- R64, R65, R66: the two merged ticks of chapter 4. -/
theorem test_thermal_steps :
    meanLoad ⟨6710784000, 6710784000, 6710784000⟩ 200 1024 = 2048 ∧
      meanLoad ⟨10066176000, 0, 0⟩ 200 1024 = 1024 ∧ equilibrium 449 288 2048 = 593 ∧
      stepsTemp 32 593 2 560 = 567 ∧ stepsTemp 32 593 2 589 = 591 ∧
      stepsTemp 32 593 2 591 = 593 ∧ stepsTemp 32 464 2 587 = 559 ∧
      stepsTemp 32 527 2 587 = 574 := by decide +kernel

/-- ThermalStepsNeverOvershoot: the bounds of its ranges. -/
theorem test_thermal_bounds :
    stepTemp 255 3023 2000 = 2000 ∧ stepTemp 1 (-640) (-639) = -640 ∧
      stepTemp 1 (-640) (-640) = -640 ∧ stepTemp 255 2000 (-640) = 1989 := by decide +kernel

/-- R74. -/
theorem test_wear_increment :
    wearIncrement 1024 ⟨6710784000, 10066176000, 0⟩ = ⟨409600, 614400, 0⟩ := by decide +kernel

/-- The wear tables of the examples of chapters 5 and 6. -/
def exampleTables : Rgb WearTable :=
  ⟨[(0, 65536), (2000, 62259), (4000, 60100)], [(0, 65536), (2000, 64800), (4000, 64100)],
    [(0, 65536), (2000, 63000), (4000, 61000)]⟩

/-- The pilot example of chapter 5. -/
def examplePilot : State :=
  { State.reset with
    store :=
      { Store.reset with
        constants :=
          { Constants.default with
            beta := ⟨393, 95, 60⟩, ref := ⟨40000, 36000, 30000⟩, tables := exampleTables } }
    wear :=
      { Wear.reset with
        pilot := ⟨29491200000000, 29700000000000, 30000000000000⟩, kappa := ⟨60000, 65100, 64000⟩ }
    sensors := { Sensors.reset with temps := List.replicate 4 ⟨0, some 480⟩ } }

/-- R80. -/
theorem test_pilot_measurement :
    examplePilot.observed .r 33000 = 54067 ∧ examplePilot.predicted .r = 60392 ∧
      ratioOf 54067 60392 = 58672 ∧ kappaAfter 60000 58672 = 59834 ∧
      kappaAfter 64000 66241 = 64280 := by decide +kernel

/-- What GAIN takes in the example of chapter 6, at a ceiling. -/
def exampleGain (ceiling : Nat) : GainInputs where
  temps := (List.replicate 16 448).set 5 720
  wear := (List.replicate 16 Rgb.zero).set 5 ⟨14745600000000, 14745600000000, 14745600000000⟩
  kappa := ⟨65536, 65536, 65536⟩
  trim := ⟨0, 0, -4⟩
  ceiling := ceiling
  tRef := 400
  beta := ⟨393, 95, 60⟩
  tables := exampleTables

/-- R92 to R98 at the ceiling 52429. -/
theorem test_gain_results :
    (exampleGain 52429).efficiency 5 = ⟨56233, 63278, 63091⟩ ∧
      ((exampleGain 52429).factors 98304)[5]? = some ⟨61102, 54299, 54247⟩ ∧
      ((exampleGain 52429).factors 98304)[0]? = some ⟨53389, 52657, 52367⟩ ∧
      ((exampleGain 52429).zoneGain 98304 0).capacity = 64357 ∧
      emitterCapacity 65356 65280 = 65536 ∧
      ((exampleGain 52429).results 98304 7).tileCapacity = 56233 ∧
      ((exampleGain 52429).results 98304 7).weakest = 5 ∧
      ((exampleGain 52429).results 98304 7).shortCount = 0 ∧
      ((exampleGain 52429).results 98304 7).runs = 8 := by decide +kernel

/-- R97, R98 at the ceiling 60000: zone 5 is SHORT. -/
theorem test_gain_short :
    ((exampleGain 60000).factors 98304)[5]? = some ⟨69926, 62140, 62080⟩ ∧
      ((exampleGain 60000).results 98304 0).shortCount = 1 := by decide +kernel

/-- Chapter 13: a report has 43 bytes; an identity record 184 and a drift record 321. -/
theorem test_layout_sizes :
    (State.reset.reportBody 1 [.periodic]).length = 43 ∧ (driftBytes Wear.reset).length = 321 ∧
      (wallBody powerOnRecord).length = 24 := by decide +kernel

/-- R158, R169, R188: a CREDIT of 4, an ANSWER to a DARK with tag 7, and the answer frame of the
same: each field at its place, each check over what stands before it. -/
theorem test_bytes_on_the_wires :
    let credit : List Byte := [0x41, 0, 1, 0, 4]
    let answer : List Byte := [0x40, 7, 2, 0, 0x12, 6]
    let body : List Byte := [4, 0, 0x40, 7, 0x12, 6]
    (Outgoing.credit 4).unit = credit ++ putU16 (crc16 credit).toNat ∧
      (Outgoing.answer .prompt 7 kindDark .refusedState []).unit =
        answer ++ putU16 (crc16 answer).toNat ∧
      (ServiceAnswer.frame ⟨7, kindDark, .refusedState, [], false⟩) =
        0x7E :: (body ++ putU16 (crc16 body).toNat) := by decide +kernel

/-- R188: the check value 0x29B1 goes out low byte first. -/
theorem test_check_goes_out_low_byte_first :
    (withCrc [0x31, 0x32, 0x33, 0x34, 0x35, 0x36, 0x37, 0x38, 0x39]).drop 9 = [0xB1, 0x29] := by
  decide +kernel

/-! ## Witnesses: states that meet the hypotheses of the statements -/

def requesters : List Requester := [.linkA, .linkB, .service, .composer, .driftSave]

/-- No decision is due: a check that decides. -/
def noDecisionCheck (s : State) : Bool :=
  s.composer.deferred.isNone &&
    (s.composerStopped ||
      match s.composer.running with
      | some ⟨_, .scrub _ true⟩ => false
      | some _ => true
      | none => s.composer.stack.isEmpty && s.composer.chosen.isNone)

/-- A state has nothing left to follow inside a step: a check that decides. -/
def steadyCheck (s : State) : Bool :=
  noDecisionCheck s && decide ((settleBanks s).driver = s.driver) &&
    (s.isRendering ||
      (match s.composer.staging with | .staged _ => false | .empty | .filling _ => true) &&
        s.render.pendingGain.isNone) &&
    (decide (s.store.port ≠ .free) || requesters.all fun r => !s.eligible r)

theorem noDecision_of_check {s : State} (h : noDecisionCheck s = true) : NoDecision s := by
  simp only [noDecisionCheck, Bool.and_eq_true, Bool.or_eq_true, Option.isNone_iff_eq_none] at h
  obtain ⟨hd, hs | hr⟩ := h
  · exact .inl ⟨hd, .inl hs⟩
  · rcases hc : s.composer.running with _ | ⟨level, work⟩
    · rw [hc] at hr
      simp only [Bool.and_eq_true, List.isEmpty_iff, Option.isNone_iff_eq_none] at hr
      rcases s.composer.chosen_spec with ⟨k, hk, -⟩ | ⟨-, hn⟩
      · rw [hr.2] at hk; exact nomatch hk
      · exact .inr ⟨hd, hc, hr.1, hn⟩
    · refine .inl ⟨hd, .inr ⟨_, hc, fun left hw => ?_⟩⟩
      simp only at hw
      rw [hc, hw] at hr
      exact Bool.noConfusion hr

theorem steady_of_check {s : State} (h : steadyCheck s = true) : Steady s := by
  simp only [steadyCheck, Bool.and_eq_true, Bool.or_eq_true, decide_eq_true_eq,
    Option.isNone_iff_eq_none, List.all_eq_true, Bool.not_eq_true'] at h
  obtain ⟨⟨⟨hn, hk⟩, hm⟩, hp⟩ := h
  refine ⟨noDecision_of_check hn, ?_, hm.imp_right fun h => ⟨fun z hz => ?_, h.2⟩,
    hp.imp_right fun h r hs => ?_⟩
  · show s.setDriver (settleBanks s).driver = s
    rw [hk]; rfl
  · rw [hz] at h; exact Bool.noConfusion h.1
  · rw [← s.eligible_iff, h r (by cases r <;> decide)] at hs
    exact Bool.noConfusion hs

/-- What stands in a steady state stands in a calm one. -/
theorem Steady.calm {s : State} (h : Steady s) : Calm s := ⟨h.2.1, h.2.2.1⟩

/-- A link that is READY and FRESH. -/
def readyLink : LinkPort := { LinkPort.reset with state := .ready, credits := 4, fresh := true }

/-- A started part, CLOSED and rendering from link A, with GAIN running and the store free. -/
def up : State :=
  { State.reset with
    chip :=
      { Chip.reset with
        phase := .running, coldStart := false, config := .closed, straps := ⟨0, 0, true⟩ }
    composer :=
      { Composer.reset with buildSet := [], running := some ⟨2, .gain State.reset.gainInputs⟩ }
    store := { Store.reset with port := .free }
    authority := { Authority.reset with holder := some .a, output := .rendering }
    linkA := readyLink
    linkB := readyLink
    service := { ServiceLine.reset with line := .locked, bitTime := some 100 } }

/-- The same in another power state. -/
def upIn (p : PowerState) : State := { up with chip := { up.chip with power := p } }

/-- The same while configuration is OPEN. -/
def upOpen : State := { up with chip := { up.chip with config := .opened } }

/-- The same with the store's port taken. -/
def taken (s : State) : State :=
  { s with store := { s.store with port := .granted (.read 0) } }

/-- The same with a composer that is free. -/
def idle (s : State) : State := { s with composer := { s.composer with running := none } }

/-- A request waits at the head of link A's prompt queue. -/
def prompted (s : State) (kind : Byte) (body : List Byte) : State :=
  { s with linkA := { s.linkA with prompts := [⟨kind, 1, body⟩] } }

/-- The states in which nothing follows: with a job running, with the composer idle (also past a
BUILD that waits parked), stopped, and with the port taken. -/
theorem test_steady_states :
    let parked : State :=
      { idle up with
        composer :=
          { (idle up).composer with parked := true, staging := .staged ⟨5, 0, [], 0, 0⟩ } }
    ∀ s ∈ [up, upOpen, taken up, upIn .dark, upIn .restingEntry, upIn .rest, upIn .restSample,
        idle up, idle upOpen, idle (taken up), idle (upIn .dark), idle (upIn .restingEntry),
        idle (upIn .rest), parked], Steady s :=
  fun s hs => steady_of_check (List.all_eq_true.mp (by decide +kernel) s hs)

/-- The statements with a decision: a free composer with a kind chosen, and with none; a SCRUB on
the stack to be resumed. -/
theorem test_free_composer :
    let w : State := { idle up with composer := { (idle up).composer with scrubPending := true } }
    let e : State :=
      { idle up with composer := { (idle up).composer with stack := [⟨.scrub, 0, 5⟩] } }
    (∀ s ∈ [idle up, w, e],
      s.composerStopped = false ∧ s.composer.running = none ∧ s.composer.deferred = none) ∧
      w.composer.chosen = some .scrub ∧ Chosen w.composer .scrub ∧ NoneChosen e.composer := by
  refine ⟨by decide +kernel, rfl, ⟨rfl, Nat.zero_le _, fun j hj _ => ?_⟩, fun k hk => ?_⟩
  · cases j
    · exact nomatch hj
    · exact nomatch hj
    · exact absurd rfl hj.1
    · exact .inr ⟨rfl, le_rfl⟩
  · cases k
    · exact nomatch hk
    · exact nomatch hk
    · exact absurd rfl hk.1
    · exact nomatch hk

/-- Two requests wait at the port; the pointer stands at phase 14. -/
def contended (s : State) : State :=
  { s with
    store :=
      { s.store with
        waiting := { Waiting.none with composer := some 3, service := some (.block ⟨9, [], 0⟩) }
        phasePointer := 14 } }

/-- `Scanned`: of the COMPOSER's request (phases 14, 0, 2, …) and SERVICE's (5, 13) the first from
the pointer on wins; while the composer is stopped its request is passed over, and where it waits
alone nothing is granted. -/
theorem test_scan_among_requests :
    let p (s : State) := s.store.phasePointer
    let first (n : Nat) (r : Requester) (s : State) : Prop :=
      s.store.phaseTable[(p s + n) % 16]? = some r ∧ s.eligible r = true ∧
        ∀ m < n, s.eligible (s.store.phaseTable.getD ((p s + m) % 16) .composer) = false
    let c := contended up
    let r := contended (upIn .rest)
    let alone : State :=
      { r with store := { r.store with waiting := { r.store.waiting with service := none } } }
    c.store.phaseTable.length = 16 ∧ first 0 .composer c ∧
      (settleStore c).store.port = .granted (.read 3) ∧ (settleStore c).store.phasePointer = 15 ∧
      (settleStore c).store.waiting = { c.store.waiting with composer := none } ∧
      first 7 .service r ∧
      (settleStore r).store.port = .granted (.program .service ⟨9, [], 0⟩) ∧
      (settleStore r).store.phasePointer = 6 ∧
      (settleStore r).store.waiting = { r.store.waiting with service := none } ∧
      steadyCheck alone = true := by decide +kernel

/-- DarkAndLight, ServiceLineRate, TemperatureCompletions, IdentityAndDriftEnd: the part leaves
the rest with its job running, with a free composer, with a read kept for a SCRUB (of a block that
a program has rewritten since: log 33), and with the composer's request waiting. -/
theorem test_leaving_the_rest :
    let k (s : State) : State :=
      { s with
        composer :=
          { s.composer with
            running := some ⟨0, .scrub 3 false⟩, deferred := some ⟨2, .valid, erasedBlock⟩ } }
    let q (s : State) : State :=
      { s with store := { s.store with waiting := { Waiting.none with composer := some 3 } } }
    (∀ s ∈ [upIn .rest, idle (upIn .rest), q (upIn .rest), upIn .restSample,
        idle (upIn .restSample)], steadyCheck s = true ∧ s.started = true) ∧
      ((settle (leaveRest .run (k (upIn .rest)))).blockState 2 = .invalid ∧
        (settle (leaveRest .run (k (upIn .rest)))).composer.buildSet = [2] ∧
        (settle (leaveRest .run (k (upIn .rest)))).composer.stack = [⟨.scrub, 0, 2⟩] ∧
        (settle (leaveRest .run (q (upIn .rest)))).store.port = .granted (.read 3)) := by
  decide +kernel

/-- A prompt in a queue leaves the rest as it is. -/
theorem steady_prompted {s : State} (h : Steady s) (kind : Byte) (body : List Byte) :
    Steady (prompted s kind body) := by
  obtain ⟨hb, hk, hr, hp⟩ := h
  refine ⟨hb, ?_, hr, hp⟩
  have hd : (settleBanks s).driver = s.driver := congrArg State.driver hk
  show (prompted s kind body).setDriver (settleBanks s).driver = prompted s kind body
  rw [hd]
  rfl

/-- Every request can be asked from a link, in every state of a started part whose port waits. -/
theorem test_asked_on_a_link {α : Type} (kind : Byte) (layout : α → List Byte) (a : α)
    (p : PowerState) :
    Asks (.port .a) kind layout a (prompted (upIn p) kind (layout a)) ∧
      Asks (.port .a) kind layout a (prompted upOpen kind (layout a)) ∧
      Asks (.port .a) kind layout a (prompted (taken (upIn p)) kind (layout a)) ∧
      mayPass (.port .a : Via α) (prompted (upIn p) kind (layout a)) :=
  ⟨⟨rfl, rfl, 1, [], rfl⟩, ⟨rfl, rfl, 1, [], rfl⟩, ⟨rfl, rfl, 1, [], rfl⟩, rfl⟩

/-- Every request can be asked from the tool. -/
theorem test_asked_by_the_tool {α : Type} (kind : Byte) (layout : α → List Byte) (a : α)
    (p : PowerState) :
    Asks (.tool 1 a) kind layout a (upIn p) ∧ Asks (.tool 1 a) kind layout a upOpen ∧
      mayPass (.tool 1 a) (upIn p) :=
  ⟨⟨rfl, rfl, rfl, Nat.zero_lt_succ 7⟩, ⟨rfl, rfl, rfl, Nat.zero_lt_succ 7⟩, trivial⟩

/-- A power command from link B, which holds no authority. -/
theorem test_asked_without_authority :
    let s := { up with linkB := { up.linkB with prompts := [⟨kindRest, 1, []⟩] } }
    Asks (.port .b) kindRest noBody () s ∧ s.authority.holder ≠ some .b :=
  ⟨⟨rfl, rfl, 1, [], rfl⟩, by decide⟩

/-- StepRunsTheFrontCommand. -/
theorem test_queue_witnesses :
    let r : State := { upIn .rest with chip := { (upIn .rest).chip with restWake := 2 } }
    (up.setPending [.idle]).pending = [.idle] ∧
      (r.pending = [] ∧ r.live = true ∧ r.chip.power = .rest ∧ 1 < r.chip.restWake) ∧
      up.pending = [] ∧ ¬(up.live = true ∧ up.chip.power = .rest ∧ 1 < up.chip.restWake) := by
  decide

/-- `up` with its pin level, in a phase. -/
def pinned (p : Phase) (low : Bool) : State :=
  { up with chip := { up.chip with phase := p, pinLow := low } }

/-- PowerKeepsOnlyTheStore, AbandonedWriteChecksInvalid, WarmResetsClearAndKeep: a part with
nothing being written, one with a program in force, each live with a reset due; the pin's levels
and the phases it makes. -/
theorem test_reset_witnesses :
    let s : State := { up with chip := { up.chip with resetDue := [.linkA] } }
    let w : State := { s with store :=
      { s.store with port := .granted (.program .linkA ⟨0, [], 0⟩) } }
    NoWriteGrant s ∧ s.live = true ∧ WarmCause.linkA ∈ s.chip.resetDue ∧
      w.live = true ∧ w.store.port = .granted (.program .linkA ⟨0, [], 0⟩) ∧
      s.chip.pinLow = false ∧ (pinned .off true).chip.pinLow = true ∧
      (∀ p ∈ [Phase.off, .held, .poweringUp],
        NoWriteGrant (pinned p true) ∧ (pinned p true).live = false ∧
          (pinned p true).chip.phase = p) ∧
      s.chip.phase ≠ .held ∧ s.chip.phase ≠ .poweringUp :=
  ⟨(fun _ h => nomatch h), rfl, by decide, rfl, rfl, rfl, rfl,
    fun p hp => ⟨(fun _ h => nomatch h), by revert p; decide, rfl⟩, by decide, by decide⟩

/-- R175, R176: a pin that is low when power comes up holds the part in its POWER reset, whose end
is the release; a drive while power is good makes it a PIN reset. A release alone ends nothing. -/
theorem test_reset_pin :
    let next (c : Instr) (s : State) : State :=
      match exec c s with
      | .next t => t
      | _ => s
    let low := next (.powerOn ⟨1, 1, true⟩) (next .resetPinDrivenLow (next .powerLoss up))
    let cold := next (.resetPinRelease ⟨2, 3, true⟩) low
    let warm := next (.resetPinRelease ⟨1, 0, true⟩) (next .resetPinDrivenLow cold)
    (low.chip.phase = .poweringUp ∧ low.live = false) ∧
      (cold.chip.phase = .checking ∧ cold.chip.causes = [.power] ∧
        cold.chip.straps = ⟨2, 3, true⟩) ∧
      (warm.chip.phase = .checking ∧ warm.chip.causes = [.power, .pin] ∧
        warm.chip.straps = ⟨1, 0, true⟩ ∧ warm.chip.pinLow = false) ∧
      (next (.resetPinRelease ⟨2, 3, true⟩) up).chip = up.chip := by decide +kernel

/-- The hypotheses of StartupChecksAndRound. -/
def MayCheck (s : State) : Prop :=
  s.chip.phase = .checking ∧ s.chip.config = .opened ∧ s.chip.power = .run ∧
    s.composer = Composer.reset ∧ s.store.waiting = Waiting.none ∧
    s.store.blockStates.length = 256 ∧ s.thermal.round = none ∧ BusIdle s ∧
    s.settings = Settings.default ∧ s.render.pendingGain = none ∧ s.driver.rows = [] ∧
    ∀ b ∈ s.driver.banks, b.policy = .park ∧ b.priming = .active ∧ b.timer = 0

/-- StartupChecksAndRound: the state after a POWER reset, and one of a warm start-up. -/
theorem test_startup_witnesses :
    MayCheck State.reset ∧ State.reset.chip.coldStart = true ∧
      MayCheck { State.reset with chip := { Chip.reset with coldStart := false } } :=
  have banks : ∀ b ∈ List.replicate 16 Bank.reset,
      b.policy = .park ∧ b.priming = .active ∧ b.timer = 0 := fun _ hb =>
    List.eq_of_mem_replicate hb ▸ ⟨rfl, rfl, rfl⟩
  ⟨⟨rfl, rfl, rfl, rfl, rfl, List.length_replicate .., rfl, ⟨rfl, rfl⟩, rfl, rfl, rfl, banks⟩,
    rfl,
    ⟨rfl, rfl, rfl, rfl, rfl, List.length_replicate .., rfl, ⟨rfl, rfl⟩, rfl, rfl, rfl, banks⟩⟩

/-- StartupChecksAndRound: a drift record that reads valid and one that does not. -/
theorem test_drift_records :
    let bs := driftBytes Wear.reset
    driftValid ⟨bs, crc16 bs, false⟩ = true ∧ driftValid ⟨bs, crc16 bs, true⟩ = false := by
  have hk : driftKappa (driftBytes Wear.reset) = ⟨65536, 65536, 65536⟩ := by decide +kernel
  refine ⟨?_, rfl⟩
  simp only [driftValid, hk, crcMatches, beq_self_eq_true]
  decide

/-- MillisecondStep, ThermalTickRound, PilotSequenceSteps, ScrubAndSaveTicks,
ReportTickReports. -/
theorem test_tick_witnesses :
    let o : State :=
      { up with
        thermal := { up.thermal with round := some ⟨[0], true, false, false⟩ }
        sensors := { up.sensors with inFlight := some ⟨.temp 0, [.thermal], 0, 5⟩ } }
    let m : State :=
      { up with
        store := { up.store with constants := { Constants.default with ref := ⟨40000, 0, 0⟩ } } }
    let n : State := { up with wear := { up.wear with state := .settle .r } }
    (up.timebaseRuns = true ∧ up.started = true ∧ up.thermal.round = none ∧
      up.sensors.queue = [] ∧ up.sensors.inFlight = none ∧ up.present ≠ [] ∧
      up.store.port = .free ∧ up.store.waiting = Waiting.none ∧
      up.store.phaseTable.length = 16 ∧ .driftSave ∈ up.store.phaseTable) ∧
    (steadyCheck o = true ∧ o.timebaseRuns = true ∧ o.thermal.round.isSome ∧
      o.sensors.inFlight ≠ none) ∧
    (steadyCheck m = true ∧ m.wear.state = .idle ∧ m.chip.power = .run ∧
      m.chip.config = .closed ∧ m.wear.staleRead = none ∧ m.store.constants.ref.r ≠ 0) ∧
    (steadyCheck n = true ∧ n.wear.state = .settle .r ∧ n.wear.state ≠ .idle ∧
      n.sensors.queue = [] ∧ n.sensors.inFlight = none) ∧
    (taken up).store.port ≠ .free := by decide +kernel

/-- ThermalTickRound: a light transaction in flight; no sensor in the map, the composer at work and
idle. PilotSequenceSteps: the first emitter with a reference is R, is G, is none. -/
theorem test_round_and_sequence_openings :
    let l : State :=
      { up with sensors := { up.sensors with inFlight := some ⟨.light .g, [.wear], 0, 5⟩ } }
    let n (s : State) : State := { s with settings := { s.settings with sensorMap := [] } }
    let c (refs : Rgb Nat) : State :=
      { up with store := { up.store with constants := { Constants.default with ref := refs } } }
    let first (s : State) : Option Emitter :=
      [Emitter.r, .g, .b].find? fun e => !decide (Rgb.get s.store.constants.ref e = 0)
    (steadyCheck l = true ∧ l.thermal.round = none ∧ l.sensors.queue = [] ∧ l.present ≠ []) ∧
      (∀ s ∈ [n up, n (idle up)], steadyCheck s = true ∧ s.timebaseRuns = true ∧
        s.thermal.round = none ∧ s.present = [] ∧ s.sensors.queue = [] ∧
        s.sensors.inFlight = none) ∧
      (first (c ⟨1, 1, 1⟩) = some .r ∧ first (c ⟨0, 1, 1⟩) = some .g ∧
        first (c ⟨0, 0, 0⟩) = none) ∧
      ∀ s ∈ [c ⟨1, 1, 1⟩, c ⟨0, 1, 1⟩, c ⟨0, 0, 0⟩], steadyCheck s = true ∧
        s.wear.staleRead = none ∧ s.wear.state = .idle := by decide +kernel

/-- RestWakeAndPriming. -/
theorem test_rest_wake_and_priming :
    let s := upIn .rest
    let k : Bank := { Bank.reset with policy := .float, priming := .priming, timer := 20 }
    let b : State := { up with driver := { up.driver with banks := up.driver.banks.set 15 k } }
    (s.started = true ∧ s.chip.power = .rest ∧ s.thermal.round = none ∧ s.sensors.queue = [] ∧
      s.sensors.inFlight = none ∧ s.present ≠ []) ∧
    b.timebaseRuns = true ∧ b.driver.banks[15]? = some k ∧ k.priming = .priming := by
  decide +kernel

/-- HoldingAndBlanking, LinkGoesDown: with the other link usable, and not. -/
theorem test_hold_witnesses :
    let s : State := { up with linkB := LinkPort.reset }
    let h : State := { up with authority := { up.authority with output := .holding } }
    (up.timebaseRuns = true ∧ up.started = true ∧ up.live = true ∧
      (up.link .a).fresh = true ∧ (up.link .a).state = .ready ∧
      up.authority.holder = some .a ∧ up.authority.output = .rendering ∧
      (up.link Link.a.other).usable = true) ∧
    (steadyCheck s = true ∧ s.timebaseRuns = true ∧ s.started = true ∧
      (s.link .a).fresh = true ∧ s.authority.holder = some .a ∧
      s.authority.output = .rendering ∧ (s.link Link.a.other).usable = false) ∧
    (steadyCheck h = true ∧ h.timebaseRuns = true ∧ h.authority.output = .holding ∧
      h.settings.blankAfter ≠ 0) := by decide +kernel

/-- HoldingAndBlanking: a link without authority goes stale, with its take pending and without. -/
theorem test_other_link_stale :
    let p : State := { up with authority := { up.authority with pendingTake := some .b } }
    ∀ s ∈ [up, p], steadyCheck s = true ∧ s.timebaseRuns = true ∧ (s.link .b).fresh = true ∧
      s.authority.holder ≠ some .b := by decide +kernel

/-- HoldingAndBlanking, LinkGoesDown, FrameHeadActs: the authority link leaves while the output
holds or is blanked and the other link is not usable, with a composer at work and idle. -/
theorem test_no_picture_to_hold :
    ∀ o ∈ [OutputState.holding, .blanked], ∀ s ∈ [up, idle up],
      let h : State :=
        { s with authority := { s.authority with output := o }, linkB := LinkPort.reset }
      steadyCheck h = true ∧ h.live = true ∧ h.timebaseRuns = true ∧
        (h.link .a).state = .ready ∧ h.authority.holder = some .a ∧
        (h.link Link.a.other).usable = false ∧ h.authority.output ≠ .rendering := by
  decide +kernel

/-- ReportTickReports, QueriesReadAndChangeNothing: the sizes of what is held, in the state after
a POWER reset. -/
theorem test_sizes_held :
    let s := State.reset
    s.store.constants.serial.length = 8 ∧ s.store.blockStates.length = 256 ∧
      s.wear.zones.length = 16 ∧ s.gain.zones.length = 16 ∧ s.render.zones ≠ [] ∧
      s.thermal.round = none ∧ s.composer.running = none := by decide +kernel

/-! ## Units whose checks pass -/

/-- A unit with its link check as it should be. -/
def soundUnit (kind : Byte) (body : List Byte) : LinkUnit :=
  ⟨1, body, crc16 (checkedBytes kind ⟨1, body, 0⟩)⟩

theorem linkCheckPasses_soundUnit (kind : Byte) (body : List Byte) :
    linkCheckPasses kind (soundUnit kind body) = true := beq_self_eq_true _

/-- A unit with its link check wrong. -/
theorem test_link_check_fails (kind : Byte) (body : List Byte) :
    linkCheckPasses kind
      { soundUnit kind body with check := ~~~(soundUnit kind body).check } = false := by
  have : (soundUnit kind body).check ≠ ~~~(soundUnit kind body).check := by bv_omega
  exact beq_eq_false_iff_ne.mpr this

/-- LinkBringUp, LinkReceipt: each state of the bring-up. -/
theorem test_link_states :
    ∀ x : LinkState, ∃ s : State, s.live = true ∧ s.timebaseRuns = true ∧
      (s.link .a).state = x ∧ (s.link .a).prompts.length < 8 :=
  fun x => ⟨{ up with linkA := { readyLink with state := x } }, rfl, rfl, rfl,
    Nat.zero_lt_succ 7⟩

/-- LinkReceipt: a full prompt queue. -/
theorem test_full_prompt_queue :
    let s : State :=
      { up with linkA := { readyLink with prompts := List.replicate 8 ⟨0x11, 0, []⟩ } }
    s.live = true ∧ (s.link .a).state = .ready ∧ 8 ≤ (s.link .a).prompts.length ∧
      (0x11 : Byte) ∉ ownRowKinds := by decide

/-- FrameHeadActs: from the authority link, from one that takes authority, from one that does
not, and during start-up. -/
theorem test_frame_heads :
    let u := soundUnit 0x01 [0, 0]
    let none' : State := { up with authority := { up.authority with holder := none } }
    let start : State := { none' with chip := { none'.chip with phase := .polling } }
    linkCheckPasses 0x01 u = true ∧ u.body.length = 2 ∧
      (up.live = true ∧ (up.link .b).state = .ready ∧ up.authority.holder ≠ some .b ∧
        (up.link .a).usable = true ∧ up.authority.pendingTake ≠ some .b) ∧
      (steadyCheck none' = true ∧ none'.started = true ∧ none'.authority.holder = none) ∧
      steadyCheck start = true ∧ start.started = false ∧ start.live = true := by
  refine ⟨linkCheckPasses_soundUnit _ _, rfl, ?_, ?_, ?_⟩ <;> decide +kernel

/-- The body of a ROW, for row `y` of a 32 pixels wide tile, with its CRC as it should be. -/
def rowBody (y pixels : Nat) : List Byte :=
  let covered := putU16 y ++ List.replicate (6 * pixels) 0
  covered ++ putU16 (crc16 covered).toNat

theorem crc_rowBody (y pixels : Nat) :
    crc16 ((rowBody y pixels).take ((rowBody y pixels).length - 2)) =
      getCrc ((rowBody y pixels).length - 2) (rowBody y pixels) := by
  unfold rowBody
  generalize putU16 y ++ List.replicate (6 * pixels) (0 : Byte) = cs
  have hl : (cs ++ putU16 (crc16 cs).toNat).length - 2 = cs.length := by
    rw [List.length_append, putU16, length_leBytes]
    omega
  rw [hl, List.take_left]
  exact (getCrc_withCrc cs).symm

/-- RowActs: a ROW admitted and computed, one out of the tile, one of a wrong length, one whose
CRC fails. -/
theorem test_rows :
    (∀ y pixels, linkCheckPasses 0x02 (soundUnit 0x02 (rowBody y pixels)) = true) ∧
      (up.live = true ∧ (up.link .a).state = .ready ∧ up.started = true ∧ up.width = 32 ∧
        up.height = 32 ∧ up.authority.holder = some .a ∧ up.authority.output = .rendering ∧
        up.chip.power = .run ∧ up.chip.config = .closed ∧ (up.bank 3).mode = .render ∧
        (up.bank 3).priming = .active) ∧
      (getU16 0 (rowBody 31 32) = 31 ∧ (rowBody 31 32).length = 4 + 6 * up.width) ∧
      getU16 0 (rowBody 32 32) = 32 ∧
      (4 ≤ (rowBody 31 31).length ∧ (rowBody 31 31).length ≠ 4 + 6 * up.width) ∧
      crc16 [0, 0] ≠ getCrc 2 [0, 0, 0, 0] := by
  have hn : ∀ y n, (rowBody y n).length = 4 + 6 * n := by
    intro y n
    simp only [rowBody, putU16, List.length_append, length_leBytes, List.length_replicate]
    omega
  refine ⟨fun y n => linkCheckPasses_soundUnit _ _, by decide +kernel, ⟨rfl, hn 31 32⟩, rfl,
    ⟨?_, ?_⟩, by decide +kernel⟩ <;> rw [hn] <;> decide

/-- A BLOCK's body for block `i`, with its content CRC as it should be. -/
def blockBody (i : Nat) (records : List Byte) : List Byte :=
  putU16 i ++ records ++ putU16 (crc16 records).toNat

/-- LinkBlockActs, ToolPrograms: any content for a block is carried with its CRC. -/
theorem test_block_content (i : Nat) {records : List Byte} (h : records.length = 1152) :
    (blockBody i records).length = 1156 ∧ slice 2 1152 (blockBody i records) = records ∧
      getCrc 1154 (blockBody i records) = crc16 records := by
  have h2 : (putU16 i).length = 2 := length_leBytes 2 _
  have hc : (putU16 (crc16 records).toNat).length = 2 := length_leBytes 2 _
  have hl : (putU16 i ++ records).length = 1154 := by rw [List.length_append, h2, h]
  refine ⟨by rw [blockBody, List.length_append, hl, hc], ?_, ?_⟩
  · unfold blockBody slice
    rw [List.append_assoc, ← h2, List.drop_left, List.take_append_of_le_length h.ge,
      List.take_of_length_le h.le]
  · have hs : slice 1154 2 (blockBody i records) = putU16 (crc16 records).toNat := by
      unfold blockBody slice
      rw [← hl, List.drop_left, List.take_of_length_le hc.le]
    rw [getCrc, getU16, hs, getU16_putU16, BitVec.ofNat_toNat, BitVec.setWidth_eq]

/-- LinkBlockActs, ToolPrograms: the last block of the tile and the first beyond it. -/
theorem test_block_places_free (records : List Byte) :
    getU16 0 (blockBody 15 records) = 15 ∧ up.blockCount = 16 ∧
    getU16 0 (blockBody 16 records) = 16 ∧
    (up.live = true ∧ (up.link .a).state = .ready ∧ 0 < (up.link .a).credits ∧
      (up.link .a).outstanding = .none ∧ (up.link .a).bulk = [] ∧
      up.store.port = .free ∧ up.store.waiting = Waiting.none ∧
      up.store.phaseTable.length = 16 ∧ .linkA ∈ up.store.phaseTable ∧
      up.store.blockStates.length = 256 ∧ up.service.sends.length < 8) := by
  refine ⟨rfl, rfl, rfl, ?_⟩
  decide +kernel

/-- LinkBlockActs: no credit, a program outstanding, a port taken. -/
theorem test_block_places :
    let z : State := { up with linkA := { readyLink with credits := 0 } }
    let q : State := { up with linkA := { readyLink with outstanding := .orphaned 3 } }
    (z.link .a).credits = 0 ∧ (z.link .a).state = .ready ∧
      (q.link .a).outstanding ≠ .none ∧ steadyCheck q = true ∧
      (taken up).store.port ≠ .free ∧ (taken up).link .a = readyLink := by decide +kernel

/-- LinkBlockActs: a BLOCK that joins a queue, behind a program in force and at a free port. -/
theorem test_block_queues :
    let b : LinkPort :=
      { readyLink with credits := 3, bulk := [⟨1, ⟨0, [], 0⟩⟩], outstanding := .current }
    let g : State :=
      { up with
        linkA := b, store := { up.store with port := .granted (.program .linkA ⟨0, [], 0⟩) } }
    let o : State := { up with linkA := { readyLink with outstanding := .orphaned 3 } }
    ∀ s ∈ [g, o, { o with composer := (idle up).composer }],
      steadyCheck s = true ∧ s.live = true ∧ (s.link .a).state = .ready ∧
        0 < (s.link .a).credits ∧ (s.link .a).outstanding ≠ .none := by decide +kernel

/-- RestBeginsWithAMarkedSave: a free port, and no decision due once the part has entered: with a
job running, and with the composer idle. -/
theorem test_rest_entry_at_a_free_port :
    ∀ s ∈ [up, idle up, upIn .dark, idle (upIn .dark)],
      let e := s.setChip { s.chip with power := .restingEntry, held := .none }
      noDecisionCheck (e.setComposer (composerInForce e)) = true ∧ s.store.port = .free ∧
        s.store.waiting = Waiting.none ∧ .driftSave ∈ s.store.phaseTable := by decide +kernel

/-- MessagesLeaveAndBadPrompts. -/
theorem test_messages :
    let s : State :=
      { up with
        linkA :=
          { readyLink with
            sends := [.answer .resetPrompt 1 kindReset .done []]
            prompts := [⟨0x55, 1, []⟩, ⟨kindTake, 2, [0]⟩] }
        service := { up.service with sends := [⟨1, kindReset, .done, [], true⟩] } }
    s.live = true ∧ s.started = true ∧ (s.link .a).sends.length = 1 ∧
      s.service.sends.length = 1 ∧ (s.link .a).awaiting = false ∧
      (∀ n < 10, (0x55 : Byte) ≠ BitVec.ofNat 8 (0x10 + n)) ∧
      parseRequest kindTake [0] = none := by decide

/-- WallStoredAndInForce, TakeIsJudgedAtHandling: records at their bounds; both judgements. -/
theorem test_wall_and_take :
    let b : State := { up with linkB := LinkPort.reset }
    recordFits ⟨65535, ⟨⟨-32768, 32767, 0⟩, ⟨0, 0, 0⟩, ⟨0, 0, 0⟩⟩, 4294967295⟩ ∧
      recordFits powerOnRecord ∧ up.authority.holder = some .a ∧
      up.authority.holder ≠ some .b ∧ (up.link .b).usable = true ∧
      (b.link .b).usable = false := by
  simp only [recordFits, matFits, rowFits]
  decide

/-- TakeIsJudgedAtHandling: a TAKE from an authority link that is not usable, which two rows of R140
name: the first is taken (log 34). -/
theorem test_take_from_a_stale_authority :
    let s : State :=
      prompted
        { up with
          linkA := { readyLink with fresh := false }
          authority := { up.authority with output := .holding } } kindTake []
    s.authority.holder = some .a ∧ (s.link .a).usable = false ∧ s.started = true ∧
      takeCommand .a s = some (s.setAuthority { s.authority with pendingTake := none }) :=
  ⟨rfl, rfl, rfl, rfl⟩

/-- RebuildJoinsItsZones: zones at both bounds, and one beyond. -/
theorem test_rebuilds :
    ([0, 15] : List Byte).length ≤ 255 ∧ ([0, 15] : List Byte) ≠ [] ∧
      (∀ z ∈ ([0, 15] : List Byte), z.toNat ≤ 15) ∧
      ∃ z ∈ ([16] : List Byte), 15 < z.toNat := by decide

/-- HoldTimeAndBlankAfter: values at and beyond the ranges' ends, and states on either side. -/
theorem test_hold_time_values :
    let s : State :=
      { up with linkA := { readyLink with age := 50 }, linkB := LinkPort.reset }
    let h : State :=
      { up with authority := { up.authority with output := .holding, holdingTime := 5000 } }
    let a : State := { up with linkA := { readyLink with age := 20 } }
    ((20 : U32).toInt = 20 ∧ (1000 : U32).toInt = 1000 ∧ (0xFFFFFFFF : U32).toInt = -1) ∧
    (∀ l, (up.link l).fresh = true → (up.link l).age < 20) ∧
    (steadyCheck s = true ∧ s.authority.holder = some .a ∧ (s.link .a).fresh = true ∧
      20 ≤ (s.link .a).age ∧ (s.link Link.a.other).usable = false ∧
      s.authority.output = .rendering) ∧
    (steadyCheck h = true ∧ h.authority.output = .holding ∧
      5 * 1000 ≤ h.authority.holdingTime) ∧
    (steadyCheck a = true ∧ a.authority.holder = some .a ∧ (a.link .a).fresh = true ∧
      20 ≤ (a.link .a).age ∧ (a.link Link.a.other).usable = true ∧ (a.link .b).age < 20) := by
  refine ⟨by decide, ?_, by decide +kernel, by decide +kernel, by decide +kernel⟩
  intro l _
  cases l <;> decide

/-- TablesLockedAtClose, OwnersTakeTheirSettings: a table that names all five and one that does
not; the states of both configurations. -/
theorem test_locked_settings :
    defaultPhaseTable.length = 16 ∧
      (∀ r ∈ [Requester.linkA, .linkB, .service, .composer, .driftSave],
        r ∈ defaultPhaseTable) ∧
      (List.replicate 16 Requester.linkA).length = 16 ∧
      ¬(∀ r ∈ [Requester.linkA, .linkB, .service, .composer, .driftSave],
        r ∈ List.replicate 16 Requester.linkA) ∧
      up.chip.config = .closed ∧ upOpen.chip.config = .opened ∧
      upOpen.driver.banks[15]? = some Bank.reset ∧
      (15 : U32).toInt = 15 ∧ (16 : U32).toInt = 16 := by decide

/-- TrimAndWearClear, BankAndLatch, ServiceLineRate, ServiceFrames. -/
theorem test_tool_witnesses :
    let s := taken up
    let w : State := { up with service := { ServiceLine.reset with line := .awaitSync } }
    let f : State := { up with service := { up.service with receiving := some [0x05] } }
    (s.started = true ∧ s.live = true ∧ s.service.line = .locked ∧ s.service.sends.length < 8 ∧
      s.store.port ≠ .free ∧ s.wear.zones.length = 16 ∧ s.wear.clearMarks.length = 16 ∧
      s.service.receiving = none ∧ s.service.bitTime = some 100 ∧ 20 * 100 < 2001) ∧
    (steadyCheck w = true ∧ w.live = true ∧ w.chip.straps.serviceEnable = true ∧
      w.service.line = .awaitSync ∧ 16 ≤ 144 / 9 ∧ 15011 / 9 ≤ 1667 ∧ ¬16 ≤ 143 / 9) ∧
    f.service.receiving = some [0x05] ∧
    ∀ p ∈ [PowerState.dark, .restingEntry, .rest, .restSample],
      steadyCheck { w with chip := { w.chip with power := p } } = true := by decide +kernel

/-- TrimAndWearClear, ToolPrograms: a steady part whose free port grants a request at once. -/
theorem test_open_port :
    steadyCheck up = true ∧ OpenTo .driftSave up ∧ OpenTo .service up ∧
      up.service.outstanding = none ∧ up.store.blockStates.length = 256 :=
  ⟨by decide +kernel, ⟨rfl, rfl, rfl, by decide⟩, ⟨rfl, rfl, rfl, by decide⟩, rfl, by decide +kernel⟩

/-- ServiceFrames: a command with its frame; a full send queue; a part in start-up; a kind that the
tool may not send. -/
theorem test_frame_witnesses :
    let full : State := { up with service := { up.service with
      sends := List.replicate 8 ⟨0, kindTrim, .done, [], false⟩ } }
    toolFrame (.trim 7 ⟨1, 0, 0xFC⟩) = some (kindTrim, 7, [1, 0, 0xFC]) ∧
      (Instr.trim 7 ⟨1, 0, 0xFC⟩).wellFormed = true ∧
      toolFrame (.setHoldTime (.tool 7 100)) = some (kindSet, 7, [3, 0, 100, 0, 0, 0]) ∧
      toolFrame (.setPhaseTable (.tool 7 defaultPhaseTable)) =
        some (kindSet, 7, [2, 0, 3, 0, 3, 1, 3, 2, 3, 4, 3, 0, 3, 1, 3, 2, 3, 4]) ∧
      toolFrame (.latch 7 3 ⟨1, 0x1234, 2⟩) = some (kindLatch, 7, [3, 1, 0, 0x34, 0x12, 2, 0]) ∧
      (8 ≤ full.service.sends.length ∧ full.live = true ∧ full.service.receiving = none) ∧
      (pinned .polling false).started = false ∧ (pinned .polling false).live = true ∧
      kindWall ∉ toolKinds ∧ kindTake ∉ toolKinds := by decide +kernel

/-- ToolPrograms: a program outstanding, and one held as well. -/
theorem test_tool_program_places :
    let o : State :=
      { taken up with service := { up.service with outstanding := some ⟨1, kindBlock, false⟩ } }
    let h : State :=
      { o with service := { o.service with hold := some ⟨2, .block ⟨0, [], 0⟩⟩ } }
    o.service.outstanding.isSome ∧ o.service.hold = none ∧ h.service.hold.isSome ∧
      h.store.port ≠ .free ∧ identityInRange (List.replicate 184 0) = false := by
  decide +kernel

/-! ## Completions -/

/-- A part whose transaction for temperature sensor 3 is in flight, with a round open. -/
def sensing (p : Phase) (w : PowerState) (r : Option Round) : State :=
  { upIn w with
    chip := { up.chip with phase := p, power := w }
    sensors := { up.sensors with inFlight := some ⟨.temp 3, [.thermal], 2, 5⟩ }
    thermal := { up.thermal with round := r } }

/-- TemperatureCompletions: a round that goes on, with the next request waiting. -/
theorem test_next_transaction :
    let s : State :=
      { sensing .running .run (some ⟨[0, 3], true, false, false⟩) with
        sensors := { (sensing .running .run none).sensors with queue := [⟨.temp 0, [.thermal]⟩] } }
    steadyCheck s = true ∧ s.live = true ∧ 0 ∈ s.settings.sensorMap ∧
      s.thermal.round.isSome ∧ s.sensors.temps.length = 4 ∧ s.sensors.counts.length = 5 ∧
      ([0, 3].filter (· ≠ 3)) ≠ [] := by decide +kernel

/-- TemperatureCompletions: no round, and the ends of rounds with their marks, in steady
states. -/
theorem test_temperature_witnesses :
    (∀ s ∈ [sensing .running .run none,
        sensing .running .run (some ⟨[3], true, false, false⟩),
        sensing .polling .run (some ⟨[3], false, false, true⟩),
        idle (sensing .polling .run (some ⟨[3], false, false, true⟩)),
        sensing .running .restSample (some ⟨[3], false, true, false⟩)],
      steadyCheck s = true ∧ s.live = true ∧ s.sensors.queue = [] ∧
        s.sensors.temps.length = 4 ∧ s.sensors.counts.length = 5 ∧ s.chip.held = .none) ∧
    ∀ x ∈ [HeldCommand.light, .dark],
      let s := sensing .running .restSample (some ⟨[3], false, true, false⟩)
      steadyCheck { s with chip := { s.chip with held := x } } = true := by decide +kernel

/-- TemperatureCompletions, LightCompletionsAndStrays: each way a transaction ends. -/
theorem test_transactions_end :
    let tr : Transaction := ⟨.temp 3, [.thermal], 2, 5⟩
    let s := sensing .running .run none
    EndsWith .sensorDeadline tr .missed s ∧
      EndsWith (.sensorResponse ⟨true, 2, 0xFD80, false, ⟨false, false, false⟩⟩) tr (.good (-640))
        s ∧
      EndsWith (.sensorResponse ⟨true, 2, 2001, false, ⟨false, false, false⟩⟩) tr .bad s ∧
      ∀ t, s.sensors.inFlight = some t → (3 : BitVec 4).toNat ≠ t.tag := by
  refine ⟨⟨rfl, .inl ⟨rfl, rfl⟩⟩, ⟨rfl, .inr ⟨_, rfl, rfl, rfl, by decide⟩⟩,
    ⟨rfl, .inr ⟨_, rfl, rfl, rfl, by decide⟩⟩, ?_⟩
  intro t h
  cases h
  decide

/-- LightCompletionsAndStrays: a read that is waited for, and a stale one. -/
theorem test_light_witnesses :
    let tr : Transaction := ⟨.light .b, [.wear], 2, 5⟩
    let s : State :=
      { up with
        sensors := { up.sensors with inFlight := some tr }
        wear := { up.wear with state := .read .b } }
    let t : State := { s with wear := { up.wear with staleRead := some .b } }
    steadyCheck s = true ∧ steadyCheck t = true ∧ s.live = true ∧ s.wear.staleRead = none ∧
      s.wear.state = .read .b ∧ t.wear.staleRead = some .b ∧ s.sensors.queue = [] ∧
      tr.requesters = [.wear] ∧ examplePilot.predicted .b ≠ 0 ∧
      Rgb.get examplePilot.store.constants.ref .b ≠ 0 ∧
      Rgb.get ({ examplePilot.store.constants with ref := ⟨1, 1, 0⟩ } : Constants).ref .b = 0 ∧
      ({ examplePilot with store := { examplePilot.store with constants :=
        { Constants.default with tables := ⟨[], [], []⟩ } } }).predicted .b = 0 := by
  decide +kernel

/-- A part whose composer runs `work` and whose store reads block 5. -/
def reading (work : Work) (st : Staging) : State :=
  { up with
    composer := { up.composer with running := some ⟨0, work⟩, staging := st }
    store := { up.store with port := .granted (.read 5) } }

/-- BUILD's place in zone 5 of a 32 by 32 tile, whose zones have one block each, or in a zone of
a 64 by 64 tile. -/
def placed : Filling := ⟨5, 0, diagonal, diagonal, 0, [], 0, 0⟩

theorem test_tables_of_up : TableLaw up := ⟨rfl, rfl, rfl⟩

/-- BlockReadsReachTheirJob, BlockProgramsEnd: their states' tables have the canonical form. -/
theorem test_tables_of_store_states (w : Work) (st : Staging) (p : PortUse) :
    TableLaw (reading w st) ∧ TableLaw { up with store := { up.store with port := p } } :=
  ⟨⟨rfl, rfl, rfl⟩, ⟨rfl, rfl, rfl⟩⟩

/-- BlockReadsReachTheirJob: the last block of a zone, rendering and not, one before the last, a
scrub of a batch's last block and of an earlier one, with a failure and without, and a stopped
composer. -/
theorem test_read_witnesses :
    let b := reading .build (.filling placed)
    let m : State := { b with chip := { b.chip with straps := ⟨1, 1, true⟩ } }
    let c := reading (.scrub 8 false) .empty
    let r : State := { b with chip := { b.chip with power := .rest } }
    let d : State := { b with chip := { b.chip with power := .dark } }
    let l := reading (.scrub 1 false) .empty
    let v : State :=
      { c with store := { c.store with blockStates := List.replicate 256 .valid } }
    (∀ s ∈ [b, m, c, r, d, l, v],
      steadyCheck s = true ∧ s.store.port = .granted (.read 5) ∧ s.store.waiting = Waiting.none ∧
      s.store.blockStates.length = 256 ∧ 5 < s.blockCount ∧ s.composer.deferred = none) ∧
    (∀ s ∈ [b, d], s.composerStopped = false ∧
      placed.blocksDone + 1 = (s.zoneBlocks placed.zone).length) ∧
    (b.isRendering = true ∧ d.isRendering = false) ∧
    (m.composerStopped = false ∧ placed.blocksDone + 1 < (m.zoneBlocks placed.zone).length ∧
      (m.zoneBlocks placed.zone)[placed.blocksDone + 1]?.isSome) ∧
    (∀ s ∈ [c, v, l], s.composerStopped = false ∧ s.blockState 5 ≠ .programming) ∧
    (v.blockState 5 = .valid ∧ checkBlock (v.slot 5) ≠ .valid ∧ v.zoneOfBlock 5 < 16) ∧
    r.composerStopped = true := by decide +kernel

/-- BlockReadsReachTheirJob: at SCRUB's preemption point a kind of a higher level is chosen. -/
theorem test_preemption :
    let c := { (reading (.scrub 8 false) .empty).composer with gainPending := true }
    Chosen c .gain ∧ 0 < c.levels.of .gain := by
  refine ⟨⟨rfl, le_rfl, fun j _ hl => ?_⟩, Nat.zero_lt_two⟩
  cases j
  · exact .inr ⟨rfl, le_rfl⟩
  · exact .inr ⟨rfl, Nat.zero_le _⟩
  · exact .inl (Nat.lt_succ_self 1)
  · exact .inl Nat.zero_lt_two

/-- A part whose store is in a grant. -/
def granted (g : Grant) (s : State) : State :=
  { s with store := { s.store with port := .granted g } }

/-- BlockProgramsEnd, IdentityAndDriftEnd. -/
theorem test_program_witnesses :
    let p : BlockProgram := ⟨15, [], 0⟩
    let a : State :=
      { granted (.program .linkA p) up with
        linkA := { readyLink with credits := 3, bulk := [⟨1, p⟩], outstanding := .current } }
    let d : State :=
      { granted (.program .linkA p) up with
        linkA := { LinkPort.reset with outstanding := .orphaned 15 } }
    let o : ServiceOutstanding := ⟨1, kindBlock, false⟩
    let t : State :=
      { granted (.program .service p) up with
        service := { up.service with outstanding := some o } }
    let i : State :=
      { granted (.identity []) upOpen with
        service := { up.service with outstanding := some o } }
    let e := granted (.save true) (upIn .restingEntry)
    (∀ s ∈ [a, d, t, i, granted (.save false) up, e], steadyCheck s = true ∧
      s.store.waiting = Waiting.none ∧ s.store.blockStates.length = 256 ∧
      p.block < s.blockCount) ∧
    (a.link .a).bulk = [⟨1, p⟩] ∧ (a.link .a).outstanding = .current ∧
    (d.link .a).outstanding = .orphaned 15 ∧ (d.link .a).bulk = [] ∧
    t.service.outstanding = some o ∧ t.service.hold = none ∧ t.service.sends.length < 8 ∧
    i.service.outstanding = some o ∧ o.dropped = false ∧
    e.chip.power = .restingEntry ∧ e.chip.held = .none ∧ e.started = true ∧
    (∀ x ∈ [HeldCommand.light, .dark],
      steadyCheck { e with chip := { e.chip with held := x } } = true) := by decide +kernel

/-- BlockProgramsEnd, IdentityAndDriftEnd: a link with a further BLOCK queued; an orphaned program
with BLOCKs queued on a link that is READY again; a BLOCK held; an IDENTITY held while OPEN and
since a CLOSE; an answer that is to be dropped. -/
theorem test_program_ends_with_queues :
    let p : BlockProgram := ⟨15, [], 0⟩
    let q : BulkEntry := ⟨2, ⟨3, [], 0⟩⟩
    let a : State :=
      { granted (.program .linkA p) up with
        linkA := { readyLink with credits := 2, bulk := [⟨1, p⟩, q], outstanding := .current } }
    let d : State :=
      { granted (.program .linkA p) up with
        linkA := { readyLink with credits := 3, bulk := [q], outstanding := .orphaned 15 } }
    let o : ServiceOutstanding := ⟨1, kindBlock, true⟩
    let held (g : Grant) (h : ServiceProgram) (s : State) : State :=
      { granted g s with
        service := { s.service with outstanding := some o, hold := some ⟨2, h⟩ } }
    let i : ServiceProgram := .identity (List.replicate 184 0)
    (nextProgram .a [q] Waiting.none).linkA = some q.program ∧
      (d.link .a).state = .ready ∧ o.dropped = true ∧
      holdRefused (held (.identity []) i up) = true ∧
      holdRefused (held (.identity []) i upOpen) = false ∧
      holdRefused (held (.program .service p) (.block q.program) up) = false ∧
      ∀ s ∈ [a, d, held (.program .service p) (.block q.program) up,
          held (.program .service p) i up, held (.identity []) i up,
          held (.identity []) i upOpen],
        steadyCheck s = true ∧ s.store.blockStates.length = 256 ∧ p.block < s.blockCount := by
  decide +kernel

/-- ThermalJobEnds, GainRunEnds: the job runs, rendering and not. -/
theorem test_job_witnesses :
    let k : State :=
      { up with composer := { up.composer with running := some ⟨2, .thermal up.loadTake⟩ } }
    k.composerStopped = false ∧ k.thermal.sampleAfterTake = false ∧
      k.composer.running = some ⟨2, .thermal up.loadTake⟩ ∧
      up.composerStopped = false ∧ up.composer.running = some ⟨2, .gain State.reset.gainInputs⟩ ∧
      up.composer.deferred = none ∧ up.isRendering = true ∧
      (upIn .dark).composerStopped = false ∧ (upIn .dark).isRendering = false := by
  decide +kernel

/-- GainRunEnds: a table, at the places where its three cases meet. -/
theorem test_wear_lookup :
    let point : Nat → Nat × Nat := fun k => (k + 1, 65536 - 1000 * k)
    let table : WearTable := (List.range 8).map point
    (∀ k < 7, (point k).1 < (point (k + 1)).1) ∧
      wearEfficiency table 15 = 65536 ∧ wearEfficiency table 16 = 65536 ∧
      wearEfficiency table 17 = 65473 ∧ wearEfficiency table 32 = 64536 ∧
      wearEfficiency table 127 = 58598 ∧ wearEfficiency table 128 = 58536 ∧
      wearEfficiency table 305419 = 58536 := by
  refine ⟨fun k _ => Nat.lt_succ_self _, ?_⟩
  decide +kernel

/-- The laws hold in a state that runs, so that their statements speak of steps that are taken. -/
theorem test_laws_of_up :
    CreditLaw up ∧ TemperatureLaw up ∧ AuthorityLaw up ∧ FactorLaw up ∧ SensorLaw up ∧
      TableLaw up := by
  refine ⟨⟨⟨by decide, by decide⟩, ⟨by decide, by decide⟩⟩, ?_, ?_, ?_, ?_, test_tables_of_up⟩
  · unfold TemperatureLaw inTempRange
    decide
  · intro l h
    cases l <;> rfl
  · refine ⟨by decide, ?_, fun _ h => nomatch h⟩
    intro f hf e
    rw [List.eq_of_mem_replicate hf]
    exact (Rgb.get_zero e).trans_le (Nat.zero_le _)
  · exact ⟨List.nodup_nil, fun _ h => nomatch h⟩

/-- TableChangesAtFrameHeads, WearNeverDecreases: a command that leaves the part rendering. -/
theorem test_rendering_kept :
    ∃ t, exec .loadSample up = .next t ∧ up.started = true ∧ up.isRendering = true ∧
      t.isRendering = true ∧ Instr.loadSample.wellFormed = true :=
  ⟨_, rfl, rfl, rfl, rfl, rfl⟩

end Sys2Proof.Tests
end

section
/-! The shared operations of a step, each with what it can do: receipt, the handling of a prompt or
a frame, reports, resets. The proofs about every step go through these lemmas. -/

namespace Sys2Proof.Machine

/-! ## Frames of the operations that a whole step is made of -/

/-- A part outside the list stands as it was. -/
theorem KeepsBut.driver_eq {ps : List Part} {s t : State} (h : KeepsBut ps s t)
    (hd : .driver ∉ ps) : t.driver = s.driver := h .driver hd

theorem KeepsBut.render_eq {ps : List Part} {s t : State} (h : KeepsBut ps s t)
    (hd : .render ∉ ps) : t.render = s.render := h .render hd

theorem KeepsBut.chip_eq {ps : List Part} {s t : State} (h : KeepsBut ps s t)
    (hd : .chip ∉ ps) : t.chip = s.chip := h .chip hd

theorem KeepsBut.authority_eq {ps : List Part} {s t : State} (h : KeepsBut ps s t)
    (hd : .authority ∉ ps) : t.authority = s.authority := h .authority hd

section Frames

variable {ps : List Part} {s₀ s : State}

@[simp] theorem conclude_keeps (extra : List Cause) (before : State) (h : KeepsBut ps s₀ s)
    (hp : [.linkA, .linkB, .authority, .render] ⊆ ps) :
    KeepsBut ps s₀ (conclude extra before s) := by
  unfold conclude
  dsimp only
  split
  · exact report_keeps _ h hp
  · exact h

@[simp] theorem refusePrompt_keeps (l : Link) (h : KeepsBut ps s₀ s)
    (hp : [.linkA, .linkB] ⊆ ps) : KeepsBut ps s₀ (refusePrompt l s) := by
  simp only [List.cons_subset, List.nil_subset, and_true] at hp
  unfold refusePrompt
  repeat' split
  all_goals simp [answerPrompt, acted, beginPrompt, h, hp]

@[simp] theorem stepTimers_keeps (h : KeepsBut ps s₀ s)
    (hp : [.timebase, .authority, .linkA, .linkB, .wear, .driver] ⊆ ps) :
    KeepsBut ps s₀ (stepTimers s) := by
  simp only [List.cons_subset, List.nil_subset, and_true] at hp
  simp (maxDischargeDepth := 9) [stepTimers, h, hp]

@[simp] theorem millisecond_keeps (h : KeepsBut ps s₀ s)
    (hp : [.timebase, .authority, .linkA, .linkB, .wear, .driver] ⊆ ps) :
    KeepsBut ps s₀ (millisecond s) := by
  simp only [List.cons_subset, List.nil_subset, and_true] at hp
  unfold millisecond
  split_ifs <;> simp [h, hp]

end Frames

/-! ## Receipt (R155) -/

/-- A message that arrives is a frame head, a ROW, or changes only the ports and the store. -/
theorem receive_cases (l : Link) (kind : Byte) (u : LinkUnit) (s : State) :
    KeepsBut [.linkA, .linkB, .store] s (receive l kind u s) ∨
      (kind = 0x01 ∧ receive l kind u s = passFrameHead l u.body s) ∨
      (kind = 0x02 ∧ receive l kind u s = passRow l u.body s) := by
  have hr : KeepsBut [.linkA, .linkB, .store] s s := KeepsBut.refl _ s
  unfold receive
  split_ifs with hl hc
  · exact .inl hr
  · split
    · exact .inl hr
    · exact .inl hr
    · unfold takePending
      split_ifs <;> exact .inl (by simp [hr])
    · unfold takeReady
      split_ifs with h1 h2 h3 h4
      · exact .inl (by simp [hr])
      · exact .inr (.inl ⟨h2.1, rfl⟩)
      · exact .inl (by simp [hr])
      · exact .inr (.inr ⟨h3, rfl⟩)
      · exact .inl (by simp [hr])
      · exact .inl (by simp [hr])
  · split <;> exact .inl (by simp [hr])

/-- A ROW on a READY link is computed, or changes only the port. -/
theorem passRow_cases (l : Link) (body : List Byte) (s : State) :
    KeepsBut [.linkA, .linkB] s (passRow l body s) ∨
      ∃ y pixels, passRow l body s = computeRow y pixels s := by
  have hr : KeepsBut [.linkA, .linkB] s s := KeepsBut.refl _ s
  unfold passRow takeRow renderRow
  dsimp only
  split_ifs
  · exact .inl (by simp [hr])
  · exact .inl (by simp [hr])
  · exact .inl (by simp [hr])
  · exact .inr ⟨_, _, rfl⟩
  · exact .inl hr
  · exact .inl (by simp [hr])
  · exact .inl hr

/-! ## Prompts and frames -/

/-- A row of a prompt message handles the head of the queue, or does nothing. -/
theorem promptStep_cases (l : Link) (mine : Request → Bool) (s : State) :
    promptStep l mine s = s ∨
      ∃ m rest r, promptStep l mine s = conclude [] s (handlePrompt l m rest r s) := by
  unfold promptStep
  split_ifs
  · split
    · split
      · split_ifs
        · exact .inr ⟨_, _, _, rfl⟩
        · exact .inl rfl
      · exact .inl rfl
    · exact .inl rfl
  · exact .inl rfl

/-- A row that the service line brings handles its frame, or does nothing. -/
theorem toolStep_cases (tag kind : Byte) (req : Option ToolRequest) (s : State) :
    toolStep tag kind req s = s ∨
      toolStep tag kind req s = conclude [] s (handleFrame tag kind req s) := by
  unfold toolStep
  split_ifs
  · exact .inr rfl
  · exact .inl rfl

/-- What the handling of a frame gives: a count or an answer alone, or the owner's rule with its
answer. -/
theorem handleFrame_cases (tag kind : Byte) (req : Option ToolRequest) (s : State) :
    KeepsBut [.service] s (handleFrame tag kind req s) ∨
      ∃ t, req = some t ∧
        handleFrame tag kind req s =
          answerTool tag kind (t == .shared .reset) (performTool tag t s) := by
  have hr : KeepsBut [.service] s s := KeepsBut.refl _ s
  unfold handleFrame
  split_ifs
  · exact .inl (by simp [hr])
  · split
    · exact .inr ⟨_, rfl, rfl⟩
    · exact .inl (by simp [hr])
  · exact .inl (by simp [hr])

/-- The state that a handled frame leaves, but for its answer. -/
def ToolActed.state : ToolActed → State
  | .answered a => a.state
  | .accepted s => s

theorem answerTool_keeps (tag kind : Byte) (isReset : Bool) (a : ToolActed) :
    KeepsBut [.service] a.state (answerTool tag kind isReset a) := by
  cases a with
  | answered a => exact pushAnswer_keeps _ (KeepsBut.refl _ _) (by simp)
  | accepted s => exact KeepsBut.refl _ _

theorem handlePrompt_keeps (l : Link) (m : Message) (rest : List Message) (r : Request)
    (s : State) :
    KeepsBut [.linkA, .linkB] (perform (.link l) r (beginPrompt l rest s)).state
      (handlePrompt l m rest r s) :=
  send_keeps _ _ (KeepsBut.refl _ _) (by simp)

/-- A command that answers leads where it answers. -/
theorem Leads.of_exec {c : Instr} {s t : State} {P : State → Prop} (h : Leads c s P)
    (he : exec c s = .next t) : P t := by
  obtain ⟨u, hu, hp⟩ := h
  rw [hu] at he
  injection he with he
  exact he ▸ hp

/-! ## Resets (R49, R175) -/

/-- The abandonment of a grant changes only the store and counts the free value. -/
theorem abandonGrant_keeps (s : State) : KeepsBut [.store, .freeDraws] s (abandonGrant s) := by
  have h : KeepsBut [.store, .freeDraws] s { s with freeDraws := s.freeDraws + 1 } := by
    intro p hp
    cases p <;> first | rfl | simp at hp
  unfold abandonGrant
  dsimp only
  split <;> first | exact KeepsBut.refl _ s | simp [h]

end Sys2Proof.Machine
end

section
/-! The drive codes of the driver port (R7, R15): no operation but a delivered row and a LATCH
brings a new code, and both bring codes within 0 to 65535. -/

namespace Sys2Proof.Machine

/-! ## The law and the parts it speaks of -/

section CodeLaw

variable {s t : State}

/-- The law speaks of the driver port alone. -/
theorem CodeLaw.congr (h : CodeLaw s) (hd : t.driver = s.driver) : CodeLaw t := by
  unfold CodeLaw
  rw [hd]
  exact h

theorem CodeLaw.frame {ps : List Part} (h : CodeLaw s) (k : KeepsBut ps s t)
    (hd : .driver ∉ ps := by decide) : CodeLaw t := h.congr (k.driver_eq hd)

/-- A step's part that is done or left. -/
theorem CodeLaw.ite (p : Prop) [Decidable p] (hs : CodeLaw s) (ht : CodeLaw t) :
    CodeLaw (if p then s else t) := by
  split_ifs
  · exact hs
  · exact ht

/-- A driver port whose latches and rows all stood in one that meets the law meets it. -/
theorem CodeLaw.mono (h : CodeLaw s) (v : Driver)
    (hb : ∀ b ∈ v.banks, ∃ a ∈ s.driver.banks, b.latch = a.latch)
    (hr : ∀ r ∈ v.rows, r ∈ s.driver.rows) : CodeLaw (s.setDriver v) := by
  obtain ⟨hl, hc⟩ := h
  refine ⟨fun b hm e => ?_, fun r hm => hc r (hr r hm)⟩
  obtain ⟨a, ha, hlatch⟩ := hb b hm
  rw [hlatch]
  exact hl a ha e

/-- The law asks nothing of the accumulators and the pilot drive. -/
theorem CodeLaw.of_shown (h : CodeLaw s) (v : Driver) (hb : v.banks = s.driver.banks)
    (hr : v.rows = s.driver.rows) : CodeLaw (s.setDriver v) :=
  h.mono v (fun b hm => ⟨b, hb ▸ hm, rfl⟩) (fun _ hm => hr ▸ hm)

/-- A change of the banks that leaves their latches. -/
theorem CodeLaw.map_banks (h : CodeLaw s) (f : Bank → Bank) (hf : ∀ b, (f b).latch = b.latch) :
    CodeLaw (s.setDriver { s.driver with banks := s.driver.banks.map f }) := by
  refine h.mono _ (fun b hm => ?_) (fun _ hm => hm)
  obtain ⟨a, ha, rfl⟩ := List.mem_map.mp hm
  exact ⟨a, ha, hf a⟩

theorem mem_setAt {α : Type} {l : List α} {i : Nat} {f : α → α} {b : α} (h : b ∈ setAt l i f) :
    b ∈ l ∨ ∃ a ∈ l, b = f a := by
  obtain ⟨j, hj⟩ := List.mem_iff_getElem?.mp h
  by_cases hji : j = i
  · subst hji
    rw [getElem?_setAt_same] at hj
    obtain ⟨a, ha, rfl⟩ := Option.map_eq_some_iff.mp hj
    exact .inr ⟨a, List.mem_of_getElem? ha, rfl⟩
  · rw [getElem?_setAt_other l hji] at hj
    exact .inl (List.mem_of_getElem? hj)

/-- The same for one bank. -/
theorem CodeLaw.setAt_banks (h : CodeLaw s) (i : Nat) (f : Bank → Bank)
    (hf : ∀ b, (f b).latch = b.latch) :
    CodeLaw (s.setDriver { s.driver with banks := setAt s.driver.banks i f }) := by
  refine h.mono _ (fun b hm => ?_) (fun _ hm => hm)
  rcases mem_setAt hm with hm | ⟨a, ha, rfl⟩
  · exact ⟨b, hm, rfl⟩
  · exact ⟨a, ha, hf a⟩

/-! ## The driver port's own operations -/

theorem Bank.primed_latch (held : Bool) (b : Bank) : (b.primed held).latch = b.latch := by
  unfold Bank.primed
  split
  · rfl
  · split_ifs <;> rfl

theorem Bank.tick_latch (b : Bank) : b.tick.latch = b.latch := by
  unfold Bank.tick
  split_ifs <;> rfl

theorem primeBanks_codeLaw (h : CodeLaw s) : CodeLaw (primeBanks s) :=
  h.map_banks _ fun b => b.primed_latch _

theorem forgetRows_codeLaw (h : CodeLaw s) : CodeLaw (forgetRows s) :=
  h.mono _ (fun b hm => ⟨b, hm, rfl⟩) (fun _ hm => List.mem_of_mem_filter hm)

theorem settleBanks_codeLaw (h : CodeLaw s) : CodeLaw (settleBanks s) :=
  forgetRows_codeLaw (primeBanks_codeLaw h)

theorem loadSample_codeLaw (h : CodeLaw s) : CodeLaw (loadSample s) := h.of_shown _ rfl rfl

theorem clearLoad_codeLaw (h : CodeLaw s) : CodeLaw (clearLoad s) := h.of_shown _ rfl rfl

theorem setPilotDrive_codeLaw (v : Rgb Nat) (h : CodeLaw s) : CodeLaw (setPilotDrive v s) :=
  h.of_shown _ rfl rfl

theorem releaseWaiting_codeLaw (h : CodeLaw s) : CodeLaw (releaseWaiting s) :=
  h.map_banks _ fun b => by split_ifs <;> rfl

theorem tickBanks_codeLaw (h : CodeLaw s) : CodeLaw (tickBanks s) := h.map_banks _ Bank.tick_latch

theorem primingExpired_codeLaw (b : Nat) (h : CodeLaw s) : CodeLaw (primingExpired b s) :=
  h.setAt_banks _ _ fun k => by split_ifs <;> rfl

theorem setBankMode_codeLaw (b : Nat) (m : BankMode) (h : CodeLaw s) :
    CodeLaw (setBankMode b m s) :=
  settleBanks_codeLaw (h.setAt_banks _ _ fun _ => rfl)

theorem setBankPolicy_codeLaw (b : Nat) (p : DarkPolicy) (h : CodeLaw s) :
    CodeLaw (setBankPolicy b p s) :=
  settleBanks_codeLaw (h.setAt_banks _ _ fun _ => rfl)

theorem setBankModes_codeLaw (es : List (Nat × BankMode)) (h : CodeLaw s) :
    CodeLaw (setBankModes es s) := by
  unfold setBankModes
  induction es generalizing s with
  | nil => exact h
  | cons e es ih => exact ih (setBankMode_codeLaw e.1 e.2 h)

/-- A LATCH brings the codes of its own drive triple. -/
theorem setBankLatch_codeLaw (b : Nat) {v : Rgb Nat} (hv : ∀ e, Rgb.get v e ≤ 65535)
    (h : CodeLaw s) : CodeLaw (setBankLatch b v s) := by
  obtain ⟨hl, hc⟩ := h
  refine ⟨fun k hm e => ?_, hc⟩
  rcases mem_setAt hm with hm | ⟨a, -, rfl⟩
  · exact hl k hm e
  · exact hv e

/-! ## A delivered row (R7) -/

/-- The limiter brings every code within 65535. -/
theorem limitPixel_le (d : Rgb Nat) (e : Emitter) : Rgb.get (limitPixel d).1 e ≤ 65535 := by
  have hm : Rgb.get d e ≤ max d.r (max d.g d.b) := by
    cases e <;> simp only [Rgb.get] <;> omega
  unfold limitPixel
  dsimp only
  split_ifs with ht
  · exact hm.trans ht
  · rw [Rgb.get_map]
    refine Nat.div_le_of_le_mul ?_
    rw [Nat.mul_comm (max _ _)]
    exact (Nat.mul_comm _ _).trans_le (Nat.mul_le_mul_left _ hm)

theorem renderPixel_le (s : State) (x y : Nat) (p : Rgb Nat) (e : Emitter) :
    Rgb.get (s.renderPixel x y p).1 e ≤ 65535 := by
  unfold State.renderPixel
  dsimp only
  split_ifs
  · exact limitPixel_le _ e
  · simp

theorem deliverRow_codeLaw (y : Nat) {codes : List (Rgb Nat)}
    (hc : ∀ c ∈ codes, ∀ e, Rgb.get c e ≤ 65535) (h : CodeLaw s) :
    CodeLaw (deliverRow y codes s) := by
  obtain ⟨hl, hr⟩ := h
  refine ⟨hl, fun r hm => ?_⟩
  rcases Table.mem_put [] hm with hm | rfl
  · exact hr r hm
  · exact hc

theorem computeRow_codeLaw (y : Nat) (pixels : List (Rgb Nat)) (h : CodeLaw s) :
    CodeLaw (computeRow y pixels s) := by
  refine deliverRow_codeLaw y (fun c hm e => ?_) h
  obtain ⟨out, hout, rfl⟩ := List.mem_map.mp hm
  obtain ⟨p, -, rfl⟩ := List.mem_map.mp hout
  exact renderPixel_le s _ y _ e

theorem passRow_codeLaw (l : Link) (body : List Byte) (h : CodeLaw s) :
    CodeLaw (passRow l body s) := by
  rcases passRow_cases l body s with hk | ⟨y, pixels, he⟩
  · cases l <;> exact h.frame hk
  · exact he ▸ computeRow_codeLaw y pixels h

/-! ## What follows inside a step -/

theorem startJob_codeLaw (k : JobKind) (h : CodeLaw s) : CodeLaw (startJob k s) := by
  cases k with
  | gain => exact h
  | thermal => exact clearLoad_codeLaw (s := setRunning _ _) h
  | build =>
    exact h.frame (takeZone_keeps (ps := [.composer, .store])
      (setRunning_keeps _ (KeepsBut.refl _ s) (by simp)) (by simp))
  | scrub => exact h

theorem takeDecision_codeLaw (h : CodeLaw s) : CodeLaw (takeDecision s) := by
  unfold takeDecision
  split
  · exact h
  · exact startJob_codeLaw _ h
  · exact h
  · split_ifs
    · exact startJob_codeLaw _ h
    · exact h

theorem decideAtPoint_codeLaw (level left : Nat) (h : CodeLaw s) :
    CodeLaw (decideAtPoint level left s) := by
  unfold decideAtPoint
  split
  · split_ifs
    · exact startJob_codeLaw (s := pushScrub level left s) _ h
    · exact h
  · exact h

theorem settleComposer_codeLaw (h : CodeLaw s) : CodeLaw (settleComposer s) := by
  unfold settleComposer
  split_ifs
  · exact h
  · split
    · exact takeDecision_codeLaw h
    · exact decideAtPoint_codeLaw _ _ h
    · exact h

theorem settleStore_codeLaw (h : CodeLaw s) : CodeLaw (settleStore s) :=
  h.frame (settleStore_keeps (ps := [.store]) (KeepsBut.refl _ s) (by simp))

theorem settleWork_codeLaw (h : CodeLaw s) : CodeLaw (settleWork s) :=
  settleStore_codeLaw (settleComposer_codeLaw h)

theorem settle_codeLaw (h : CodeLaw s) : CodeLaw (settle s) := by
  have hd : CodeLaw (takeDeferred (settleBanks s)) :=
    (settleBanks_codeLaw h).frame
      (takeDeferred_keeps (ps := [.composer, .store]) (KeepsBut.refl _ _) (by simp))
  exact settleWork_codeLaw
    (hd.frame (settleRender_keeps (ps := [.render, .composer]) (KeepsBut.refl _ _) (by simp)))

theorem conclude_codeLaw (extra : List Cause) (before : State) (h : CodeLaw s) :
    CodeLaw (conclude extra before s) :=
  h.frame (conclude_keeps (ps := [.linkA, .linkB, .authority, .render]) extra before
    (KeepsBut.refl _ s) (by simp))

/-! ## The pilot sequence -/

theorem endSequence_codeLaw (h : CodeLaw s) : CodeLaw (endSequence s) :=
  h.frame (endSequence_keeps (ps := [.wear, .composer]) (KeepsBut.refl _ s) (by simp))

theorem takeEmitter_codeLaw (e : Emitter) {next : State → State}
    (hn : ∀ u, CodeLaw u → CodeLaw (next u)) (h : CodeLaw s) :
    CodeLaw (takeEmitter e next s) := by
  unfold takeEmitter
  split_ifs
  · exact hn (setPilotResult e .skipped s) h
  · exact setPilotDrive_codeLaw (s := s.setWear _) _ h

theorem takeBlue_codeLaw (h : CodeLaw s) : CodeLaw (takeBlue s) :=
  takeEmitter_codeLaw _ (fun _ => endSequence_codeLaw) h

theorem takeGreen_codeLaw (h : CodeLaw s) : CodeLaw (takeGreen s) :=
  takeEmitter_codeLaw _ (fun _ => takeBlue_codeLaw) h

theorem takeAfter_codeLaw (e : Emitter) (h : CodeLaw s) : CodeLaw (takeAfter e s) := by
  cases e with
  | r => exact takeGreen_codeLaw h
  | g => exact takeBlue_codeLaw h
  | b => exact endSequence_codeLaw h

theorem startSequence_codeLaw (h : CodeLaw s) : CodeLaw (startSequence s) := by
  unfold startSequence
  split_ifs
  · exact takeEmitter_codeLaw (s := s.setWear _) _ (fun _ => takeGreen_codeLaw) h
  · exact h

theorem lightCompletion_codeLaw (e : Emitter) (c : Completion) (h : CodeLaw s) :
    CodeLaw (lightCompletion e c s) := by
  unfold lightCompletion
  split_ifs
  · exact h
  · exact takeAfter_codeLaw e
      (h.frame (measure_keeps (ps := [.wear]) e c (KeepsBut.refl _ s) (by simp)))
  · exact h

/-! ## Power states, rounds and the sensor bus -/

theorem enterRest_codeLaw (h : CodeLaw s) : CodeLaw (enterRest s) := by
  have hp : CodeLaw (setPilotDrive Rgb.zero s) := setPilotDrive_codeLaw _ h
  unfold enterRest
  dsimp only
  split <;> exact hp

theorem endStartRound_codeLaw (h : CodeLaw s) : CodeLaw (endStartRound s) :=
  h.frame (endStartRound_keeps (ps := [.thermal, .chip]) (KeepsBut.refl _ s) (by simp))

theorem endSampleRound_codeLaw (h : CodeLaw s) : CodeLaw (endSampleRound s) := by
  unfold endSampleRound sampleReported
  dsimp only
  split_ifs
  · exact enterRest_codeLaw (s := (senseZones s).setThermal _) h
  · exact h

theorem requestThermal_codeLaw (h : CodeLaw s) : CodeLaw (requestThermal s) :=
  h.frame (requestThermal_keeps (ps := [.composer]) (KeepsBut.refl _ s) (by simp))

theorem endRound_codeLaw (r : Round) (h : CodeLaw s) : CodeLaw (endRound r s) := by
  have hround : CodeLaw (setRound none s) := h
  have hstart := CodeLaw.ite r.start (endStartRound_codeLaw hround) hround
  have hsample := CodeLaw.ite r.sample (endSampleRound_codeLaw hstart) hstart
  exact CodeLaw.ite r.thermal (requestThermal_codeLaw hsample) hsample

theorem tempCompletion_codeLaw (q : Nat) (h : CodeLaw s) : CodeLaw (tempCompletion q s) := by
  unfold tempCompletion
  dsimp only
  split
  · split_ifs
    · exact endRound_codeLaw _ h
    · exact h
    · exact h
  · exact h

theorem deliverTo_codeLaw (r : SensorRequest) (c : Completion) (u : SensorUser)
    (h : CodeLaw s) : CodeLaw (deliverTo r c u s) := by
  unfold deliverTo
  split
  · exact tempCompletion_codeLaw _ h
  · exact lightCompletion_codeLaw _ _ h
  · exact h
  · exact h

theorem deliver_codeLaw (r : SensorRequest) (c : Completion) (us : List SensorUser)
    (h : CodeLaw s) : CodeLaw (deliver r c us s) := by
  unfold deliver
  induction us generalizing s with
  | nil => exact h
  | cons u us ih => exact ih (deliverTo_codeLaw r c u h)

theorem startTransactions_codeLaw (n : Nat) (h : CodeLaw s) :
    CodeLaw (startTransactions n s) := by
  induction n generalizing s with
  | zero => exact h
  | succ n ih =>
    unfold startTransactions
    split
    · exact h
    · exact h
    · dsimp only
      split_ifs
      · exact ih (deliver_codeLaw (s := s.setSensors _) _ _ _ h)
      · exact h

theorem startNext_codeLaw (h : CodeLaw s) : CodeLaw (startNext s) := startTransactions_codeLaw _ h

theorem endTransaction_codeLaw (t : Transaction) (c : Completion) (h : CodeLaw s) :
    CodeLaw (endTransaction t c s) :=
  startNext_codeLaw (deliver_codeLaw (s := recordCompletion _ _ (s.setSensors _)) _ _ _ h)

theorem sensorResponse_codeLaw (f : SensorFrame) (h : CodeLaw s) :
    CodeLaw (sensorResponse f s) := by
  unfold sensorResponse
  dsimp only
  split_ifs
  · split
    · split_ifs
      · exact endTransaction_codeLaw _ _ h
      · exact h
    · exact h
  · exact h

theorem sensorDeadline_codeLaw (h : CodeLaw s) : CodeLaw (sensorDeadline s) := by
  unfold sensorDeadline
  split
  · exact endTransaction_codeLaw _ _ h
  · exact h

theorem placeSensor_codeLaw (r : SensorRequest) (u : SensorUser) (h : CodeLaw s) :
    CodeLaw (placeSensor r u s) :=
  h.frame (placeSensor_keeps (ps := [.sensors]) r u (KeepsBut.refl _ s) (by simp))

theorem placeSensors_codeLaw (qs : List Nat) (h : CodeLaw s) :
    CodeLaw (qs.foldl (fun s q => placeSensor (.temp q) .thermal s) s) := by
  induction qs generalizing s with
  | nil => exact h
  | cons q qs ih => exact ih (placeSensor_codeLaw _ _ h)

theorem joinRound_codeLaw (m : RoundMark) (h : CodeLaw s) : CodeLaw (joinRound m s) := by
  unfold joinRound openRound
  dsimp only
  split
  · exact h
  · split_ifs
    · exact endRound_codeLaw _ h
    · exact placeSensors_codeLaw (s := setRound _ s) _ h

/-! ## The authority unit and the links -/

theorem openFrame_codeLaw (h : CodeLaw s) : CodeLaw (openFrame s) := by
  have hm : CodeLaw (moveIntoForce s) :=
    h.frame (moveIntoForce_keeps (ps := [.render, .composer]) (KeepsBut.refl _ s) (by simp))
  exact releaseWaiting_codeLaw hm

theorem takeFrameHead_codeLaw (l : Link) (h : CodeLaw s) : CodeLaw (takeFrameHead l s) := by
  have hr : CodeLaw (refresh l s) :=
    h.frame (refresh_keeps (ps := [.linkA, .linkB]) l (KeepsBut.refl _ s) (by simp))
  unfold takeFrameHead
  dsimp only
  split_ifs
  · exact openFrame_codeLaw (hr.frame (moveAuthority_keeps (ps := [.authority, .composer]) l
      (KeepsBut.refl _ _) (by simp)))
  · exact openFrame_codeLaw hr
  · exact hr
  · exact hr

theorem passFrameHead_codeLaw (l : Link) (body : List Byte) (h : CodeLaw s) :
    CodeLaw (passFrameHead l body s) := by
  unfold passFrameHead
  dsimp only
  refine conclude_codeLaw _ _ (settle_codeLaw (takeFrameHead_codeLaw l ?_))
  refine h.congr ?_
  split_ifs <;> simp [setCounts]

theorem receive_codeLaw (l : Link) (kind : Byte) (u : LinkUnit) (h : CodeLaw s) :
    CodeLaw (receive l kind u s) := by
  rcases receive_cases l kind u s with hk | ⟨-, he⟩ | ⟨-, he⟩
  · exact h.frame hk
  · exact he ▸ passFrameHead_codeLaw l u.body h
  · exact he ▸ passRow_codeLaw l u.body h

/-! ## Requests -/

theorem applySetting_codeLaw (x : Setting) (v : Int) (h : CodeLaw s) :
    CodeLaw (applySetting x v s) := by
  cases x with
  | holdTime =>
    exact settle_codeLaw (h.frame (applyHoldTime_keeps
      (ps := [.linkA, .linkB, .authority, .composer, .settings]) _ (KeepsBut.refl _ s) (by simp)))
  | blankAfter =>
    exact settle_codeLaw (h.frame (applyBlankAfter_keeps (ps := [.authority, .settings]) _
      (KeepsBut.refl _ s) (by simp)))
  | _ => exact h

theorem performSet_codeLaw (op : SetOp) (h : CodeLaw s) : CodeLaw (performSet op s).state := by
  cases op with
  | jobLevel k v =>
    unfold performSet setJobLevel
    dsimp only
    split_ifs
    · exact h
    · exact h
    · exact settleWork_codeLaw (s := s.setComposer _) h
  | phaseTable t =>
    unfold performSet setPhaseTable
    dsimp only
    split_ifs <;> exact h
  | darkPolicy b v =>
    unfold performSet setDarkPolicy
    dsimp only
    split_ifs
    · exact h
    · split
      · exact setBankPolicy_codeLaw _ _ h
      · exact h
  | value x v =>
    unfold performSet setValue
    dsimp only
    split_ifs
    · exact h
    · exact h
    · exact applySetting_codeLaw _ _ h
    · exact applySetting_codeLaw _ _ h

theorem powerCommand_codeLaw (o : Origin) {f : State → State}
    (hf : KeepsBut [.chip, .store, .wear, .composer] s (f s)) (h : CodeLaw s) :
    CodeLaw (powerCommand o f s).state := by
  unfold powerCommand
  split_ifs
  · exact settle_codeLaw (h.frame hf)
  · exact h

/-- The owner's rule of a request that links and tool share. -/
theorem perform_codeLaw (o : Origin) (r : Request) (h : CodeLaw s) :
    CodeLaw (perform o r s).state := by
  have hk : KeepsBut [.chip, .store, .wear, .composer] s s := KeepsBut.refl _ s
  cases r with
  | wall r =>
    cases o with
    | link l =>
      exact settleWork_codeLaw (h.frame (storeRecord_keeps
        (ps := [.linkA, .linkB, .authority, .composer]) l _ (KeepsBut.refl _ s) (by simp)))
    | tool => exact h
  | take =>
    cases o with
    | link l =>
      unfold perform performTake takeCommand
      dsimp only
      split_ifs <;> exact h
    | tool => exact h
  | dark => exact powerCommand_codeLaw o (commandDark_keeps hk (by simp)) h
  | light => exact powerCommand_codeLaw o (commandLight_keeps hk (by simp)) h
  | rest => exact powerCommand_codeLaw o (commandRest_keeps hk (by simp)) h
  | rebuild zs =>
    unfold perform performRebuild
    dsimp only
    split_ifs
    · exact h
    · exact settleWork_codeLaw (s := joinBuild zs s) h
  | query q => exact h
  | set op => exact performSet_codeLaw op h
  | close =>
    unfold perform closeConfiguration
    dsimp only
    split_ifs
    · exact h
    · exact settle_codeLaw (s := s.setChip _) h
  | reset => exact h

/-- The codes that a request brings lie within 65535. -/
def ToolRequest.codesFit : ToolRequest → Prop
  | .latch _ v => ∀ e, Rgb.get v e ≤ 65535
  | .shared _ | .block _ | .identity _ | .trim _ | .wearClear _ | .bank _ => True

theorem offerProgram_codeLaw (tag : Byte) (p : ServiceProgram) (h : CodeLaw s) :
    CodeLaw (offerProgram tag p s).state := by
  unfold offerProgram
  split
  · exact settleStore_codeLaw (s := placeTool tag p s) h
  · exact h
  · exact h

theorem performTool_codeLaw (tag : Byte) {t : ToolRequest} (ht : t.codesFit) (h : CodeLaw s) :
    CodeLaw (performTool tag t s).state := by
  cases t with
  | shared r => exact perform_codeLaw .tool r h
  | block p =>
    unfold performTool toolBlock
    dsimp only
    split_ifs
    · exact offerProgram_codeLaw _ _ h
    · exact h
  | identity fields =>
    unfold performTool toolIdentity
    dsimp only
    split_ifs
    · exact h
    · exact offerProgram_codeLaw _ _ h
    · exact h
  | trim codes =>
    exact settleWork_codeLaw (h.frame (setTrims_keeps (ps := [.wear, .store, .composer]) codes
      (KeepsBut.refl _ s) (by simp)))
  | wearClear z => exact settleWork_codeLaw (s := clearWear z s) h
  | bank es => exact setBankModes_codeLaw es h
  | latch b v => exact setBankLatch_codeLaw b ht h

theorem handlePrompt_codeLaw (l : Link) (m : Message) (rest : List Message) (r : Request)
    (h : CodeLaw s) : CodeLaw (handlePrompt l m rest r s) := by
  have hb : CodeLaw (beginPrompt l rest s) := h.congr (by simp [beginPrompt])
  exact (perform_codeLaw (.link l) r hb).frame (handlePrompt_keeps l m rest r s)

theorem handleFrame_codeLaw (tag kind : Byte) {req : Option ToolRequest}
    (hreq : ∀ t, req = some t → t.codesFit) (h : CodeLaw s) :
    CodeLaw (handleFrame tag kind req s) := by
  rcases handleFrame_cases tag kind req s with hk | ⟨t, ht, he⟩
  · exact h.frame hk
  · rw [he]
    exact (performTool_codeLaw tag (hreq t ht) h).frame (answerTool_keeps _ _ _ _)

theorem promptStep_codeLaw (l : Link) (mine : Request → Bool) (h : CodeLaw s) :
    CodeLaw (promptStep l mine s) := by
  rcases promptStep_cases l mine s with he | ⟨m, rest, r, he⟩
  · exact he.symm ▸ h
  · exact he ▸ conclude_codeLaw _ _ (handlePrompt_codeLaw l m rest r h)

theorem toolStep_codeLaw (tag kind : Byte) {req : Option ToolRequest}
    (hreq : ∀ t, req = some t → t.codesFit) (h : CodeLaw s) :
    CodeLaw (toolStep tag kind req s) := by
  rcases toolStep_cases tag kind req s with he | he
  · exact he.symm ▸ h
  · exact he ▸ conclude_codeLaw _ _ (handleFrame_codeLaw tag kind hreq h)

theorem requestStep_codeLaw {α : Type} (v : Via α) (mine : Request → Bool) (kind : Byte)
    (req : α → Option Request) (h : CodeLaw s) : CodeLaw (requestStep v mine kind req s) := by
  cases v with
  | port l => exact promptStep_codeLaw l mine h
  | tool tag a =>
    refine toolStep_codeLaw tag kind (fun t ht => ?_) h
    obtain ⟨r, -, rfl⟩ := Option.map_eq_some_iff.mp ht
    trivial

/-! ## Service frames -/

theorem getU16_le (off : Nat) (bs : List Byte) : getU16 off bs ≤ 65535 := by
  have hl : (slice off 2 bs).length ≤ 2 := by simp [slice]
  have hp : 256 ^ (slice off 2 bs).length ≤ 256 ^ 2 := Nat.pow_le_pow_right (by decide) hl
  have hn := leNat_lt (slice off 2 bs)
  unfold getU16
  omega

theorem latchRequest_codesFit {b : Nat} {v : Rgb Nat} (hv : ∀ e, Rgb.get v e ≤ 65535)
    {t : ToolRequest} (h : latchRequest b v = some t) : t.codesFit := by
  unfold latchRequest at h
  split_ifs at h
  cases h
  exact hv

theorem wearClearRequest_codesFit {z : Nat} {t : ToolRequest}
    (h : wearClearRequest z = some t) : t.codesFit := by
  unfold wearClearRequest at h
  split_ifs at h
  cases h
  trivial

theorem bankEntries_codesFit {es : List (Nat × BankMode)} {t : ToolRequest}
    (h : bankEntries es = some t) : t.codesFit := by
  unfold bankEntries at h
  split_ifs at h
  cases h
  trivial

theorem parseIdentity_codesFit {body : List Byte} {t : ToolRequest}
    (h : parseIdentity body = some t) : t.codesFit := by
  unfold parseIdentity at h
  split_ifs at h
  cases h
  trivial

/-- Every request that a frame's layout gives has its codes in 16 bits. -/
theorem parseTool_codesFit {kind : Byte} {body : List Byte} {t : ToolRequest}
    (h : parseTool kind body = some t) : t.codesFit := by
  unfold parseTool at h
  split_ifs at h
  · obtain ⟨p, -, rfl⟩ := Option.map_eq_some_iff.mp h
    trivial
  · unfold parseTrim at h
    split_ifs at h
    cases h
    trivial
  · unfold parseBank at h
    split at h
    · exact nomatch h
    · split at h
      · split_ifs at h
        exact bankEntries_codesFit h
      · exact nomatch h
  · unfold parseLatch at h
    split_ifs at h
    exact latchRequest_codesFit (fun e => by cases e <;> exact getU16_le _ _) h
  · exact parseIdentity_codesFit h
  · unfold parseWearClear at h
    split_ifs at h
    exact wearClearRequest_codesFit h
  · obtain ⟨r, -, hr⟩ := Option.bind_eq_some_iff.mp h
    unfold forTool at hr
    split at hr <;> cases hr
    trivial

theorem endFrame_codeLaw (buf : List Byte) (h : CodeLaw s) : CodeLaw (endFrame buf s) := by
  unfold endFrame
  dsimp only
  split_ifs
  · exact conclude_codeLaw _ _ (handleFrame_codeLaw (s := setReceiving none s) _ _
      (fun _ => parseTool_codesFit) h)
  · exact h

theorem receiveByte_codeLaw (b : LineByte) (h : CodeLaw s) : CodeLaw (receiveByte b s) := by
  have hi : CodeLaw (s.setService { s.service with idle := 0 }) := h
  unfold receiveByte
  dsimp only
  split
  · split_ifs <;> exact hi
  · unfold receiveInFrame
    dsimp only
    split_ifs
    · exact hi
    · exact hi
    · exact endFrame_codeLaw _ hi
    · exact hi

theorem receiveBytes_codeLaw (bytes : List LineByte) (h : CodeLaw s) :
    CodeLaw (bytes.foldl (fun s b => receiveByte b s) s) := by
  induction bytes generalizing s with
  | nil => exact h
  | cons b bytes ih => exact ih (receiveByte_codeLaw b h)

theorem serviceFrame_codeLaw (bytes : List LineByte) (h : CodeLaw s) :
    CodeLaw (serviceFrame bytes s) := CodeLaw.ite _ (receiveBytes_codeLaw bytes h) h

/-! ## Resets -/

theorem coldReset_codeLaw (pins : StrapPins) (s : State) : CodeLaw (coldReset pins s) := by
  refine ⟨fun b hm e => ?_, fun r hm => nomatch hm⟩
  rw [List.eq_of_mem_replicate (show b ∈ List.replicate 16 Bank.reset from hm)]
  exact (Rgb.get_zero e).trans_le (Nat.zero_le _)

theorem clearWarm_codeLaw (h : CodeLaw s) : CodeLaw (clearWarm s) := by
  have ha : CodeLaw (abandonGrant s) := h.frame (abandonGrant_keeps s)
  exact (ha.map_banks Bank.warm fun _ => rfl).mono
    { Driver.reset with banks := (abandonGrant s).driver.banks.map Bank.warm }
    (fun b hm => ⟨b, hm, rfl⟩) (fun _ hm => nomatch hm)

theorem resetPinRelease_codeLaw (pins : StrapPins) (h : CodeLaw s) :
    Leads (.resetPinRelease pins) s CodeLaw := by
  refine .intro rfl ?_
  split
  · exact coldReset_codeLaw _ _
  · exact clearWarm_codeLaw (s := setPinLow false s) h
  all_goals exact h

theorem startupChecksDone_codeLaw (f : StoreFindings) (h : CodeLaw s) :
    CodeLaw (startupChecksDone f s) := by
  have hc : CodeLaw (runChecks f s) := by
    unfold runChecks
    dsimp only
    split_ifs <;> exact h
  exact CodeLaw.ite _ (conclude_codeLaw _ _ (settle_codeLaw (startNext_codeLaw
    (joinRound_codeLaw (s := setPhase _ _) _ hc)))) h

/-! ## Ticks, expiries and ends -/

theorem millisecond_codeLaw (h : CodeLaw s) : CodeLaw (millisecond s) :=
  CodeLaw.ite _ (loadSample_codeLaw (tickBanks_codeLaw
    (s := State.setWear (((s.setTimebase _).setAuthority _).setLink .a _ |>.setLink .b _) _) h)) h

theorem onTick_codeLaw {f : State → State} (hf : CodeLaw s → CodeLaw (f s)) (h : CodeLaw s) :
    CodeLaw (onTick f s) := CodeLaw.ite _ (hf h) h

theorem thermalTick_codeLaw (h : CodeLaw s) : CodeLaw (thermalTick s) :=
  conclude_codeLaw _ _ (settle_codeLaw (startNext_codeLaw
    (joinRound_codeLaw (s := (s.setTimebase _).setThermal _) _ h)))

theorem pilotTick_codeLaw (h : CodeLaw s) : CodeLaw (pilotTick s) :=
  settleWork_codeLaw (startSequence_codeLaw (s := s.setTimebase _) h)

theorem scrubTick_codeLaw (h : CodeLaw s) : CodeLaw (scrubTick s) :=
  settleWork_codeLaw (h.frame (requestScrub_keeps (ps := [.composer, .timebase])
    (setTimebase_keeps _ (KeepsBut.refl _ s) (by simp)) (by simp)))

theorem restWakeExpiry_codeLaw (h : CodeLaw s) : CodeLaw (restWakeExpiry s) :=
  CodeLaw.ite _ (conclude_codeLaw _ _ (settle_codeLaw (startNext_codeLaw
    (joinRound_codeLaw _ (clearLoad_codeLaw (s := s.setChip _) h))))) h

theorem settleTimerExpiry_codeLaw (h : CodeLaw s) : CodeLaw (settleTimerExpiry s) := by
  unfold settleTimerExpiry
  split
  · exact settle_codeLaw (startNext_codeLaw (placeSensor_codeLaw (s := s.setWear _) _ _ h))
  · exact h
  · exact h

theorem ageExpiry_codeLaw (l : Link) (h : CodeLaw s) : CodeLaw (ageExpiry l s) := by
  have hk : KeepsBut [.linkA, .linkB, .authority, .composer] s s := KeepsBut.refl _ s
  exact CodeLaw.ite _ (conclude_codeLaw _ _ (settle_codeLaw (h.frame (linkStale_keeps l
    (setLink_keeps _ _ hk (by simp) (by simp)) (by simp))))) h

theorem blankAfterExpiry_codeLaw (h : CodeLaw s) : CodeLaw (blankAfterExpiry s) :=
  CodeLaw.ite _ (conclude_codeLaw _ _ (settle_codeLaw (s := blank s) h)) h

theorem linkDown_codeLaw (l : Link) (h : CodeLaw s) : CodeLaw (linkDown l s) := by
  have hk : KeepsBut [.linkA, .linkB, .chip] s s := KeepsBut.refl _ s
  have hdown : CodeLaw (goDown l s) := by
    have hl : CodeLaw (s.setLink l (s.link l).dropped) :=
      h.frame (setLink_keeps _ _ hk (by simp) (by simp))
    exact settle_codeLaw ((CodeLaw.ite _ (s := dueReset _ _) hl hl).frame
      (authorityDown_keeps (ps := [.linkA, .linkB, .authority, .composer]) l (KeepsBut.refl _ _)
        (by simp)))
  unfold linkDown
  split_ifs
  · exact h
  · split
    · exact h
    · exact h.frame (setLinkState_keeps l _ hk (by simp))
    · exact conclude_codeLaw _ _ hdown
    · exact conclude_codeLaw _ _ hdown

theorem sync_codeLaw (low : Nat) (h : CodeLaw s) : CodeLaw (sync low s) := by
  unfold sync
  dsimp only
  split_ifs
  · exact conclude_codeLaw _ _ (settle_codeLaw (h.frame (reportSync_keeps
      (ps := [.chip, .composer, .service]) (setService_keeps _ (KeepsBut.refl _ s) (by simp))
      (by simp))))
  · exact h
  · exact h

theorem onSensor_codeLaw {f : State → State} (hf : CodeLaw s → CodeLaw (f s)) (h : CodeLaw s) :
    CodeLaw (onSensor f s) :=
  CodeLaw.ite _ (conclude_codeLaw _ _ (settle_codeLaw (hf h))) h

theorem blockReadDone_codeLaw (cells : Option Stored) (h : CodeLaw s) :
    CodeLaw (blockReadDone cells s) := by
  unfold blockReadDone
  split
  · unfold endBlockRead
    dsimp only
    refine settle_codeLaw (CodeLaw.ite _ h (h.frame (absorbRead_keeps (ps := [.composer, .store])
      _ ?_ (by simp))))
    exact setPort_keeps _ (setSlot_keeps _ _ (KeepsBut.refl _ s) (by simp)) (by simp)
  all_goals exact h

theorem reportProgram_codeLaw (who : Requester) (ok : Bool) (h : CodeLaw s) :
    CodeLaw (reportProgram who ok s) := by
  have hk : KeepsBut [.linkA, .linkB, .store, .service] s s := KeepsBut.refl _ s
  cases who with
  | linkA => exact h.frame (completeLink_keeps .a ok hk (by simp))
  | linkB => exact h.frame (completeLink_keeps .b ok hk (by simp))
  | service => exact h.frame (completeService_keeps ok hk (by simp))
  | composer => exact h
  | driftSave => exact h

theorem countProgramFailure_codeLaw (ok : Bool) (h : CodeLaw s) :
    CodeLaw (countProgramFailure ok s) := CodeLaw.ite _ h h

theorem blockProgramDone_codeLaw (cells : Option Stored) (h : CodeLaw s) :
    CodeLaw (blockProgramDone cells s) := by
  unfold blockProgramDone
  split
  · exact settleWork_codeLaw (reportProgram_codeLaw (s := setPort .free (joinBuild _ _)) _ _
      (countProgramFailure_codeLaw (s := setBlockState _ _ (setSlot _ _ s)) _ h))
  all_goals exact h

theorem identityProgramDone_codeLaw (cells : Option Stored) (h : CodeLaw s) :
    CodeLaw (identityProgramDone cells s) := by
  unfold identityProgramDone
  split
  · exact settleWork_codeLaw (reportProgram_codeLaw (s := setPort .free (joinAll _)) .service _
      (countProgramFailure_codeLaw (s := loadIdentity (s.setStore _)) _ h))
  all_goals exact h

theorem driftSaveDone_codeLaw (cells : Option Stored) (h : CodeLaw s) :
    CodeLaw (driftSaveDone cells s) := by
  unfold driftSaveDone
  split
  · exact conclude_codeLaw _ _ (settle_codeLaw
      (CodeLaw.ite _ (enterRest_codeLaw (s := s.setStore _) h) h))
  all_goals exact h

theorem thermalJobEnd_codeLaw (h : CodeLaw s) : CodeLaw (thermalJobEnd s) := by
  unfold thermalJobEnd
  split
  · exact CodeLaw.ite _ h (settleWork_codeLaw (s := endThermal _ s) h)
  all_goals exact h

theorem gainEnd_codeLaw (h : CodeLaw s) : CodeLaw (gainEnd s) := by
  unfold gainEnd
  split
  · exact CodeLaw.ite _ h (conclude_codeLaw _ _ (settle_codeLaw (s := endGain _ s) h))
  all_goals exact h

theorem answerSent_codeLaw (who : Sender) (h : CodeLaw s) :
    Leads (.answerSent who) s CodeLaw := by
  cases who with
  | link l =>
    exact .intro rfl (CodeLaw.ite _ (h.frame (linkSent_keeps (ps := [.linkA, .linkB, .chip]) l
      (KeepsBut.refl _ s) (by simp))) h)
  | service =>
    exact .intro rfl (CodeLaw.ite _ (h.frame (serviceSent_keeps (ps := [.service, .chip])
      (KeepsBut.refl _ s) (by simp))) h)

/-! ## Every step -/

/-- Every command keeps the law. -/
theorem leads_codeLaw (h : CodeLaw s) : ∀ c, Leads c s CodeLaw
  | .powerOn pins =>
    .intro rfl (CodeLaw.ite _ (coldReset_codeLaw ⟨0, 0, false⟩ s) (coldReset_codeLaw pins s))
  | .resetPinRelease pins => resetPinRelease_codeLaw pins h
  | .warmReset _ => .intro rfl (CodeLaw.ite _ (clearWarm_codeLaw h) h)
  | .startupChecksDone f => .intro rfl (startupChecksDone_codeLaw f h)
  | .loadSample => .intro rfl (millisecond_codeLaw h)
  | .thermalTick => .intro rfl (onTick_codeLaw thermalTick_codeLaw h)
  | .pilotTick => .intro rfl (onTick_codeLaw pilotTick_codeLaw h)
  | .scrubTick => .intro rfl (onTick_codeLaw scrubTick_codeLaw h)
  | .reportTick =>
    .intro rfl (onTick_codeLaw (fun hs => conclude_codeLaw (s := s.setTimebase _) _ _ hs) h)
  | .driftSaveTick =>
    .intro rfl (onTick_codeLaw
      (fun hs => settleStore_codeLaw (s := requestSave _ (s.setTimebase _)) hs) h)
  | .restWakeExpiry => .intro rfl (restWakeExpiry_codeLaw h)
  | .primingTimerExpiry _ => .intro rfl (onTick_codeLaw (primingExpired_codeLaw _) h)
  | .settleTimerExpiry => .intro rfl (onTick_codeLaw settleTimerExpiry_codeLaw h)
  | .linkStale l => .intro rfl (onTick_codeLaw (ageExpiry_codeLaw l) h)
  | .blankAfterExpiry => .intro rfl (onTick_codeLaw blankAfterExpiry_codeLaw h)
  | .creditResendTimer l =>
    .intro rfl (CodeLaw.ite _ (h.frame (offerCredits_keeps (ps := [.linkA, .linkB]) l
      (KeepsBut.refl _ s) (by simp))) h)
  | .signalDetected l =>
    .intro rfl (CodeLaw.ite _ (h.frame (setLinkState_keeps (ps := [.linkA, .linkB]) l _
      (KeepsBut.refl _ s) (by simp))) h)
  | .symbolLock l =>
    .intro rfl (CodeLaw.ite _ (h.frame (offerCredits_keeps (ps := [.linkA, .linkB]) l
      (setLinkState_keeps l _ (KeepsBut.refl _ s) (by simp)) (by simp))) h)
  | .linkDown l => .intro rfl (linkDown_codeLaw l h)
  | .init l u => .intro rfl (receive_codeLaw l _ u h)
  | .frameHead l u => .intro rfl (receive_codeLaw l _ u h)
  | .row l u => .intro rfl (receive_codeLaw l _ u h)
  | .promptMessageArrival l kind u => .intro rfl (receive_codeLaw l kind u h)
  | .answerSent who => answerSent_codeLaw who h
  | .unknownKind l =>
    .intro rfl (h.frame (refusePrompt_keeps (ps := [.linkA, .linkB]) l (KeepsBut.refl _ s)
      (by simp)))
  | .block (.port l u) => .intro rfl (receive_codeLaw l _ u h)
  | .block (.tool _ _) => .intro rfl (toolStep_codeLaw _ _ (fun t ht => by
      obtain ⟨p, -, rfl⟩ := Option.map_eq_some_iff.mp ht
      trivial) h)
  | .wall l => .intro rfl (promptStep_codeLaw l _ h)
  | .take l => .intro rfl (promptStep_codeLaw l _ h)
  | .dark v | .light v | .rest v | .queryZoneStatus v | .queryStoreStatus v | .queryThermalState v
  | .queryWearState v | .queryGainState v | .queryComposerState v | .querySensorState v
  | .queryAuthorityState v | .queryLinkState v | .queryConfiguration v | .close v | .reset v
  | .rebuild v | .setJobLevel v | .setPhaseTable v | .setDarkPolicy v
  | .setHoldTime v | .setBlankAfter v | .setThermalInterval v | .setK v | .setRho v | .setFCap v
  | .setSensorMap v | .setAssumedAmbient v | .setPilotInterval v | .setScrubInterval v
  | .setReportInterval v | .setDriftSaveInterval v | .setRestWakeInterval v =>
    .intro rfl (requestStep_codeLaw v _ _ _ h)
  | .trim _ _ => .intro rfl (toolStep_codeLaw _ _ (fun _ ht => by cases ht; trivial) h)
  | .wearClear _ _ => .intro rfl (toolStep_codeLaw _ _ (fun _ => wearClearRequest_codesFit) h)
  | .bank _ _ => .intro rfl (toolStep_codeLaw _ _ (fun t ht => by
      obtain ⟨es, -, he⟩ := Option.bind_eq_some_iff.mp ht
      exact bankEntries_codesFit he) h)
  | .latch _ _ drive => .intro rfl (toolStep_codeLaw _ _ (fun _ => latchRequest_codesFit fun e => by
      rw [Rgb.get_map]
      exact Nat.le_of_lt_succ (Rgb.get drive e).isLt) h)
  | .identity _ _ => .intro rfl (toolStep_codeLaw _ _ (fun _ => parseIdentity_codesFit) h)
  | .sync low => .intro rfl (sync_codeLaw low h)
  | .serviceFrame bytes => .intro rfl (serviceFrame_codeLaw bytes h)
  | .serviceFrameTimeout => .intro rfl (CodeLaw.ite _ (s := discardFrame s) h h)
  | .serviceBreak _ =>
    .intro rfl (CodeLaw.ite _ (h.frame (returnToSync_keeps (ps := [.service, .chip])
      (KeepsBut.refl _ s) (by simp))) h)
  | .idle =>
    .intro rfl (CodeLaw.ite _ (h.frame (setService_keeps (ps := [.service, .chip]) _
      (returnToSync_keeps (KeepsBut.refl _ s) (by simp)) (by simp))) h)
  | .sensorResponse f => .intro rfl (onSensor_codeLaw (sensorResponse_codeLaw f) h)
  | .sensorDeadline => .intro rfl (onSensor_codeLaw sensorDeadline_codeLaw h)
  | .blockReadDone cells => .intro rfl (blockReadDone_codeLaw cells h)
  | .blockProgramDone cells => .intro rfl (blockProgramDone_codeLaw cells h)
  | .identityProgramDone cells => .intro rfl (identityProgramDone_codeLaw cells h)
  | .driftSaveDone cells => .intro rfl (driftSaveDone_codeLaw cells h)
  | .thermalJobEnd => .intro rfl (thermalJobEnd_codeLaw h)
  | .gainEnd => .intro rfl (gainEnd_codeLaw h)
  | .resetPinDrivenLow =>
    .intro rfl (CodeLaw.ite _ (s := setPhase _ _)
      (clearWarm_codeLaw (s := setPinLow true s) h) h)
  | .powerLoss => .intro rfl (coldReset_codeLaw ⟨0, 0, false⟩ s)

theorem step_codeLaw (h : CodeLaw s) (hs : step s = .next t) : CodeLaw t := by
  cases hp : s.pending with
  | nil =>
    rw [step_nil hp] at hs
    cases hs
    exact CodeLaw.ite _ (s := s.setChip _) h h
  | cons c rest =>
    rw [step_cons hp] at hs
    exact (leads_codeLaw (s := s.setPending rest) h c).of_exec hs

/-! ## The lanes (R15) -/

theorem mem_of_get_ne {α : Type} {d : α} {l : Table α} {i : Nat} (h : Table.get d l i ≠ d) :
    (i, Table.get d l i) ∈ l := by
  induction l with
  | nil => exact absurd rfl h
  | cons e l ih =>
    obtain ⟨k, v⟩ := e
    rw [Table.get_cons] at h ⊢
    split_ifs at h ⊢ with hk
    · exact hk ▸ List.mem_cons_self
    · exact List.mem_cons_of_mem _ (ih h)

/-- While configuration is OPEN every bank's lanes carry 0. -/
theorem carries_of_open (b : Nat) (h : s.chip.config = .opened) : s.carries b = .zero := by
  simp [State.carries, h]

theorem laneCode_of_open (x y : Nat) (h : s.chip.config = .opened) :
    s.laneCode x y = ⟨0, 0, 0⟩ := by
  unfold State.laneCode
  rw [carries_of_open _ h]
  rfl

/-- What the lanes carry is 0, a latch's code or a code of a delivered row. -/
theorem laneCode_le (h : CodeLaw s) (x y : Nat) (e : Emitter) :
    Rgb.get (s.laneCode x y) e ≤ 65535 := by
  obtain ⟨hl, hr⟩ := h
  have hzero : Rgb.get Rgb.zero e ≤ 65535 := (Rgb.get_zero e).trans_le (Nat.zero_le _)
  unfold State.laneCode
  split
  · exact hzero
  · exact hzero
  · unfold State.bank
    rw [List.getD_eq_getElem?_getD]
    cases hk : s.driver.banks[bankOf y]? with
    | none => exact hzero
    | some k => exact hl k (List.mem_of_getElem? hk) e
  · rw [List.getD_eq_getElem?_getD]
    cases hc : (Table.get [] s.driver.rows y)[x]? with
    | none => exact hzero
    | some c =>
      have hm : c ∈ Table.get [] s.driver.rows y := List.mem_of_getElem? hc
      exact hr _ (mem_of_get_ne (List.ne_nil_of_mem hm)) c hm e

end CodeLaw

/-- Settles O57: every command's operations keep the law (`leads_codeLaw`), and the lanes carry 0,
a latch or a delivered code. -/
theorem driveCodesStayInRange : Obligations.DriveCodesStayInRange :=
  ⟨fun _ _ h hs => step_codeLaw h hs, fun _ => ⟨fun h => laneCode_le h,
    fun ho x y => laneCode_of_open x y ho⟩⟩

end Sys2Proof.Machine
end

section
/-! The render table and the applied gain set while rendering (R3, R11, R12): what a command does
before the step settles leaves both, and settling moves work into force only where the part does
not render. -/

namespace Sys2Proof.Machine

/-- The render table, the zone statuses and the applied gain set are those of `s`. -/
def TableKept (s t : State) : Prop :=
  t.render.table = s.render.table ∧ t.render.zones = s.render.zones ∧
    t.render.applied = s.render.applied

/-- They are those of `s` if the part renders. -/
def KeptWhileRendering (s t : State) : Prop := t.isRendering = true → TableKept s t

/-- Every part but the render engine. -/
def allButRender : List Part :=
  [.chip, .settings, .timebase, .driver, .composer, .store, .thermal, .wear, .gain, .sensors,
    .authority, .linkA, .linkB, .service, .freeDraws, .pending]

section Kept

variable {s t u : State}

theorem TableKept.refl (s : State) : TableKept s s := ⟨rfl, rfl, rfl⟩

theorem TableKept.of_render (h : t.render = s.render) : TableKept s t := by
  unfold TableKept
  rw [h]
  exact ⟨rfl, rfl, rfl⟩

theorem TableKept.trans (h : TableKept s t) (k : TableKept t u) : TableKept s u :=
  ⟨k.1.trans h.1, k.2.1.trans h.2.1, k.2.2.trans h.2.2⟩

theorem TableKept.kept (h : TableKept s t) : KeptWhileRendering s t := fun _ => h

theorem KeepsBut.tableKept (k : KeepsBut allButRender s t) : TableKept s t :=
  .of_render (k.render_eq (by decide))

/-- A change outside the render engine. -/
theorem KeepsBut.kept (k : KeepsBut allButRender s t) : KeptWhileRendering s t := k.tableKept.kept

theorem KeptWhileRendering.after (h : TableKept s t) (k : KeptWhileRendering t u) :
    KeptWhileRendering s u := fun hr => h.trans (k hr)

theorem KeptWhileRendering.ite (p : Prop) [Decidable p] (ht : p → KeptWhileRendering s t)
    (hu : ¬p → KeptWhileRendering s u) : KeptWhileRendering s (if p then t else u) := by
  split_ifs with hp
  · exact ht hp
  · exact hu hp

/-- A part that does not render has nothing to keep. -/
theorem KeptWhileRendering.of_open (h : t.chip.config = .opened) : KeptWhileRendering s t := by
  intro hr
  simp [State.isRendering, h] at hr

/-- Rendering is a matter of the power state, the output state and the configuration (R3). -/
theorem isRendering_congr (hc : t.chip = s.chip) (ha : t.authority.output = s.authority.output) :
    t.isRendering = s.isRendering := by
  unfold State.isRendering
  rw [hc, ha]

theorem isClosed_of_isRendering (h : s.isRendering = true) : s.isClosed = true := by
  simp only [State.isRendering, Bool.and_eq_true] at h
  exact h.2

/-- What comes behind the settling of a step and changes neither whether the part renders nor what
it renders with. -/
theorem KeptWhileRendering.frame {ps : List Part} (h : KeptWhileRendering s t)
    (k : KeepsBut ps t u) (hp : .render ∉ ps ∧ .chip ∉ ps ∧ .authority ∉ ps := by decide) :
    KeptWhileRendering s u := by
  obtain ⟨hr, hc, ha⟩ := hp
  intro hu
  have ht : t.isRendering = true :=
    (isRendering_congr (k.chip_eq hc) (by rw [k.authority_eq ha])) ▸ hu
  exact (h ht).trans (.of_render (k.render_eq hr))

/-! ## Settling and the report -/

/-- Settling moves work into force only where the part does not render (R12). -/
theorem settle_kept (s : State) : KeptWhileRendering s (settle s) := by
  have hd : KeepsBut [.driver, .composer, .store] s (takeDeferred (settleBanks s)) :=
    takeDeferred_keeps (settleBanks_keeps (KeepsBut.refl _ s) (by simp)) (by simp)
  have hr : KeptWhileRendering s (settleRender (takeDeferred (settleBanks s))) := by
    unfold settleRender
    split_ifs with h
    · exact (TableKept.of_render (hd.render_eq (by decide))).kept
    · have hk : KeepsBut [.render, .composer] (takeDeferred (settleBanks s))
          (moveIntoForce (takeDeferred (settleBanks s))) :=
        moveIntoForce_keeps (KeepsBut.refl _ _) (by simp)
      intro hm
      rw [isRendering_congr (hk.chip_eq (by decide)) (by rw [hk.authority_eq (by decide)])] at hm
      exact absurd hm h
  exact hr.frame (settleWork_keeps (ps := [.composer, .store, .driver, .thermal, .wear])
    (KeepsBut.refl _ _) (by simp))

/-- A command that changes parts outside the render engine and then settles. -/
theorem KeepsBut.settle_kept (k : KeepsBut allButRender s t) : KeptWhileRendering s (settle t) :=
  .after k.tableKept (Machine.settle_kept t)

/-- A report clears the limited counts and leaves what the engine renders with. -/
theorem report_tableKept (cs : List Cause) (s : State) :
    TableKept s (report cs s) ∧ (report cs s).authority.output = s.authority.output := by
  by_cases h : s.linkA.state = .ready ∨ s.linkB.state = .ready
  · obtain ⟨ha, hr, -⟩ := report_of_ready h cs
    unfold TableKept
    rw [ha, hr]
    exact ⟨⟨rfl, rfl, rfl⟩, rfl⟩
  · rw [report_of_none_ready (fun hl => h (.inl hl)) (fun hl => h (.inr hl))]
    exact ⟨.refl s, rfl⟩

theorem conclude_kept (extra : List Cause) (before : State) (h : KeptWhileRendering s t) :
    KeptWhileRendering s (conclude extra before t) := by
  unfold conclude
  dsimp only
  split_ifs
  · obtain ⟨hk, ho⟩ := report_tableKept (causesOf extra before t) t
    intro hr
    rw [isRendering_congr ((report_keepsBut _ t).chip_eq (by decide)) ho] at hr
    exact (h hr).trans hk
  · exact h

/-! ## Requests -/

theorem powerCommand_kept (o : Origin) {f : State → State} (hf : KeepsBut allButRender s (f s)) :
    KeptWhileRendering s (powerCommand o f s).state := by
  unfold powerCommand
  split_ifs
  · exact hf.settle_kept
  · exact (TableKept.refl s).kept

/-- R102: only a SET of f_cap touches the applied gain set, and it is locked while CLOSED. -/
theorem applySetting_kept {x : Setting} (hx : x ≠ .fCap) (v : Int) (s : State) :
    KeptWhileRendering s (applySetting x v s) := by
  have hk : KeepsBut allButRender s s := KeepsBut.refl _ s
  cases x with
  | holdTime => exact (applyHoldTime_keeps _ hk (by simp [allButRender])).settle_kept
  | blankAfter => exact (applyBlankAfter_keeps _ hk (by simp [allButRender])).settle_kept
  | fCap => exact absurd rfl hx
  | sensorMap => exact (remapSensors_keeps _ hk (by simp [allButRender])).kept
  | _ => exact (setSettings_keeps _ hk (by simp [allButRender])).kept

theorem performSet_kept (op : SetOp) (hc : s.isClosed = true) :
    KeptWhileRendering s (performSet op s).state := by
  have hr : KeptWhileRendering s s := (TableKept.refl s).kept
  have hk : KeepsBut allButRender s s := KeepsBut.refl _ s
  cases op with
  | jobLevel k v =>
    unfold performSet setJobLevel
    dsimp only
    split_ifs
    · exact hr
    · exact hr
    · exact (settleWork_keeps (setComposer_keeps _ hk (by decide)) (by simp [allButRender])).kept
  | phaseTable t => simpa only [performSet, setPhaseTable, if_pos hc, acted] using hr
  | darkPolicy b v => simpa only [performSet, setDarkPolicy, if_pos hc, acted] using hr
  | value x v =>
    unfold performSet setValue
    dsimp only
    split_ifs with hlock
    · exact hr
    · exact hr
    all_goals
      refine applySetting_kept (fun hx => hlock ⟨hc, .inl ?_⟩) _ s
      rw [hx]
      rfl

theorem perform_kept (o : Origin) (r : Request) (hc : s.isClosed = true) :
    KeptWhileRendering s (perform o r s).state := by
  have hr : KeptWhileRendering s s := (TableKept.refl s).kept
  have hk : KeepsBut allButRender s s := KeepsBut.refl _ s
  cases r with
  | wall r =>
    cases o with
    | link l =>
      exact (settleWork_keeps (storeRecord_keeps l _ hk (by simp [allButRender]))
        (by simp [allButRender])).kept
    | tool => exact hr
  | take =>
    cases o with
    | link l =>
      unfold perform performTake takeCommand
      dsimp only
      split_ifs
      · exact (setAuthority_keeps _ hk (by decide)).kept
      · exact (setAuthority_keeps _ hk (by decide)).kept
      · exact hr
    | tool => exact hr
  | dark => exact powerCommand_kept o (commandDark_keeps hk (by simp [allButRender]))
  | light => exact powerCommand_kept o (commandLight_keeps hk (by simp [allButRender]))
  | rest => exact powerCommand_kept o (commandRest_keeps hk (by simp [allButRender]))
  | rebuild zs =>
    unfold perform performRebuild
    dsimp only
    split_ifs
    · exact hr
    · exact (settleWork_keeps (joinBuild_keeps zs hk (by simp [allButRender]))
        (by simp [allButRender])).kept
  | query q => exact hr
  | set op => exact performSet_kept op hc
  | close => simpa only [perform, closeConfiguration, if_pos hc, acted] using hr
  | reset => exact hr

theorem offerProgram_keeps (tag : Byte) (p : ServiceProgram) (s : State) :
    KeepsBut [.store, .service] s (offerProgram tag p s).state := by
  have hk : KeepsBut [.store, .service] s s := KeepsBut.refl _ s
  unfold offerProgram
  split
  · exact settleStore_keeps (placeTool_keeps tag p hk (by simp)) (by simp)
  · exact setService_keeps _ hk (by simp)
  · exact hk

theorem setBankModes_keeps (es : List (Nat × BankMode)) (h : KeepsBut [.driver] s t) :
    KeepsBut [.driver] s (setBankModes es t) := by
  unfold setBankModes
  induction es generalizing t with
  | nil => exact h
  | cons e es ih => exact ih (setBankMode_keeps e.1 e.2 h (by simp))

theorem performTool_kept (tag : Byte) (r : ToolRequest) (hc : s.isClosed = true) :
    KeptWhileRendering s (performTool tag r s).state := by
  have hr : KeptWhileRendering s s := (TableKept.refl s).kept
  have hk : KeepsBut allButRender s s := KeepsBut.refl _ s
  cases r with
  | shared r => exact perform_kept .tool r hc
  | block p =>
    unfold performTool toolBlock
    dsimp only
    split_ifs
    · exact hr.frame (offerProgram_keeps tag _ s)
    · exact hr
  | identity fields =>
    simpa only [performTool, toolIdentity, if_pos hc, acted, ToolActed.state] using hr
  | trim codes =>
    exact (settleWork_keeps (setTrims_keeps codes hk (by simp [allButRender]))
      (by simp [allButRender])).kept
  | wearClear z =>
    exact (settleWork_keeps (clearWear_keeps z hk (by simp [allButRender]))
      (by simp [allButRender])).kept
  | bank es => exact hr.frame (setBankModes_keeps es (KeepsBut.refl _ s))
  | latch b v => exact (setBankLatch_keeps b v hk (by simp [allButRender])).kept

theorem handlePrompt_kept (l : Link) (m : Message) (rest : List Message) (r : Request)
    (hc : s.isClosed = true) : KeptWhileRendering s (handlePrompt l m rest r s) := by
  have hb : KeepsBut [.linkA, .linkB] s (beginPrompt l rest s) :=
    setLink_keeps l _ (KeepsBut.refl _ s) (by decide) (by decide)
  have hclosed : (beginPrompt l rest s).isClosed = true := by
    unfold State.isClosed
    rw [hb.chip_eq (by decide)]
    exact hc
  exact (KeptWhileRendering.after (.of_render (hb.render_eq (by decide)))
    (perform_kept (.link l) r hclosed)).frame (handlePrompt_keeps l m rest r s)

theorem handleFrame_kept (tag kind : Byte) (req : Option ToolRequest) (hc : s.isClosed = true) :
    KeptWhileRendering s (handleFrame tag kind req s) := by
  rcases handleFrame_cases tag kind req s with hk | ⟨r, -, he⟩
  · exact (TableKept.refl s).kept.frame hk
  · rw [he]
    exact (performTool_kept tag r hc).frame (answerTool_keeps tag kind _ _)

theorem promptStep_kept (l : Link) (mine : Request → Bool) (hc : s.isClosed = true) :
    KeptWhileRendering s (promptStep l mine s) := by
  rcases promptStep_cases l mine s with he | ⟨m, rest, r, he⟩
  · exact he.symm ▸ (TableKept.refl s).kept
  · exact he ▸ conclude_kept _ _ (handlePrompt_kept l m rest r hc)

theorem toolStep_kept (tag kind : Byte) (req : Option ToolRequest) (hc : s.isClosed = true) :
    KeptWhileRendering s (toolStep tag kind req s) := by
  rcases toolStep_cases tag kind req s with he | he
  · exact he.symm ▸ (TableKept.refl s).kept
  · exact he ▸ conclude_kept _ _ (handleFrame_kept tag kind req hc)

theorem requestStep_kept {α : Type} (v : Via α) (mine : Request → Bool) (kind : Byte)
    (req : α → Option Request) (hc : s.isClosed = true) :
    KeptWhileRendering s (requestStep v mine kind req s) := by
  cases v with
  | port l => exact promptStep_kept l mine hc
  | tool tag a => exact toolStep_kept tag kind _ hc

/-! ## Receipt -/

/-- A ROW changes the limited counts alone of what the render engine holds (R4). -/
theorem computeRow_tableKept (y : Nat) (pixels : List (Rgb Nat)) (s : State) :
    TableKept s (computeRow y pixels s) := ⟨rfl, rfl, rfl⟩

theorem passRow_kept (l : Link) (body : List Byte) (s : State) :
    KeptWhileRendering s (passRow l body s) := by
  rcases passRow_cases l body s with hk | ⟨y, pixels, he⟩
  · exact (TableKept.refl s).kept.frame hk
  · exact he ▸ (computeRow_tableKept y pixels s).kept

/-- A message that is no frame head. -/
theorem receive_kept (l : Link) {kind : Byte} (u : LinkUnit) (hkind : kind ≠ 0x01) (s : State) :
    KeptWhileRendering s (receive l kind u s) := by
  rcases receive_cases l kind u s with hk | ⟨h1, -⟩ | ⟨-, he⟩
  · exact (TableKept.refl s).kept.frame hk
  · exact absurd h1 hkind
  · exact he ▸ passRow_kept l u.body s

/-! ## Resets -/

theorem warmReset_kept (c : ResetCause) (s t : State) : KeptWhileRendering s (warmReset c t) :=
  .of_open rfl

/-- A part that has started up is neither held nor powering up. -/
theorem resetPinRelease_kept (pins : StrapPins) (hs : s.started = true) :
    Leads (.resetPinRelease pins) s (KeptWhileRendering s) := by
  have hp : s.chip.phase = .running := by simpa [State.started] using hs
  refine .intro rfl ?_
  simp only [setPinLow, setChip_chip, hp]
  exact (TableKept.of_render rfl).kept

/-! ## Ticks, expiries and ends -/

theorem onTick_kept {f : State → State} (hf : KeptWhileRendering s (f s)) :
    KeptWhileRendering s (onTick f s) := .ite _ (fun _ => hf) fun _ => (TableKept.refl s).kept

theorem thermalTick_kept (s : State) : KeptWhileRendering s (thermalTick s) :=
  conclude_kept _ _ (startNext_keeps (joinRound_keeps _ (setThermal_keeps _ (setTimebase_keeps _
    (KeepsBut.refl _ s) (by decide)) (by decide)) (by simp [allButRender]))
    (by simp [allButRender])).settle_kept

theorem pilotTick_kept (s : State) : KeptWhileRendering s (pilotTick s) :=
  (settleWork_keeps (startSequence_keeps (setTimebase_keeps _ (KeepsBut.refl _ s) (by decide))
    (by simp [allButRender])) (by simp [allButRender])).kept

theorem scrubTick_kept (s : State) : KeptWhileRendering s (scrubTick s) :=
  (settleWork_keeps (requestScrub_keeps (setTimebase_keeps _ (KeepsBut.refl _ s) (by decide))
    (by simp [allButRender])) (by simp [allButRender])).kept

theorem reportTick_kept (s : State) : KeptWhileRendering s (reportTick s) :=
  conclude_kept _ _ (setTimebase_keeps (ps := allButRender) _ (KeepsBut.refl _ s) (by decide)).kept

theorem driftSaveTick_kept (s : State) : KeptWhileRendering s (driftSaveTick s) :=
  (settleStore_keeps (requestSave_keeps _ (setTimebase_keeps _ (KeepsBut.refl _ s) (by decide))
    (by simp [allButRender])) (by simp [allButRender])).kept

theorem restWakeExpiry_kept (s : State) : KeptWhileRendering s (restWakeExpiry s) :=
  .ite _ (fun _ => conclude_kept _ _ (startNext_keeps (joinRound_keeps _ (clearLoad_keeps
    (setChip_keeps _ (KeepsBut.refl _ s) (by decide)) (by simp [allButRender]))
    (by simp [allButRender])) (by simp [allButRender])).settle_kept)
    fun _ => (TableKept.refl s).kept

theorem settleTimerExpiry_kept (s : State) : KeptWhileRendering s (settleTimerExpiry s) := by
  unfold settleTimerExpiry
  split
  · exact (startNext_keeps (beginRead_keeps _ (KeepsBut.refl _ s) (by simp [allButRender]))
      (by simp [allButRender])).settle_kept
  all_goals exact (TableKept.refl s).kept

theorem ageExpiry_kept (l : Link) (s : State) : KeptWhileRendering s (ageExpiry l s) :=
  .ite _ (fun _ => conclude_kept _ _ (linkStale_keeps l (setLink_keeps _ _ (KeepsBut.refl _ s)
    (by decide) (by decide)) (by simp [allButRender])).settle_kept)
    fun _ => (TableKept.refl s).kept

theorem blankAfterExpiry_kept (s : State) : KeptWhileRendering s (blankAfterExpiry s) :=
  .ite _ (fun _ => conclude_kept _ _ (blank_keeps (KeepsBut.refl _ s)
    (by simp [allButRender])).settle_kept) fun _ => (TableKept.refl s).kept

theorem goDown_kept (l : Link) (s : State) : KeptWhileRendering s (goDown l s) := by
  have hl : KeepsBut allButRender s (s.setLink l (s.link l).dropped) :=
    setLink_keeps _ _ (KeepsBut.refl _ s) (by decide) (by decide)
  refine (authorityDown_keeps l ?_ (by simp [allButRender])).settle_kept
  split_ifs
  · exact dueReset_keeps _ hl (by simp [allButRender])
  · exact hl

theorem linkDown_kept (l : Link) (s : State) : KeptWhileRendering s (linkDown l s) := by
  unfold linkDown
  split_ifs
  · exact (TableKept.refl s).kept
  · split
    · exact (TableKept.refl s).kept
    · exact (setLinkState_keeps l _ (KeepsBut.refl _ s) (by simp [allButRender])).kept
    · exact conclude_kept _ _ (goDown_kept l s)
    · exact conclude_kept _ _ (goDown_kept l s)

theorem sync_kept (low : Nat) (s : State) : KeptWhileRendering s (sync low s) := by
  unfold sync
  dsimp only
  split_ifs
  · exact conclude_kept _ _ (reportSync_keeps (setService_keeps _ (KeepsBut.refl _ s) (by decide))
      (by simp [allButRender])).settle_kept
  · exact (setService_keeps (ps := allButRender) _ (KeepsBut.refl _ s) (by decide)).kept
  · exact (TableKept.refl s).kept

theorem onSensor_kept {f : State → State} (hf : KeepsBut allButRender s (f s)) :
    KeptWhileRendering s (onSensor f s) :=
  .ite _ (fun _ => conclude_kept _ _ hf.settle_kept) fun _ => (TableKept.refl s).kept

theorem endBlockRead_keeps (i : Nat) (cells : Option Stored) (s : State) :
    KeepsBut [.composer, .store] s (endBlockRead i cells s) := by
  have hp : KeepsBut [.composer, .store] s
      (setPort .free (setSlot i (cells.getD (s.slot i)) s)) :=
    setPort_keeps _ (setSlot_keeps _ _ (KeepsBut.refl _ s) (by simp)) (by simp)
  unfold endBlockRead
  dsimp only
  split_ifs
  · exact setComposer_keeps _ hp (by decide)
  · exact absorbRead_keeps _ hp (by simp)

theorem blockReadDone_kept (cells : Option Stored) (s : State) :
    KeptWhileRendering s (blockReadDone cells s) := by
  unfold blockReadDone
  split
  · exact ((endBlockRead_keeps _ cells s).mono (by simp [allButRender])).settle_kept
  all_goals exact (TableKept.refl s).kept

theorem reportProgram_keeps (who : Requester) (ok : Bool) {ps : List Part}
    (h : KeepsBut ps s t) (hp : [.linkA, .linkB, .store, .service] ⊆ ps) :
    KeepsBut ps s (reportProgram who ok t) := by
  simp only [List.cons_subset, List.nil_subset, and_true] at hp
  cases who <;> simp [reportProgram, h, hp]

theorem countProgramFailure_keeps (ok : Bool) {ps : List Part} (h : KeepsBut ps s t)
    (hp : [.store] ⊆ ps) : KeepsBut ps s (countProgramFailure ok t) := by
  simp only [List.cons_subset, List.nil_subset, and_true] at hp
  unfold countProgramFailure
  split_ifs <;> simp [h, hp]

theorem blockProgramDone_kept (cells : Option Stored) (s : State) :
    KeptWhileRendering s (blockProgramDone cells s) := by
  have hk : KeepsBut allButRender s s := KeepsBut.refl _ s
  unfold blockProgramDone
  split
  · exact (settleWork_keeps (reportProgram_keeps _ _ (setPort_keeps _ (joinBuild_keeps _
      (countProgramFailure_keeps _ (setBlockState_keeps _ _ (setSlot_keeps _ _ hk
      (by simp [allButRender])) (by simp [allButRender])) (by simp [allButRender]))
      (by simp [allButRender])) (by simp [allButRender])) (by simp [allButRender]))
      (by simp [allButRender])).kept
  all_goals exact (TableKept.refl s).kept

theorem identityProgramDone_kept (cells : Option Stored) (s : State) :
    KeptWhileRendering s (identityProgramDone cells s) := by
  have hk : KeepsBut allButRender s s := KeepsBut.refl _ s
  unfold identityProgramDone
  split
  · exact (settleWork_keeps (completeService_keeps _ (setPort_keeps _ (joinAll_keeps
      (countProgramFailure_keeps _ (loadIdentity_keeps (setStore_keeps _ hk (by decide))
      (by simp [allButRender])) (by simp [allButRender])) (by simp [allButRender]))
      (by simp [allButRender])) (by simp [allButRender])) (by simp [allButRender])).kept
  all_goals exact (TableKept.refl s).kept

theorem driftSaveDone_kept (cells : Option Stored) (s : State) :
    KeptWhileRendering s (driftSaveDone cells s) := by
  unfold driftSaveDone
  split
  · refine conclude_kept _ _ (KeepsBut.settle_kept ?_)
    unfold endDriftSave
    dsimp only
    split_ifs <;> simp [KeepsBut.refl, allButRender]
  all_goals exact (TableKept.refl s).kept

theorem thermalJobEnd_kept (s : State) : KeptWhileRendering s (thermalJobEnd s) := by
  unfold thermalJobEnd
  split
  · exact .ite _ (fun _ => (TableKept.refl s).kept) fun _ =>
      (settleWork_keeps (endThermal_keeps _ (KeepsBut.refl _ s) (by simp [allButRender]))
        (by simp [allButRender])).kept
  all_goals exact (TableKept.refl s).kept

/-- R99: the end of a GAIN run leaves a pending gain set, and the applied one as it was. -/
theorem endGain_tableKept (i : GainInputs) (s : State) : TableKept s (endGain i s) :=
  ⟨rfl, rfl, rfl⟩

theorem gainEnd_kept (s : State) : KeptWhileRendering s (gainEnd s) := by
  unfold gainEnd
  split
  · exact .ite _ (fun _ => (TableKept.refl s).kept) fun _ =>
      conclude_kept _ _ (.after (endGain_tableKept _ s) (settle_kept _))
  all_goals exact (TableKept.refl s).kept

theorem answerSent_kept (who : Sender) : Leads (.answerSent who) s (KeptWhileRendering s) := by
  have hr := (TableKept.refl s).kept
  have hk : KeepsBut allButRender s s := KeepsBut.refl _ s
  cases who with
  | link l =>
    exact .intro rfl (.ite _ (fun _ => (linkSent_keeps l hk (by simp [allButRender])).kept)
      fun _ => hr)
  | service =>
    exact .intro rfl (.ite _ (fun _ => (serviceSent_keeps hk (by simp [allButRender])).kept)
      fun _ => hr)

/-! ## Every command -/

/-- From a started part that renders, every command but FRAME_HEAD and SERVICE_FRAME. -/
theorem leads_kept (hs : s.started = true) (hr : s.isRendering = true) : ∀ c : Instr,
    c.wellFormed = true → (∀ l u, c ≠ .frameHead l u) → (∀ bytes, c ≠ .serviceFrame bytes) →
    Leads c s (KeptWhileRendering s)
  | .powerOn pins, _, _, _ => .intro rfl (.ite _ (fun _ => .of_open rfl) fun _ => .of_open rfl)
  | .resetPinRelease pins, _, _, _ => resetPinRelease_kept pins hs
  | .warmReset _, _, _, _ =>
    .intro rfl (.ite _ (fun _ => warmReset_kept _ s s) fun _ => (TableKept.refl s).kept)
  | .startupChecksDone _, _, _, _ => by
    refine .intro rfl (.ite _ (fun hp => ?_) fun _ => (TableKept.refl s).kept)
    simp [State.started, hp] at hs
  | .loadSample, _, _, _ =>
    .intro rfl (millisecond_keeps (KeepsBut.refl _ s) (by simp [allButRender])).kept
  | .thermalTick, _, _, _ => .intro rfl (onTick_kept (thermalTick_kept s))
  | .pilotTick, _, _, _ => .intro rfl (onTick_kept (pilotTick_kept s))
  | .scrubTick, _, _, _ => .intro rfl (onTick_kept (scrubTick_kept s))
  | .reportTick, _, _, _ => .intro rfl (onTick_kept (reportTick_kept s))
  | .driftSaveTick, _, _, _ => .intro rfl (onTick_kept (driftSaveTick_kept s))
  | .restWakeExpiry, _, _, _ => .intro rfl (restWakeExpiry_kept s)
  | .primingTimerExpiry b, _, _, _ =>
    .intro rfl (onTick_kept (primingExpired_keeps b.val (KeepsBut.refl _ s)
      (by simp [allButRender])).kept)
  | .settleTimerExpiry, _, _, _ => .intro rfl (onTick_kept (settleTimerExpiry_kept s))
  | .linkStale l, _, _, _ => .intro rfl (onTick_kept (ageExpiry_kept l s))
  | .blankAfterExpiry, _, _, _ => .intro rfl (onTick_kept (blankAfterExpiry_kept s))
  | .creditResendTimer l, _, _, _ =>
    .intro rfl (.ite _ (fun _ => (offerCredits_keeps l (KeepsBut.refl _ s)
      (by simp [allButRender])).kept) fun _ => (TableKept.refl s).kept)
  | .signalDetected l, _, _, _ =>
    .intro rfl (.ite _ (fun _ => (setLinkState_keeps l _ (KeepsBut.refl _ s)
      (by simp [allButRender])).kept) fun _ => (TableKept.refl s).kept)
  | .symbolLock l, _, _, _ =>
    .intro rfl (.ite _ (fun _ => (offerCredits_keeps l (setLinkState_keeps l _ (KeepsBut.refl _ s)
      (by simp [allButRender])) (by simp [allButRender])).kept) fun _ => (TableKept.refl s).kept)
  | .linkDown l, _, _, _ => .intro rfl (linkDown_kept l s)
  | .init l u, _, _, _ => .intro rfl (receive_kept l u (by decide) s)
  | .frameHead l u, _, hf, _ => absurd rfl (hf l u)
  | .row l u, _, _, _ => .intro rfl (receive_kept l u (by decide) s)
  | .promptMessageArrival l kind u, hw, _, _ =>
    .intro rfl (receive_kept l u (fun hk => Laws.OwnRow.promptMessageArrival l kind u hw l kind u
      rfl (by simp [hk, ownRowKinds])) s)
  | .answerSent who, _, _, _ => answerSent_kept who
  | .unknownKind l, _, _, _ =>
    .intro rfl (refusePrompt_keeps l (KeepsBut.refl _ s) (by simp [allButRender])).kept
  | .block (.port l u), _, _, _ => .intro rfl (receive_kept l u (by decide) s)
  | .block (.tool _ _), _, _, _ => .intro rfl (toolStep_kept _ _ _ (isClosed_of_isRendering hr))
  | .wall l, _, _, _ | .take l, _, _, _ =>
    .intro rfl (promptStep_kept l _ (isClosed_of_isRendering hr))
  | .dark v, _, _, _ | .light v, _, _, _ | .rest v, _, _, _ | .queryZoneStatus v, _, _, _
  | .queryStoreStatus v, _, _, _ | .queryThermalState v, _, _, _ | .queryWearState v, _, _, _
  | .queryGainState v, _, _, _ | .queryComposerState v, _, _, _ | .querySensorState v, _, _, _
  | .queryAuthorityState v, _, _, _ | .queryLinkState v, _, _, _ | .queryConfiguration v, _, _, _
  | .close v, _, _, _ | .reset v, _, _, _ | .rebuild v, _, _, _ | .setJobLevel v, _, _, _
  | .setPhaseTable v, _, _, _ | .setDarkPolicy v, _, _, _ | .setHoldTime v, _, _, _
  | .setBlankAfter v, _, _, _ | .setThermalInterval v, _, _, _ | .setK v, _, _, _
  | .setRho v, _, _, _ | .setFCap v, _, _, _ | .setSensorMap v, _, _, _
  | .setAssumedAmbient v, _, _, _ | .setPilotInterval v, _, _, _ | .setScrubInterval v, _, _, _
  | .setReportInterval v, _, _, _ | .setDriftSaveInterval v, _, _, _
  | .setRestWakeInterval v, _, _, _ =>
    .intro rfl (requestStep_kept v _ _ _ (isClosed_of_isRendering hr))
  | .trim _ _, _, _, _ | .wearClear _ _, _, _, _ | .bank _ _, _, _, _ | .latch _ _ _, _, _, _
  | .identity _ _, _, _, _ => .intro rfl (toolStep_kept _ _ _ (isClosed_of_isRendering hr))
  | .sync low, _, _, _ => .intro rfl (sync_kept low s)
  | .serviceFrame bytes, _, _, hb => absurd rfl (hb bytes)
  | .serviceFrameTimeout, _, _, _ =>
    .intro rfl (.ite _ (fun _ => (discardFrame_keeps (KeepsBut.refl _ s)
      (by simp [allButRender])).kept) fun _ => (TableKept.refl s).kept)
  | .serviceBreak _, _, _, _ =>
    .intro rfl (.ite _ (fun _ => (returnToSync_keeps (KeepsBut.refl _ s)
      (by simp [allButRender])).kept) fun _ => (TableKept.refl s).kept)
  | .idle, _, _, _ =>
    .intro rfl (.ite _ (fun _ => (setService_keeps _ (returnToSync_keeps (KeepsBut.refl _ s)
      (by simp [allButRender])) (by decide)).kept) fun _ => (TableKept.refl s).kept)
  | .sensorResponse f, _, _, _ =>
    .intro rfl (onSensor_kept (sensorResponse_keeps f (KeepsBut.refl _ s) (by simp [allButRender])))
  | .sensorDeadline, _, _, _ =>
    .intro rfl (onSensor_kept (sensorDeadline_keeps (KeepsBut.refl _ s) (by simp [allButRender])))
  | .blockReadDone cells, _, _, _ => .intro rfl (blockReadDone_kept cells s)
  | .blockProgramDone cells, _, _, _ => .intro rfl (blockProgramDone_kept cells s)
  | .identityProgramDone cells, _, _, _ => .intro rfl (identityProgramDone_kept cells s)
  | .driftSaveDone cells, _, _, _ => .intro rfl (driftSaveDone_kept cells s)
  | .thermalJobEnd, _, _, _ => .intro rfl (thermalJobEnd_kept s)
  | .gainEnd, _, _, _ => .intro rfl (gainEnd_kept s)
  | .resetPinDrivenLow, _, _, _ =>
    .intro rfl (.ite _ (fun _ => .of_open rfl) fun _ => (TableKept.of_render rfl).kept)
  | .powerLoss, _, _, _ => .intro rfl (.of_open rfl)

end Kept

/-- Settles O58: before a step settles no command but a frame head changes what the engine renders
with, and settling does so only where the part does not render, which its end then shows. -/
theorem tableChangesAtFrameHeads : Obligations.TableChangesAtFrameHeads :=
  fun c _ _ hw hf hb he hs hr ht => (leads_kept hs hr c hw hf hb).of_exec he ht

end Sys2Proof.Machine
end

section
/-! Warm resets (R175, R176): what the abandonment of a grant leaves, what the clearing sets and
keeps, and the commands that bring a warm reset. -/

namespace Sys2Proof.Machine

/-! ## The abandonment of a grant (R49) -/

/-- The record of the drift store's check is no content that an abandonment spoils. -/
theorem abandonGrant_driftFlags (s : State) :
    (abandonGrant s).store.driftValid = s.store.driftValid ∧
      (abandonGrant s).store.driftReset = s.store.driftReset := by
  unfold abandonGrant
  dsimp only
  split <;> exact ⟨rfl, rfl⟩

/-- Where no grant writes, nothing is abandoned but the port's use. -/
theorem abandonGrant_of_noWrite {s : State} (h : NoWriteGrant s) : abandonGrant s = s := by
  unfold abandonGrant
  dsimp only
  split
  · obtain ⟨i, hi⟩ := h _ ‹_›
    exact nomatch hi
  · obtain ⟨i, hi⟩ := h _ ‹_›
    exact nomatch hi
  · obtain ⟨i, hi⟩ := h _ ‹_›
    exact nomatch hi
  all_goals rfl

/-! ## What a warm reset clears and keeps -/

/-- R121: the record of a sensor in the map stays. -/
theorem tempRecord_warm (n : Sensors) {map : List Nat} {q : Nat} (hq : q ∈ map) :
    (n.warm map).temps.getD q ⟨0, none⟩ = n.temps.getD q ⟨0, none⟩ := by
  have hc : map.contains q = true := List.contains_iff_mem.mpr hq
  simp only [Sensors.warm, List.getD_eq_getElem?_getD, List.getElem?_map, List.getElem?_zipIdx,
    Nat.zero_add]
  cases n.temps[q]? with
  | none => rfl
  | some r => simp [hq]

theorem warmCleared_clearWarm (s : State) : WarmCleared s (clearWarm s) := by
  have hr : (abandonGrant s).authority = s.authority :=
    (abandonGrant_keeps s).authority_eq (by decide)
  have hb : ∀ b ∈ (clearWarm s).driver.banks,
      b.policy = .park ∧ b.priming = .active ∧ b.timer = 0 := by
    intro b hm
    obtain ⟨a, -, rfl⟩ := List.mem_map.mp hm
    exact ⟨rfl, rfl, rfl⟩
  have ha : (clearWarm s).authority = { Authority.reset with record := s.authority.record } := by
    rw [← hr]
    rfl
  refine ⟨rfl, rfl, rfl, rfl, rfl, rfl, ha, rfl, rfl, rfl, rfl, rfl, rfl, hb, ?_⟩
  and_intros <;> rfl

theorem warmKept_clearWarm (s : State) : WarmKept s (clearWarm s) := by
  have hk := abandonGrant_keeps s
  obtain ⟨hv, hd⟩ := abandonGrant_driftFlags s
  have hrender : (clearWarm s).render = s.render.warm :=
    congrArg Render.warm (hk .render (by decide))
  have hbanks : (clearWarm s).driver.banks = s.driver.banks.map Bank.warm :=
    congrArg (fun d : Driver => d.banks.map Bank.warm) (hk .driver (by decide))
  have hthermal : (abandonGrant s).thermal = s.thermal := hk .thermal (by decide)
  have htemps : (clearWarm s).thermal.temps = s.thermal.temps :=
    (rfl : _ = (abandonGrant s).thermal.temps).trans (by rw [hthermal])
  have hwear : (clearWarm s).wear = s.wear.warm := congrArg Wear.warm (hk .wear (by decide))
  have hsensors : (clearWarm s).sensors = s.sensors.warm s.settings.sensorMap :=
    congrArg₂ (fun n (c : Settings) => Sensors.warm n c.sensorMap) (hk .sensors (by decide))
      (hk .settings (by decide))
  unfold WarmKept
  rw [hrender, hbanks, htemps, hwear, hsensors]
  refine ⟨rfl, rfl, rfl, ?_, ?_, rfl, rfl, rfl, rfl, rfl, hk .gain (by decide), rfl, rfl,
    fun q hq => ?_, hv, hd, fun hn => ?_⟩
  · rw [List.map_map]
    rfl
  · rw [List.map_map]
    rfl
  · unfold State.tempRecord
    rw [hsensors]
    exact tempRecord_warm s.sensors hq
  · show (abandonGrant s).store.slots = _ ∧ (abandonGrant s).store.identity = _ ∧
      (abandonGrant s).store.drift = _
    rw [abandonGrant_of_noWrite hn]
    exact ⟨rfl, rfl, rfl⟩

/-- The clearing leaves the level of the pin, the straps and the causes. -/
theorem clearWarm_chip (s : State) :
    (clearWarm s).chip.pinLow = s.chip.pinLow ∧ (clearWarm s).chip.straps = s.chip.straps ∧
      (clearWarm s).chip.causes = s.chip.causes := by
  have h : (abandonGrant s).chip = s.chip := (abandonGrant_keeps s).chip_eq (by decide)
  rw [← h]
  exact ⟨rfl, rfl, rfl⟩

/-- R175: a cause joins the set. -/
theorem mem_addCause (c x : ResetCause) (s : State) :
    x ∈ (addCause c s).chip.causes ↔ x ∈ s.chip.causes ∨ x = c := by
  unfold addCause
  rw [setChip_chip]
  dsimp only
  split_ifs with h
  · rw [List.contains_iff_mem] at h
    exact ⟨.inl, fun hx => hx.elim id fun hx => hx ▸ h⟩
  · rw [List.mem_append, List.mem_singleton]

/-! ## The commands that bring a warm reset -/

/-- The part of the chip that every warm reset sets (R175). -/
structure ChipCleared (c : Chip) : Prop where
  config : c.config = .opened
  power : c.power = .run
  held : c.held = .none
  restWake : c.restWake = 0

/-- What is said of a clearing does not depend on the pin before it, nor on the phase, the straps
and the causes that the chip takes behind it. -/
theorem warm_of_chip (s : State) (c : Chip) {d : Chip} (hd : ChipCleared d) :
    WarmCleared s ((clearWarm (s.setChip c)).setChip d) ∧
      WarmKept s ((clearWarm (s.setChip c)).setChip d) := by
  obtain ⟨hs, ht, hc, ha, hb, hv, hu, -, -, -, -, hrest⟩ := warmCleared_clearWarm (s.setChip c)
  exact ⟨⟨hs, ht, hc, ha, hb, hv, hu, hd.config, hd.power, hd.held, hd.restWake, hrest⟩,
    warmKept_clearWarm (s.setChip c)⟩

/-- R175: the pin driven low clears a part with power and holds it (log 16). -/
theorem resetPinDrivenLow_clears {s : State} (hl : s.live = true) :
    Leads .resetPinDrivenLow s fun t =>
      WarmCleared s t ∧ WarmKept s t ∧ t.chip.phase = .held ∧ t.chip.pinLow = true ∧
        t.chip.straps = s.chip.straps ∧ t.chip.causes = s.chip.causes := by
  have he : exec .resetPinDrivenLow s = .next (setPhase .held (clearWarm (setPinLow true s))) :=
    congrArg Host.Outcome.next (if_pos hl)
  obtain ⟨hpin, hstraps, hcauses⟩ := clearWarm_chip (setPinLow true s)
  obtain ⟨hcleared, hkept⟩ := warm_of_chip s { s.chip with pinLow := true }
    (d := { (clearWarm (setPinLow true s)).chip with phase := .held })
    ⟨rfl, rfl, rfl, rfl⟩
  exact .intro he ⟨hcleared, hkept, rfl, hpin, hstraps, hcauses⟩

/-- R175: the release of the pin clears again, latches the straps and adds the cause PIN. -/
theorem resetPinRelease_clears (pins : StrapPins) {s : State} (hp : s.chip.phase = .held) :
    Leads (.resetPinRelease pins) s fun t =>
      WarmCleared s t ∧ WarmKept s t ∧ t.chip.phase = .checking ∧ t.chip.pinLow = false ∧
        t.chip.straps = pins ∧ ∀ c, c ∈ t.chip.causes ↔ c ∈ s.chip.causes ∨ c = .pin := by
  have he : exec (.resetPinRelease pins) s =
      .next (latchStraps pins (warmReset .pin (setPinLow false s))) := by
    simp only [exec, execResetPinRelease, setPinLow, setChip_chip, hp]
  obtain ⟨hpin, -, hcauses⟩ := clearWarm_chip (setPinLow false s)
  have hadd := fun c => mem_addCause .pin c (clearWarm (setPinLow false s))
  rw [hcauses] at hadd
  obtain ⟨hcleared, hkept⟩ := warm_of_chip s { s.chip with pinLow := false }
    (d := { (warmReset .pin (setPinLow false s)).chip with straps := pins })
    ⟨rfl, rfl, rfl, rfl⟩
  exact .intro he ⟨hcleared, hkept, rfl, hpin, rfl, hadd⟩

/-- R157, R175: a warm reset that is due adds its own cause, and no other is due behind it
(log 17). -/
theorem warmReset_clears {w : WarmCause} {s : State} (hw : w ∈ s.chip.resetDue)
    (hl : s.live = true) :
    Leads (.warmReset w) s fun t =>
      WarmCleared s t ∧ WarmKept s t ∧ t.chip.phase = .checking ∧
        t.chip.pinLow = s.chip.pinLow ∧ t.chip.straps = s.chip.straps ∧ t.chip.resetDue = [] ∧
        ∀ c, c ∈ t.chip.causes ↔ c ∈ s.chip.causes ∨ c = resetCauseOf w := by
  have he : exec (.warmReset w) s = .next (warmReset (resetCauseOf w) s) :=
    congrArg Host.Outcome.next (if_pos ⟨hl, hw⟩)
  obtain ⟨hpin, hstraps, hcauses⟩ := clearWarm_chip s
  have hadd := fun c => mem_addCause (resetCauseOf w) c (clearWarm s)
  rw [hcauses] at hadd
  obtain ⟨hcleared, hkept⟩ := warm_of_chip s s.chip
    (d := (warmReset (resetCauseOf w) s).chip)
    ⟨rfl, rfl, rfl, rfl⟩
  exact .intro he ⟨hcleared, hkept, rfl, hpin, hstraps, rfl, hadd⟩

/-- In no other phase does the pin's release end a reset. -/
theorem resetPinRelease_idle (pins : StrapPins) {s : State} (hh : s.chip.phase ≠ .held)
    (hu : s.chip.phase ≠ .poweringUp) :
    exec (.resetPinRelease pins) s = .next (s.setChip { s.chip with pinLow := false }) := by
  refine congrArg Host.Outcome.next ?_
  split
  · exact absurd ‹_› hu
  · exact absurd ‹_› hh
  all_goals rfl

/-- Settles O6: each of the three commands is the clearing `clearWarm` with its own chip. -/
theorem warmResetsClearAndKeep : Obligations.WarmResetsClearAndKeep := by
  refine fun s => ⟨resetPinDrivenLow_clears, fun hl => ?_, fun pins => resetPinRelease_clears pins,
    fun pins => resetPinRelease_idle pins, fun w => warmReset_clears⟩
  have hoff : ¬(setPinLow true s).live = true := Bool.eq_false_iff.mp hl
  exact congrArg Host.Outcome.next (if_neg hoff)

end Sys2Proof.Machine
end

section
/-! The millisecond step (R15, R20, R21, R23, R173): what the lanes carry, the latched sums over a
zone's pixels, and LOAD_SAMPLE. -/

namespace Sys2Proof.Machine

/-! ## What the lanes carry (R15) -/

/-- R15: dark-hold by power state and mode. -/
theorem darkHeld_iff (p : PowerState) (k : Bank) :
    darkHeld p k = true ↔
      p = .rest ∨ p = .restSample ∨ k.mode = .render ∧ (p = .dark ∨ p = .restingEntry) := by
  cases p <;> simp [darkHeld]

theorem bank_of_getElem {s : State} {b : Nat} {k : Bank} (h : s.driver.banks[b]? = some k) :
    s.bank b = k := by
  unfold State.bank
  rw [List.getD_eq_getElem?_getD, h, Option.getD_some]

/-- R15: what the lanes of the bank `k` carry, the first row of the table that holds. -/
theorem carries_eq {s : State} {b : Nat} {k : Bank} (h : s.driver.banks[b]? = some k) :
    s.carries b =
      if s.chip.config = .opened then .zero
      else if s.height / 8 ≤ b then .zero
      else if darkHeld s.chip.power k = true then
        if k.policy = .park then .zero else .nothing
      else if k.priming = .priming ∨ k.priming = .waiting then .zero
      else if k.mode = .direct then .latch
      else if s.authority.output = .blanked then .zero
      else .rows := by
  unfold State.carries
  rw [bank_of_getElem h]
  obtain ⟨mode, latch, policy, prime, timer⟩ := k
  cases policy <;> cases mode <;> rfl

/-- R15 for a pixel, by the bank that holds its row. -/
theorem laneCode_eq {s : State} {y : Nat} {k : Bank} (h : s.driver.banks[y / 8]? = some k)
    (x : Nat) :
    s.laneCode x y =
      if s.chip.config = .opened then ⟨0, 0, 0⟩
      else if s.height / 8 ≤ y / 8 then ⟨0, 0, 0⟩
      else if darkHeld s.chip.power k = true then ⟨0, 0, 0⟩
      else if k.priming = .priming ∨ k.priming = .waiting then ⟨0, 0, 0⟩
      else if k.mode = .direct then k.latch
      else if s.authority.output = .blanked then ⟨0, 0, 0⟩
      else ((Table.get [] s.driver.rows y)[x]?).getD ⟨0, 0, 0⟩ := by
  unfold State.laneCode bankOf
  rw [carries_eq h, bank_of_getElem h, List.getD_eq_getElem?_getD]
  split_ifs <;> rfl

/-- R15: the lanes carry nothing only where the bank is dark-held and floats. -/
theorem carries_nothing_iff {s : State} {b : Nat} {k : Bank} (h : s.driver.banks[b]? = some k) :
    s.carries b = .nothing ↔
      s.chip.config = .closed ∧ b < s.height / 8 ∧ darkHeld s.chip.power k = true ∧
        k.policy = .float := by
  have hclosed : s.chip.config = .closed ↔ ¬s.chip.config = .opened := by
    cases s.chip.config <;> decide
  have hfloat : k.policy = .float ↔ ¬k.policy = .park := by cases k.policy <;> decide
  rw [carries_eq h, hclosed, hfloat, ← Nat.not_le]
  split_ifs <;> simp_all

/-! ## Sums over pixels (R20) -/

theorem Rgb.get_add (t u : Rgb Nat) (e : Emitter) :
    Rgb.get (Rgb.add t u) e = Rgb.get t e + Rgb.get u e := Rgb.get_zip _ t u e

theorem Rgb.get_foldl_add (l : List (Rgb Nat)) (t : Rgb Nat) (e : Emitter) :
    Rgb.get (l.foldl Rgb.add t) e = Rgb.get t e + (l.map fun c => Rgb.get c e).sum := by
  induction l generalizing t with
  | nil => simp
  | cons c l ih =>
    rw [List.foldl_cons, ih, Rgb.get_add, List.map_cons, List.sum_cons, Nat.add_assoc]

/-- The sum of colour triples, emitter by emitter. -/
theorem Rgb.get_sum (l : List (Rgb Nat)) (e : Emitter) :
    Rgb.get (Rgb.sum l) e = (l.map fun c => Rgb.get c e).sum := by
  rw [Rgb.sum, Rgb.get_foldl_add, Rgb.get_zero, Nat.zero_add]

/-- Summing a stretch of a list is summing its entries by place, a missing one counting 0. -/
theorem sum_take_drop (l : List (Rgb Nat)) (e : Emitter) (n k : Nat) :
    (((l.drop n).take k).map fun c => Rgb.get c e).sum =
      ((List.range k).map fun i => Rgb.get (l.getD (n + i) Rgb.zero) e).sum := by
  induction k with
  | zero => simp
  | succ k ih =>
    rw [List.take_add_one, List.map_append, List.sum_append, ih, List.range_succ, List.map_append,
      List.sum_append, List.getElem?_drop, List.map_singleton,
      List.getD_eq_getElem?_getD (l := l) (i := n + k)]
    cases l[n + k]? <;> simp

/-- R20: a row's contribution is the sum of its pixels' lane codes. -/
theorem get_rowSum (s : State) (zx y : Nat) (e : Emitter) :
    Rgb.get (s.rowSum zx y) e =
      ((List.range (s.width / 4)).map fun i =>
        Rgb.get (s.laneCode (zx * (s.width / 4) + i) y) e).sum := by
  unfold State.rowSum State.laneCode
  cases s.carries (bankOf y) with
  | zero => simp
  | nothing => simp
  | latch => simp
  | rows =>
    dsimp only
    rw [Rgb.get_sum]
    exact sum_take_drop ..

/-- R20: the latched sum of a zone is the sum of the lane codes over its pixels. -/
theorem get_latchedSum (s : State) (z : Nat) (e : Emitter) :
    Rgb.get (s.latchedSum z) e =
      ((List.range (s.height / 4)).map fun j => ((List.range (s.width / 4)).map fun i =>
        Rgb.get (s.laneCode (z % 4 * (s.width / 4) + i) (z / 4 * (s.height / 4) + j)) e).sum).sum
      := by
  unfold State.latchedSum
  rw [Rgb.get_sum, List.map_map]
  exact congrArg List.sum (List.map_congr_left fun j _ => get_rowSum s _ _ e)

/-! ## The timers (R173) -/

theorem Authority.tick_output (a : Authority) : a.tick.output = a.output := by
  unfold Authority.tick
  split_ifs <;> rfl

theorem Wear.tick_state (w : Wear) : w.tick.state = w.state := by
  unfold Wear.tick
  split <;> rfl

theorem Bank.tick_eq (b : Bank) :
    b.tick = { b with timer := if b.priming = .priming then b.timer - 1 else b.timer } := by
  unfold Bank.tick
  split_ifs <;> rfl

theorem bank_stepTimers (s : State) (b : Nat) : (stepTimers s).bank b = (s.bank b).tick := by
  show (s.driver.banks.map Bank.tick).getD b Bank.reset = (s.driver.banks.getD b Bank.reset).tick
  rw [List.getD_eq_getElem?_getD, List.getD_eq_getElem?_getD, List.getElem?_map]
  cases s.driver.banks[b]? <;> rfl

/-- The timers move nothing that the lanes carry. -/
theorem carries_stepTimers (s : State) (b : Nat) : (stepTimers s).carries b = s.carries b := by
  have ha : (stepTimers s).authority.output = s.authority.output := s.authority.tick_output
  have hh : (stepTimers s).height = s.height := rfl
  have hc : (stepTimers s).chip = s.chip := rfl
  unfold State.carries
  rw [bank_stepTimers, Bank.tick_eq, ha, hh, hc]
  rfl

theorem latchedSum_stepTimers (s : State) (z : Nat) :
    (stepTimers s).latchedSum z = s.latchedSum z := by
  have hrow : ∀ zx y, (stepTimers s).rowSum zx y = s.rowSum zx y := by
    intro zx y
    unfold State.rowSum
    rw [carries_stepTimers, bank_stepTimers, Bank.tick_latch]
    rfl
  unfold State.latchedSum
  exact congrArg Rgb.sum (List.map_congr_left fun i _ => hrow _ _)

/-- R23: nor the drive of the pilot emitters at the tick. -/
theorem pilotDriveAtTick_stepTimers (s : State) (sums : List (Rgb Nat)) :
    (stepTimers s).pilotDriveAtTick sums = s.pilotDriveAtTick sums := by
  have hc : (stepTimers s).chip = s.chip := rfl
  have hp : (stepTimers s).pixels = s.pixels := rfl
  have hw : (stepTimers s).wear.state = s.wear.state := s.wear.tick_state
  unfold State.pilotDriveAtTick
  rw [hc, hw, hp]

/-- While the timebase runs the part does not rest. -/
theorem resting_of_timebaseRuns {s : State} (h : s.timebaseRuns = true) :
    s.chip.power.resting = false := by
  simp only [State.timebaseRuns, Bool.and_eq_true, Bool.not_eq_true'] at h
  exact h.2

theorem loadSample_load (s : State) : (loadSample s).driver.load =
    List.zipWith (Rgb.zip (satAdd maxLoad)) s.driver.load ((List.range 16).map s.latchedSum) := rfl

theorem loadSample_pilotDrive (s : State) : (loadSample s).driver.pilotDrive =
    s.pilotDriveAtTick ((List.range 16).map s.latchedSum) := rfl

theorem link_stepTimers (s : State) (l : Link) : (stepTimers s).link l = (s.link l).tick := by
  cases l <;> rfl

/-- R173, R21: the millisecond step. -/
theorem loadSample_steps {s : State} (h : s.timebaseRuns = true) :
    exec .loadSample s = .next (loadSample (stepTimers s)) :=
  congrArg Host.Outcome.next (if_pos h)

/-- Settles O8: the timers move nothing that the sample reads (`latchedSum_stepTimers`), the sums
are taken pixel by pixel, and the lanes follow R15's table. -/
theorem millisecondStep : Obligations.MillisecondStep := by
  refine ⟨fun s h => ?_, fun z e s => get_latchedSum s z e, fun x y k s hk => ?_⟩
  · have hsums : (List.range 16).map (stepTimers s).latchedSum =
        (List.range 16).map s.latchedSum :=
      List.map_congr_left fun z _ => latchedSum_stepTimers s z
    refine .intro (loadSample_steps h) ⟨rfl, ?_, ?_, rfl, rfl, rfl, rfl, rfl, link_stepTimers s,
      rfl, loadSample_keeps (stepTimers_keeps (KeepsBut.refl _ s) (by simp)) (by simp)⟩
    · rw [loadSample_load, hsums]
      rfl
    · rw [loadSample_pilotDrive, hsums, pilotDriveAtTick_stepTimers]
      simp only [State.pilotDriveAtTick, resting_of_timebaseRuns h, Bool.false_eq_true, or_false]
      cases s.wear.state <;> rfl
  · simp only [← darkHeld_iff]
    exact ⟨laneCode_eq hk x, carries_nothing_iff hk⟩

end Sys2Proof.Machine
end

section
/-! A ROW on a READY link (R163, R136, R4 to R8, R19): the checks of the port, the admission, and
the codes of each pixel. -/

namespace Sys2Proof.Machine

/-! ## The pixels of a row's body -/

/-- A stretch of the bytes between the row's index and its check is a stretch of the body. -/
theorem getU16_covered (body : List Byte) {off : Nat} (h : off + 6 ≤ body.length) :
    getU16 off ((body.take (body.length - 2)).drop 2) = getU16 (2 + off) body := by
  unfold getU16 slice
  rw [List.drop_drop, List.drop_take, List.take_take]
  congr 2
  omega

/-- Bytes that hold no six more are fewer than six. -/
theorem length_lt_six : ∀ {bs : List Byte},
    (∀ a b c d e f rest, bs = a :: b :: c :: d :: e :: f :: rest → False) → bs.length < 6
  | [], _ | [_], _ | [_, _], _ | [_, _, _], _ | [_, _, _, _], _ | [_, _, _, _, _], _ => by
    simp only [List.length_cons, List.length_nil]
    omega
  | a :: b :: c :: d :: e :: f :: rest, h => (h a b c d e f rest rfl).elim

theorem length_rowPixels (bs : List Byte) : (rowPixels bs).length = bs.length / 6 := by
  induction bs using rowPixels.induct with
  | case1 a b c d e f rest ih =>
    rw [rowPixels, List.length_cons, ih]
    simp only [List.length_cons]
    omega
  | case2 bs hbs =>
    rw [rowPixels.eq_2 bs hbs, Nat.div_eq_of_lt (length_lt_six hbs)]
    rfl

/-- A row's pixel is the triple of u16 at its place. -/
theorem getElem?_rowPixels (bs : List Byte) (x : Nat) (h : 6 * x + 6 ≤ bs.length) :
    (rowPixels bs)[x]? =
      some ⟨getU16 (6 * x) bs, getU16 (6 * x + 2) bs, getU16 (6 * x + 4) bs⟩ := by
  induction bs using rowPixels.induct generalizing x with
  | case1 a b c d e f rest ih =>
    cases x with
    | zero => rfl
    | succ x =>
      rw [rowPixels, List.getElem?_cons_succ, ih x (by simp only [List.length_cons] at h; omega)]
      rfl
  | case2 bs hbs =>
    have hl := length_lt_six hbs
    omega

/-- The input of pixel x of a ROW's body (chapter 13): three u16 behind the row's index. -/
def rowInput (body : List Byte) (x : Nat) : Rgb Nat :=
  ⟨getU16 (2 + 6 * x) body, getU16 (2 + 6 * x + 2) body, getU16 (2 + 6 * x + 4) body⟩

theorem length_rowPixels_body {body : List Byte} {w : Nat} (h : body.length = 4 + 6 * w) :
    (rowPixels ((body.take (body.length - 2)).drop 2)).length = w := by
  rw [length_rowPixels, List.length_drop, List.length_take]
  omega

theorem getElem?_rowPixels_body {body : List Byte} {w x : Nat} (h : body.length = 4 + 6 * w)
    (hx : x < w) :
    (rowPixels ((body.take (body.length - 2)).drop 2))[x]? = some (rowInput body x) := by
  have hl : ((body.take (body.length - 2)).drop 2).length = 6 * w := by
    rw [List.length_drop, List.length_take]
    omega
  rw [getElem?_rowPixels _ x (by omega), getU16_covered body (by omega),
    getU16_covered body (by omega), getU16_covered body (by omega)]
  rfl

/-! ## One pixel (R5 to R8) -/

/-- R7: a pixel is limited where its largest drive lies above 65535, and then drawn down to it. -/
theorem limitPixel_eq (d : Rgb Nat) :
    let top := max d.r (max d.g d.b)
    limitPixel d =
      (Rgb.map (fun v => if top ≤ 65535 then v else v * 65535 / top) d, decide (65535 < top)) := by
  unfold limitPixel
  dsimp only
  split_ifs with h
  · rw [decide_eq_false (Nat.not_lt.mpr h)]
    rfl
  · rw [decide_eq_true (Nat.not_le.mp h)]

/-- R8: a zone that is not built carries 0, and none of its pixels counts as limited. -/
theorem renderPixel_of_unbuilt {s : State} {x y : Nat}
    (h : (s.render.zones.getD (s.zoneOf x y) ⟨false, 0, 0, 0⟩).built = false) (p : Rgb Nat) :
    s.renderPixel x y p = (⟨0, 0, 0⟩, false) := by
  unfold State.renderPixel
  dsimp only
  rw [h]
  rfl

/-- R5, R6: the drives of a pixel before the limiter. -/
def State.drives (s : State) (x y : Nat) (p : Rgb Nat) : Rgb Nat :=
  let m := Table.get zeroMatrix s.render.table (y * s.width + x)
  Rgb.zip applyFactor ⟨productDrive m.r0 p, productDrive m.r1 p, productDrive m.r2 p⟩
    (s.render.applied.getD (s.zoneOf x y) Rgb.zero)

theorem renderPixel_of_built {s : State} {x y : Nat}
    (h : (s.render.zones.getD (s.zoneOf x y) ⟨false, 0, 0, 0⟩).built = true) (p : Rgb Nat) :
    s.renderPixel x y p = limitPixel (s.drives x y p) := by
  unfold State.renderPixel
  dsimp only
  rw [h]
  rfl

/-! ## The row computed (R4, R9, R19) -/

/-- Counting the entries of a list by a test of their places. -/
theorem length_filter_zipIdx {α : Type} (l : List α) (p : α × Nat → Bool) (q : Nat → Bool)
    (h : ∀ (i : Nat) (a : α), l[i]? = some a → p (a, i) = q i) :
    (l.zipIdx.filter p).length = ((List.range l.length).filter q).length := by
  have hq : l.zipIdx.filter p = l.zipIdx.filter (q ∘ Prod.snd) :=
    List.filter_congr fun e he => h e.2 e.1 (List.mem_zipIdx_iff_getElem?.mp he)
  have hr : List.range l.length = l.zipIdx.map Prod.snd := by
    rw [List.zipIdx_map_snd, List.range_eq_range']
  rw [hq, hr, List.filter_map, List.length_map]

section ComputeRow

variable {s : State} {y w : Nat} {pixels : List (Rgb Nat)} {input : Nat → Rgb Nat}

/-- The codes of the row delivered. -/
theorem getElem?_computeRow (hw : pixels.length = w) (hpos : 0 < w)
    (hp : ∀ x < w, pixels[x]? = some (input x)) :
    (Table.get [] (computeRow y pixels s).driver.rows y).length = w ∧
      ∀ x < w, (Table.get [] (computeRow y pixels s).driver.rows y)[x]? =
        some (s.renderPixel x y (input x)).1 := by
  have hrow : Table.get [] (computeRow y pixels s).driver.rows y =
      (pixels.zipIdx.map fun e => s.renderPixel e.2 y e.1).map Prod.fst := by
    refine Table.get_put_of_ne [] _ y (List.ne_nil_of_length_pos ?_)
    rw [List.length_map, List.length_map, List.length_zipIdx, hw]
    exact hpos
  rw [hrow]
  refine ⟨by rw [List.length_map, List.length_map, List.length_zipIdx, hw], fun x hx => ?_⟩
  rw [List.getElem?_map, List.getElem?_map, List.getElem?_zipIdx, hp x hx]
  simp

/-- The limited count of a zone rises by its limited pixels. -/
theorem limited_computeRow (hw : pixels.length = w) (hp : ∀ x < w, pixels[x]? = some (input x))
    {z k : Nat} (hk : s.render.limited[z]? = some k) :
    (computeRow y pixels s).render.limited[z]? = some (min 4294967295 (k +
      ((List.range w).filter fun x =>
        (s.renderPixel x y (input x)).2 && s.zoneOf x y == z).length)) := by
  have hcount := length_filter_zipIdx (pixels.zipIdx.map fun e => s.renderPixel e.2 y e.1)
    (fun e => e.1.2 && s.zoneOf e.2 y == z)
    (fun x => (s.renderPixel x y (input x)).2 && s.zoneOf x y == z) (fun x a ha => by
      have hx : x < w := by
        have := (List.getElem?_eq_some_iff.mp ha).1
        rwa [List.length_map, List.length_zipIdx, hw] at this
      rw [List.getElem?_map, List.getElem?_zipIdx, hp x hx] at ha
      simp only [Option.map_some, Option.some.injEq, Nat.zero_add] at ha
      rw [← ha])
  rw [List.length_map, List.length_zipIdx, hw] at hcount
  rw [← hcount]
  show (s.render.limited.zipIdx.map _)[z]? = _
  rw [List.getElem?_map, List.getElem?_zipIdx, hk]
  simp only [Option.map_some, Nat.zero_add]
  rfl

end ComputeRow

/-! ## The checks of the port and the admission -/

theorem setLink_keepsBut (l : Link) (v : LinkPort) (s : State) :
    KeepsBut [linkPart l] s (s.setLink l v) := by
  intro p hp
  cases l <;> cases p <;> first | rfl | exact absurd rfl (List.ne_of_not_mem_cons hp)

/-- A ROW whose link check passes, on a READY link, goes through the checks of R163. -/
theorem exec_row {l : Link} {u : LinkUnit} {s : State} (hl : s.live = true)
    (hr : (s.link l).state = .ready) (hc : linkCheckPasses 0x02 u = true)
    (h4 : 4 ≤ u.body.length) : exec (.row l u) s = .next (passRow l u.body s) := by
  show Host.Outcome.next (receive l 0x02 u s) = _
  unfold receive takeReady
  rw [hl, hr, hc]
  simp [Nat.not_lt.mpr h4]

/-- Only the port's counts change. -/
theorem leads_counted {c : Instr} {l : Link} {s : State} (f : LinkCounts → LinkCounts)
    (h : exec c s = .next (setCounts l f s)) :
    Leads c s fun t =>
      t.link l = { s.link l with counts := f (s.link l).counts } ∧ KeepsBut [linkPart l] s t :=
  .intro h ⟨setLink_link_same s l _, setLink_keepsBut l _ s⟩

/-- A ROW that passes the checks goes to the authority unit. -/
theorem passRow_of_checks {l : Link} {body : List Byte} {s : State}
    (hcrc : crc16 (body.take (body.length - 2)) = getCrc (body.length - 2) body)
    (hy : getU16 0 body < s.height) (hn : body.length = 4 + 6 * s.width) :
    passRow l body s =
      takeRow l (getU16 0 body) (rowPixels ((body.take (body.length - 2)).drop 2)) s := by
  unfold passRow
  dsimp only
  rw [if_neg (not_not_intro hcrc), if_neg (Nat.not_le.mpr hy), if_neg (not_not_intro hn)]

/-- R3: a part in RUN with the output RENDERING renders where its configuration is CLOSED. -/
theorem isRendering_iff {s : State} (ho : s.authority.output = .rendering)
    (hp : s.chip.power = .run) : s.isRendering = true ↔ s.chip.config = .closed := by
  simp [State.isRendering, ho, hp]

/-- During start-up a ROW is discarded without count (R132). -/
theorem takeRow_of_startUp {s : State} (hs : s.started = false) (l : Link) (y : Nat)
    (pixels : List (Rgb Nat)) : takeRow l y pixels s = s := by
  simp [takeRow, hs]

/-- R136: from another link, in another output or power state, a ROW is discarded and counted. -/
theorem takeRow_of_refused {l : Link} {s : State} (hs : s.started = true)
    (ha : ¬(s.authority.holder = some l ∧ s.authority.output = .rendering ∧ s.chip.power = .run))
    (y : Nat) (pixels : List (Rgb Nat)) : takeRow l y pixels s =
      s.setLink l { s.link l with rowsDiscarded := inc32 (s.link l).rowsDiscarded } := by
  simp only [takeRow, hs, if_true, if_neg ha]

/-- R4: an admitted ROW is computed where the part is CLOSED and its bank RENDER and ACTIVE. -/
theorem takeRow_of_admitted {l : Link} {s : State} (hs : s.started = true)
    (ha : s.authority.holder = some l ∧ s.authority.output = .rendering ∧ s.chip.power = .run)
    (y : Nat) (pixels : List (Rgb Nat)) : takeRow l y pixels s =
      if s.chip.config = .closed ∧ (s.bank (y / 8)).mode = .render ∧
          (s.bank (y / 8)).priming = .active then computeRow y pixels s
      else s := by
  simp only [takeRow, renderRow, bankOf, hs, if_true, if_pos ha, isRendering_iff ha.2.1 ha.2.2]

/-- Settles O18: the checks in their order, then the admission, then each pixel's code by
`renderPixel_of_built` and `limitPixel_eq`. -/
theorem rowActs : Obligations.RowActs := by
  intro l u s hl hr hc h4 n y counted c
  have he := exec_row hl hr hc h4
  split_ifs with hcrc hy hn hs ha hact
  · exact leads_counted _ (he.trans (congrArg _ (if_pos hcrc)))
  · exact leads_counted _ (he.trans (congrArg _ ((if_neg hcrc).trans (if_pos hy))))
  · exact leads_counted _
      (he.trans (congrArg _ ((if_neg hcrc).trans ((if_neg hy).trans (if_pos hn)))))
  all_goals rw [passRow_of_checks (not_not.mp hcrc) (Nat.not_le.mp hy) (not_not.mp hn)] at he
  · rw [takeRow_of_startUp hs] at he
    exact .intro he (KeepsBut.refl _ s)
  · rw [takeRow_of_admitted (Bool.not_eq_false _ ▸ hs) ha, if_pos hact] at he
    intro zone built input matrix acc scaled driven top code limited
    have hlen := length_rowPixels_body (not_not.mp hn)
    have hin := fun x (hx : x < s.width) => getElem?_rowPixels_body (not_not.mp hn) hx
    have hwidth : 0 < s.width := by
      unfold State.width
      omega
    obtain ⟨hrowlen, hcodes⟩ := getElem?_computeRow (s := s) (y := y) hlen hwidth hin
    have hpixel : ∀ x, s.renderPixel x y (rowInput u.body x) =
        (⟨code x .r, code x .g, code x .b⟩, limited x) := by
      intro x
      cases hb : built x with
      | false =>
        rw [renderPixel_of_unbuilt hb]
        simp only [code, limited, hb, if_true, Bool.false_and]
      | true =>
        rw [renderPixel_of_built hb, limitPixel_eq]
        simp only [code, limited, hb, Bool.true_eq_false, if_false, Bool.true_and]
        rfl
    refine .intro he ⟨hrowlen, fun x hx => ?_, fun y' hy' => Table.get_put_other [] _ hy' _,
      fun z k hk => ?_, rfl, rfl, computeRow_keeps y _ (KeepsBut.refl _ s) (by simp)⟩
    · rw [hcodes x hx, hpixel]
    · refine (limited_computeRow (y := y) hlen hin hk).trans ?_
      simp only [hpixel]
      rfl
  · rw [takeRow_of_admitted (Bool.not_eq_false _ ▸ hs) ha, if_neg hact] at he
    exact .intro he (KeepsBut.refl _ s)
  · rw [takeRow_of_refused (Bool.not_eq_false _ ▸ hs) ha] at he
    exact .intro he ⟨setLink_link_same s l _, setLink_keepsBut l _ s⟩

end Sys2Proof.Machine
end

section
/-! The part after a POWER reset (R2 to R177): its values, and the end of the store's checks, which
fills the build set and opens the START round. -/

namespace Sys2Proof.Machine

/-! ## Settling where the composer takes no decision -/

/-- Where the composer is busy and nothing waits to move into force, settling is a matter of the
banks and the arbiter. -/
theorem settle_of_busy {s : State} (hb : Busy s)
    (hf : s.isRendering = true ∨
      (∀ z, s.composer.staging ≠ .staged z) ∧ s.render.pendingGain = none) :
    settle s = settleStore (settleBanks s) := by
  have hd : takeDeferred (settleBanks s) = settleBanks s := takeDeferred_of_none hb.1
  have hr : settleRender (settleBanks s) = settleBanks s := settleRender_of_nothing hf
  have hc : settleComposer (settleBanks s) = settleBanks s :=
    settleComposer_of_busy (hb.congr rfl rfl rfl)
  rw [settle, hd, hr, settleWork, hc]

/-! ## Requests placed on an idle bus (R122, R123) -/

/-- A request that equals none in the queue joins its tail. -/
theorem placeSensor_of_new {r : SensorRequest} {s : State} (u : SensorUser)
    (hi : s.sensors.inFlight = none) (hn : ∀ e ∈ s.sensors.queue, e.request ≠ r) :
    placeSensor r u s = setSensorQueue (s.sensors.queue ++ [⟨r, [u]⟩]) s := by
  have ha : (s.sensors.queue.any fun e => e.request == r) = false := by
    rw [List.any_eq_false]
    exact fun e he => by simpa using hn e he
  unfold placeSensor
  simp only [hi, ha, Bool.false_eq_true, if_false]

/-- The requests of a round join the queue in their order. -/
theorem placeTemps_eq (qs : List Nat) {s : State} (hi : s.sensors.inFlight = none)
    (hn : (s.sensors.queue.map QueuedRequest.request ++ qs.map SensorRequest.temp).Nodup) :
    qs.foldl (fun s q => placeSensor (.temp q) .thermal s) s =
      setSensorQueue (s.sensors.queue ++ qs.map fun q => ⟨.temp q, [.thermal]⟩) s := by
  induction qs generalizing s with
  | nil =>
    rw [List.map_nil, List.append_nil]
    rfl
  | cons q qs ih =>
    have hnew : ∀ e ∈ s.sensors.queue, e.request ≠ .temp q := fun e he heq =>
      (List.nodup_append.mp hn).2.2 _ (List.mem_map_of_mem he) _ List.mem_cons_self heq
    rw [List.foldl_cons, placeSensor_of_new .thermal hi hnew, ih (by exact hi) (by
      simpa [setSensorQueue] using hn)]
    simp only [setSensorQueue, setSensors_sensors, List.append_assoc, List.map_cons]
    rfl

/-- A round that opens with sensors present places their requests (R60). -/
theorem joinRound_of_idle (m : RoundMark) {s : State} (hr : s.thermal.round = none)
    (hb : BusIdle s) (hp : s.present ≠ []) :
    joinRound m s =
      setSensorQueue (s.present.map fun q => ⟨.temp q, [.thermal]⟩)
        (setRound (some (Round.add m ⟨s.present, false, false, false⟩)) s) := by
  obtain ⟨hq, hi⟩ := hb
  have hnodup : s.present.Nodup := List.nodup_range.filter _
  have hqueue : ∀ r, (setRound r s).sensors.queue = [] := fun _ => hq
  unfold joinRound openRound
  rw [hr]
  simp only [List.isEmpty_iff, if_neg hp]
  rw [placeTemps_eq s.present (by exact hi) (by
    rw [hqueue, List.map_nil, List.nil_append]
    exact hnodup.map fun a b h => by simpa using h), hqueue, List.nil_append]

/-- R123: the oldest entry starts where its sensor is not ABSENT. -/
theorem startNext_of_present {s : State} {e : QueuedRequest} {rest : List QueuedRequest}
    (hi : s.sensors.inFlight = none) (hq : s.sensors.queue = e :: rest)
    (ha : s.absentFor e.request = false) :
    startNext s = s.setSensors
      { s.sensors with
        queue := rest, tag := (s.sensors.tag + 1) % 16
        inFlight := some ⟨e.request, e.requesters, s.sensors.tag, 5⟩ } := by
  unfold startNext
  rw [hq, List.length_cons, startTransactions]
  simp only [hi, hq, ha, Bool.false_eq_true, if_false]

/-! ## The end of the store's checks (R52, R177) -/

theorem runChecks_keeps (f : StoreFindings) (s : State) :
    KeepsBut [.store, .wear, .render] s (runChecks f s) := by
  have hk : KeepsBut [.store, .wear, .render] s (loadIdentity (applyFindings f s)) :=
    loadIdentity_keeps (setStore_keeps _ (KeepsBut.refl _ s) (by decide)) (by simp)
  unfold runChecks
  dsimp only
  split_ifs
  · exact checkBlocks_keeps (setRender_keeps _ (loadDrift_keeps hk (by simp)) (by decide)) (by simp)
  · exact checkBlocks_keeps hk (by simp)

/-- The state that the checks leave, before the START round opens: the port free, the build set
full. -/
def checkedState (f : StoreFindings) (s : State) : State :=
  setPhase .polling (setPort .free (joinAll (runChecks f s)))

theorem exec_startupChecksDone (f : StoreFindings) {s : State} (h : s.chip.phase = .checking) :
    exec (.startupChecksDone f) s = .next (conclude [] (checkedState f s)
      (settle (startNext (joinRound .start (checkedState f s))))) :=
  congrArg Host.Outcome.next (if_pos h)

theorem checkedState_keeps (f : StoreFindings) (s : State) :
    KeepsBut [.store, .wear, .render, .composer, .chip] s (checkedState f s) :=
  setChip_keeps _ (setPort_keeps _ (joinAll_keeps
    ((runChecks_keeps f s).mono (by simp)) (by simp)) (by simp)) (by decide)

/-- The checks leave no pending gain set where there was none. -/
theorem checkedState_pendingGain (f : StoreFindings) (s : State) :
    (checkedState f s).render.pendingGain = s.render.pendingGain := by
  unfold checkedState runChecks
  dsimp only
  split_ifs <;> rfl

theorem checkedState_composer (f : StoreFindings) (s : State) :
    (checkedState f s).composer =
      { s.composer with buildSet := (List.range 16).filter fun z =>
          (List.range 16).contains z || s.composer.buildSet.contains z } := by
  have hc : (runChecks f s).composer = s.composer := runChecks_keeps f s .composer (by decide)
  rw [← hc]
  rfl

/-- A sensor in the map is not ABSENT (R127). -/
theorem absentFor_of_mem {s : State} {q : Nat} (h : q ∈ s.settings.sensorMap) :
    s.absentFor (.temp q) = false := by
  have hh : s.tempHealth q ≠ .absent := by
    unfold State.tempHealth healthOfMisses
    split_ifs <;> decide
  exact beq_eq_false_iff_ne.mpr hh

/-- A round that opens on an idle bus stands in the estimator, and its opening moves nothing but
the estimator's round and the sensor bus (R60, R123). -/
theorem openedRound_frame (m : RoundMark) {u : State} (hr : u.thermal.round = none)
    (hb : BusIdle u) (hp : u.present ≠ []) :
    KeepsBut [.sensors, .thermal] u (startNext (joinRound m u)) ∧
      (startNext (joinRound m u)).thermal =
        { u.thermal with round := some (Round.add m ⟨u.present, false, false, false⟩) } := by
  obtain ⟨q, rest, hq⟩ := List.exists_cons_of_ne_nil hp
  have hmem : q ∈ u.settings.sensorMap := by
    have hm : q ∈ u.present := hq ▸ List.mem_cons_self
    simpa using (List.mem_filter.mp hm).2
  have hj := joinRound_of_idle m hr hb hp
  have hk : KeepsBut [.sensors, .thermal] u (joinRound m u) := by
    rw [hj]
    exact setSensorQueue_keeps _ (setRound_keeps _ (KeepsBut.refl _ u) (by simp)) (by simp)
  have hn := startNext_of_present (s := joinRound m u) (e := ⟨.temp q, [.thermal]⟩)
    (rest := rest.map fun q => ⟨.temp q, [.thermal]⟩) (by rw [hj]; exact hb.2)
    (by rw [hj, hq]; rfl) (absentFor_of_mem (by rw [hk .settings (by decide)]; exact hmem))
  rw [hn]
  refine ⟨setSensors_keeps _ hk (by decide), ?_⟩
  rw [setSensors_thermal, hj]
  rfl

/-- During start-up, with nothing staged and no gain set waiting, settling moves the banks and the
arbiter alone. -/
theorem settle_of_startUp {s : State} (hs : s.started = false)
    (hd : s.composer.deferred = none) (hz : ∀ z, s.composer.staging ≠ .staged z)
    (hg : s.render.pendingGain = none) : KeepsBut [.store, .driver] s (settle s) := by
  have hbusy : Busy s := ⟨hd, .inl (by simp [State.composerStopped, hs])⟩
  rw [settle_of_busy hbusy (.inr ⟨hz, hg⟩)]
  exact settleStore_keeps (settleBanks_keeps (KeepsBut.refl _ s) (by simp)) (by simp)

/-- R52, R177: the end of the checks fills the build set and opens the START round, whatever the
checks find. -/
theorem startupChecksDone_opens (f : StoreFindings) {s : State} (hp : s.chip.phase = .checking)
    (hc : s.composer = Composer.reset) (hr : s.thermal.round = none) (hb : BusIdle s)
    (hm : s.present ≠ []) (hg : s.render.pendingGain = none) :
    Leads (.startupChecksDone f) s fun t =>
      t.composer = { Composer.reset with buildSet := List.range 16 } ∧
        t.thermal = { s.thermal with round := some ⟨s.present, false, false, true⟩ } := by
  have hk := checkedState_keeps f s
  have hcomposer : (checkedState f s).composer = _ := checkedState_composer f s
  rw [hc] at hcomposer
  have hthermal : (checkedState f s).thermal = s.thermal := hk .thermal (by decide)
  have hsensors : (checkedState f s).sensors = s.sensors := hk .sensors (by decide)
  have hpresent : (checkedState f s).present = s.present := by
    unfold State.present
    rw [hk .settings (by decide)]
  obtain ⟨ho, hround⟩ := openedRound_frame .start (u := checkedState f s) (hthermal ▸ hr)
    (by unfold BusIdle; rw [hsensors]; exact hb) (hpresent ▸ hm)
  rw [hthermal, hpresent] at hround
  have hoc := (ho .composer (by decide)).trans hcomposer
  have hset := settle_of_startUp (s := startNext (joinRound .start (checkedState f s)))
    (by unfold State.started; rw [ho .chip (by decide)]; rfl) (by rw [hoc]; rfl)
    (by rw [hoc]; exact fun _ h => nomatch h)
    (by rw [ho .render (by decide), checkedState_pendingGain]; exact hg)
  have hend := conclude_keeps (ps := [.store, .driver, .linkA, .linkB, .authority, .render]) []
    (checkedState f s) (hset.mono (by simp)) (by simp)
  refine .intro (exec_startupChecksDone f hp) ⟨?_, (hend .thermal (by decide)).trans hround⟩
  exact ((hend .composer (by decide)).trans hoc).trans rfl

/-- Settles O3: the values stand in `State.reset`; the last part is `startupChecksDone_opens`. -/
theorem powerResetValues : Obligations.PowerResetValues := by
  refine ⟨⟨rfl, rfl, rfl, rfl, fun _ => rfl⟩,
    ⟨rfl, rfl, rfl, rfl, rfl, rfl, fun x y => laneCode_of_open x y rfl⟩,
    by and_intros <;> rfl, by and_intros <;> rfl, by and_intros <;> rfl, by and_intros <;> rfl,
    by and_intros <;> rfl, by and_intros <;> rfl, by and_intros <;> rfl, fun l => ?_,
    by and_intros <;> rfl, by and_intros <;> rfl, fun f => ?_⟩
  · cases l <;> and_intros <;> rfl
  · obtain ⟨t, he, hc, ht⟩ := startupChecksDone_opens f (s := State.reset) rfl rfl rfl ⟨rfl, rfl⟩
      (by decide) rfl
    refine .intro he ⟨?_, ?_⟩
    · rw [hc]
      rfl
    · rw [ht]
      rfl

end Sys2Proof.Machine
end

section
/-! The law of the PROGRAMMING blocks (R47, R52, R54): the scan alone makes a block PROGRAMMING,
with its grant; a grant's end and a reset take the state away with it; the start-up checks, which
hold the port, leave none. -/

namespace Sys2Proof.Machine

/-! ## The block states -/

theorem blockState_setBlockState_of_ne {i j : Nat} (hj : j ≠ i) (b : BlockState) (s : State) :
    (setBlockState i b s).blockState j = s.blockState j := by
  simp only [State.blockState, setBlockState, setStore_store, List.getD_eq_getElem?_getD,
    getElem?_setAt_other _ hj]

theorem blockState_setBlockState_same {i : Nat} {s : State}
    (hi : i < s.store.blockStates.length) (b : BlockState) :
    (setBlockState i b s).blockState i = b := by
  simp only [State.blockState, setBlockState, setStore_store, List.getD_eq_getElem?_getD,
    getElem?_setAt_same, List.getElem?_eq_getElem hi, Option.map_some, Option.getD_some]

/-- A block takes no state but the one set; an index beyond the list reads BLANK. -/
theorem blockState_setBlockState_ne_programming (i : Nat) {b : BlockState} (hb : b ≠ .programming)
    (s : State) : (setBlockState i b s).blockState i ≠ .programming := by
  simp only [State.blockState, setBlockState, setStore_store, List.getD_eq_getElem?_getD,
    getElem?_setAt_same]
  cases s.store.blockStates[i]? with
  | none => exact BlockState.noConfusion
  | some _ => exact hb

/-- No check of a content finds a block PROGRAMMING (R40). -/
theorem checkBlock_ne_programming (c : Stored) : checkBlock c ≠ .programming := by
  unfold checkBlock
  split_ifs <;> exact BlockState.noConfusion

/-! ## The law and the parts it speaks of -/

section ProgrammingLaw

variable {s t : State}

theorem ProgrammingLaw.congr (h : ProgrammingLaw s)
    (hb : t.store.blockStates = s.store.blockStates) (hp : t.store.port = s.store.port)
    (hc : t.chip.phase = .checking → s.chip.phase = .checking) : ProgrammingLaw t := by
  unfold ProgrammingLaw State.blockState
  rw [hb, hp]
  exact ⟨h.1, fun ht => h.2 (hc ht)⟩

/-- The law speaks of the store and of the phase alone. -/
theorem ProgrammingLaw.frame {ps : List Part} (h : ProgrammingLaw s) (k : KeepsBut ps s t)
    (hp : .store ∉ ps ∧ .chip ∉ ps := by decide) : ProgrammingLaw t := by
  have hs : t.store = s.store := k .store hp.1
  exact h.congr (by rw [hs]) (by rw [hs]) (by rw [k.chip_eq hp.2]; exact id)

theorem ProgrammingLaw.ite (p : Prop) [Decidable p] (hs : ProgrammingLaw s)
    (ht : ProgrammingLaw t) : ProgrammingLaw (if p then s else t) := by
  split_ifs
  · exact hs
  · exact ht

/-- Without a program grant no block is PROGRAMMING. -/
theorem ProgrammingLaw.none_programming (h : ProgrammingLaw s)
    (hp : ∀ who p, s.store.port ≠ .granted (.program who p)) (i : Nat) :
    s.blockState i ≠ .programming := fun hi =>
  have ⟨who, p, hg, _⟩ := h.1 i hi
  hp who p hg

/-- The checks hold the port as start-up's. -/
theorem ProgrammingLaw.not_checking (h : ProgrammingLaw s) (hp : s.store.port ≠ .startUp) :
    s.chip.phase ≠ .checking := fun hc => hp (h.2 hc)

/-- Where no block is PROGRAMMING the law asks only for the checks' hold of the port. -/
theorem ProgrammingLaw.of_none (hb : ∀ i, s.blockState i ≠ .programming)
    (hc : s.chip.phase = .checking → s.store.port = .startUp) : ProgrammingLaw s :=
  ⟨fun i hi => absurd hi (hb i), hc⟩

/-- A block loses a state, whatever it was. -/
theorem setBlockState_programmingLaw (i : Nat) {b : BlockState} (hb : b ≠ .programming)
    (h : ProgrammingLaw s) : ProgrammingLaw (setBlockState i b s) := by
  refine ⟨fun j hj => ?_, h.2⟩
  by_cases hji : j = i
  · subst hji
    exact absurd hj (blockState_setBlockState_ne_programming j hb s)
  · exact h.1 j (blockState_setBlockState_of_ne hji b s ▸ hj)

/-! ## Grants (R47, R54, R55) -/

theorem beginProgram_programmingLaw (who : Requester) (p : BlockProgram)
    (hb : ∀ i, s.blockState i ≠ .programming) (hc : s.chip.phase ≠ .checking) :
    ProgrammingLaw (beginProgram who p s) := by
  refine ⟨fun i hi => ⟨who, p, rfl, ?_⟩, fun h => absurd h hc⟩
  by_contra hne
  exact hb i (blockState_setBlockState_of_ne (Ne.symm hne) .programming (setSlot _ _ s) ▸ hi)

/-- What begins at a free port keeps the law. -/
theorem grantRequest_programmingLaw (r : Requester) (h : ProgrammingLaw s)
    (hp : s.store.port = .free) : ProgrammingLaw (grantRequest r s) := by
  have hb := h.none_programming fun who p hg => by rw [hp] at hg; cases hg
  have hc : s.chip.phase ≠ .checking := h.not_checking fun hg => by rw [hp] at hg; cases hg
  unfold grantRequest
  dsimp only
  cases r with
  | linkA =>
    dsimp only
    split
    · exact beginProgram_programmingLaw (s := setWaiting _ s) _ _ hb hc
    · exact h
  | linkB =>
    dsimp only
    split
    · exact beginProgram_programmingLaw (s := setWaiting _ s) _ _ hb hc
    · exact h
  | service =>
    dsimp only
    split
    · exact beginProgram_programmingLaw (s := setWaiting _ s) _ _ hb hc
    · exact .of_none hb fun h => absurd h hc
    · exact h
  | composer =>
    dsimp only
    split
    · exact .of_none hb fun h => absurd h hc
    · exact h
  | driftSave =>
    dsimp only
    split
    · exact .of_none hb fun h => absurd h hc
    · exact h

theorem settleStore_programmingLaw (h : ProgrammingLaw s) : ProgrammingLaw (settleStore s) := by
  unfold settleStore
  split_ifs with hp
  · split
    · exact grantRequest_programmingLaw (s := s.setStore _) _ h hp
    · exact h
  · exact h

/-- The port is freed of a grant that is no program. -/
theorem freed_programmingLaw {v : Store} (h : ProgrammingLaw s)
    (hp : ∀ who p, s.store.port ≠ .granted (.program who p)) (hs : s.store.port ≠ .startUp)
    (hb : v.blockStates = s.store.blockStates) : ProgrammingLaw (s.setStore v) := by
  refine .of_none (fun i => ?_) fun hc => absurd hc (h.not_checking hs)
  have hi : (s.setStore v).blockState i = s.blockState i := congrArg (·.getD i .blank) hb
  rw [hi]
  exact h.none_programming hp i

/-! ## What follows inside a step -/

theorem absorbRead_programmingLaw (read : BlockRead) (h : ProgrammingLaw s) :
    ProgrammingLaw (absorbRead read s) := by
  unfold absorbRead
  split
  · unfold absorbBuild requestBlock
    dsimp only
    split
    · split_ifs
      · split <;> exact h
      · exact h
    all_goals exact h
  · unfold absorbScrub
    dsimp only
    split_ifs
    · exact setBlockState_programmingLaw _ (by decide) h
    · exact setBlockState_programmingLaw _ (by decide) h
    all_goals exact h
  all_goals exact h

theorem takeDeferred_programmingLaw (h : ProgrammingLaw s) :
    ProgrammingLaw (takeDeferred s) := by
  unfold takeDeferred
  split_ifs
  · exact h
  · split
    · exact absorbRead_programmingLaw (s := s.setComposer _) _ h
    · exact h

theorem startJob_programmingLaw (k : JobKind) (h : ProgrammingLaw s) :
    ProgrammingLaw (startJob k s) := by
  cases k with
  | build =>
    simp only [startJob, takeZone, requestBlock]
    split
    · split <;> exact h
    · exact h
  | _ => exact h

theorem takeDecision_programmingLaw (h : ProgrammingLaw s) :
    ProgrammingLaw (takeDecision s) := by
  unfold takeDecision
  split
  · exact h
  · exact startJob_programmingLaw _ h
  · exact h
  · exact .ite _ (startJob_programmingLaw _ h) h

theorem decideAtPoint_programmingLaw (level left : Nat) (h : ProgrammingLaw s) :
    ProgrammingLaw (decideAtPoint level left s) := by
  unfold decideAtPoint
  split
  · exact .ite _ (startJob_programmingLaw (s := pushScrub level left s) _ h) h
  · exact h

theorem settleComposer_programmingLaw (h : ProgrammingLaw s) :
    ProgrammingLaw (settleComposer s) := by
  unfold settleComposer
  split_ifs
  · exact h
  · split
    · exact takeDecision_programmingLaw h
    · exact decideAtPoint_programmingLaw _ _ h
    · exact h

theorem settleWork_programmingLaw (h : ProgrammingLaw s) : ProgrammingLaw (settleWork s) :=
  settleStore_programmingLaw (settleComposer_programmingLaw h)

theorem settle_programmingLaw (h : ProgrammingLaw s) : ProgrammingLaw (settle s) := by
  have hb : ProgrammingLaw (settleBanks s) := h
  exact settleWork_programmingLaw ((takeDeferred_programmingLaw hb).frame
    (settleRender_keeps (ps := [.render, .composer]) (KeepsBut.refl _ _) (by simp)))

theorem conclude_programmingLaw (extra : List Cause) (before : State) (h : ProgrammingLaw s) :
    ProgrammingLaw (conclude extra before s) :=
  h.frame (conclude_keeps (ps := [.linkA, .linkB, .authority, .render]) extra before
    (KeepsBut.refl _ s) (by simp))

/-! ## Power states, rounds and the sensor bus -/

theorem enterRest_programmingLaw (h : ProgrammingLaw s) : ProgrammingLaw (enterRest s) := by
  unfold enterRest
  dsimp only
  split <;> exact h

/-- Start-up ends (R178). -/
theorem endStartRound_programmingLaw (h : ProgrammingLaw s) :
    ProgrammingLaw (endStartRound s) := by
  unfold endStartRound
  dsimp only
  split_ifs <;> exact h.congr rfl rfl fun hc => nomatch hc

theorem endSampleRound_programmingLaw (h : ProgrammingLaw s) :
    ProgrammingLaw (endSampleRound s) := by
  unfold endSampleRound sampleReported
  exact .ite _ (enterRest_programmingLaw (s := (senseZones s).setThermal _) h) h

theorem requestThermal_programmingLaw (h : ProgrammingLaw s) :
    ProgrammingLaw (requestThermal s) := .ite _ h h

theorem endRound_programmingLaw (r : Round) (h : ProgrammingLaw s) :
    ProgrammingLaw (endRound r s) := by
  have hround : ProgrammingLaw (setRound none s) := h
  have hstart := ProgrammingLaw.ite r.start (endStartRound_programmingLaw hround) hround
  have hsample := ProgrammingLaw.ite r.sample (endSampleRound_programmingLaw hstart) hstart
  exact .ite r.thermal (requestThermal_programmingLaw hsample) hsample

theorem tempCompletion_programmingLaw (q : Nat) (h : ProgrammingLaw s) :
    ProgrammingLaw (tempCompletion q s) := by
  unfold tempCompletion
  split
  · exact .ite _ (.ite _ (endRound_programmingLaw _ h) h) h
  · exact h

theorem deliverTo_programmingLaw (r : SensorRequest) (c : Completion) (u : SensorUser)
    (h : ProgrammingLaw s) : ProgrammingLaw (deliverTo r c u s) := by
  unfold deliverTo
  split
  · exact tempCompletion_programmingLaw _ h
  · exact h.frame (lightCompletion_keeps (ps := [.wear, .composer, .driver]) _ _ (KeepsBut.refl _ s)
      (by simp))
  · exact h
  · exact h

theorem deliver_programmingLaw (r : SensorRequest) (c : Completion) (us : List SensorUser)
    (h : ProgrammingLaw s) : ProgrammingLaw (deliver r c us s) := by
  unfold deliver
  induction us generalizing s with
  | nil => exact h
  | cons u us ih => exact ih (deliverTo_programmingLaw r c u h)

theorem startTransactions_programmingLaw (n : Nat) (h : ProgrammingLaw s) :
    ProgrammingLaw (startTransactions n s) := by
  induction n generalizing s with
  | zero => exact h
  | succ n ih =>
    unfold startTransactions
    split
    · exact h
    · exact h
    · exact .ite _ (ih (deliver_programmingLaw (s := s.setSensors _) _ _ _ h)) h

theorem startNext_programmingLaw (h : ProgrammingLaw s) : ProgrammingLaw (startNext s) :=
  startTransactions_programmingLaw _ h

theorem endTransaction_programmingLaw (t : Transaction) (c : Completion) (h : ProgrammingLaw s) :
    ProgrammingLaw (endTransaction t c s) :=
  startNext_programmingLaw
    (deliver_programmingLaw (s := recordCompletion _ _ (s.setSensors _)) _ _ _ h)

theorem sensorResponse_programmingLaw (f : SensorFrame) (h : ProgrammingLaw s) :
    ProgrammingLaw (sensorResponse f s) := by
  unfold sensorResponse
  dsimp only
  split_ifs
  · split
    · exact .ite _ (endTransaction_programmingLaw _ _ h) h
    · exact h
  · exact h

theorem sensorDeadline_programmingLaw (h : ProgrammingLaw s) :
    ProgrammingLaw (sensorDeadline s) := by
  unfold sensorDeadline
  split
  · exact endTransaction_programmingLaw _ _ h
  · exact h

theorem placeSensors_programmingLaw (qs : List Nat) (h : ProgrammingLaw s) :
    ProgrammingLaw (qs.foldl (fun s q => placeSensor (.temp q) .thermal s) s) := by
  induction qs generalizing s with
  | nil => exact h
  | cons q qs ih =>
    exact ih (h.frame (placeSensor_keeps (ps := [.sensors]) _ _ (KeepsBut.refl _ s) (by simp)))

theorem joinRound_programmingLaw (m : RoundMark) (h : ProgrammingLaw s) :
    ProgrammingLaw (joinRound m s) := by
  unfold joinRound openRound
  split
  · exact h
  · exact .ite _ (endRound_programmingLaw _ h)
      (placeSensors_programmingLaw (s := setRound _ s) _ h)

/-! ## The links -/

theorem setLink_programmingLaw (l : Link) (v : LinkPort) (h : ProgrammingLaw s) :
    ProgrammingLaw (s.setLink l v) :=
  h.frame (setLink_keeps (ps := [.linkA, .linkB]) l v (KeepsBut.refl _ s) (by decide) (by decide))

theorem passFrameHead_programmingLaw (l : Link) (body : List Byte) (h : ProgrammingLaw s) :
    ProgrammingLaw (passFrameHead l body s) := by
  have hc : ProgrammingLaw (if sequenceGap (s.link l).lastSequence (getU16 0 body) then
      setCounts l (fun k => { k with sequenceGaps := inc32 k.sequenceGaps }) s else s) :=
    .ite _ (setLink_programmingLaw l _ h) h
  exact conclude_programmingLaw _ _ (settle_programmingLaw ((setLink_programmingLaw l _ hc).frame
    (takeFrameHead_keeps (ps := [.linkA, .linkB, .authority, .composer, .render, .driver]) l
      (KeepsBut.refl _ _) (by simp))))

theorem passRow_programmingLaw (l : Link) (body : List Byte) (h : ProgrammingLaw s) :
    ProgrammingLaw (passRow l body s) := by
  rcases passRow_cases l body s with hk | ⟨y, pixels, he⟩
  · exact h.frame hk
  · exact he ▸ h

/-- R161: the head entry's program is requested; nothing begins. -/
theorem requestHead_programmingLaw (l : Link) (h : ProgrammingLaw s) :
    ProgrammingLaw (requestHead l s) := by
  unfold requestHead
  dsimp only
  split
  · cases l <;> exact h
  all_goals exact h

theorem takeBlock_programmingLaw (l : Link) (tag : Byte) (body : List Byte)
    (h : ProgrammingLaw s) : ProgrammingLaw (takeBlock l tag body s) := by
  have hrefuse : ProgrammingLaw (refuseBlock l tag s) :=
    h.frame (refuseBlock_keeps (ps := [.linkA, .linkB]) l tag (KeepsBut.refl _ s) (by simp))
  unfold takeBlock
  split_ifs
  · exact setLink_programmingLaw l _ h
  · split
    · exact .ite _ (settleStore_programmingLaw (requestHead_programmingLaw l
        (setLink_programmingLaw l _ h))) hrefuse
    · exact hrefuse

theorem takeReady_programmingLaw (l : Link) (kind : Byte) (u : LinkUnit) (h : ProgrammingLaw s) :
    ProgrammingLaw (takeReady l kind u s) := by
  unfold takeReady
  split_ifs
  · exact setLink_programmingLaw l _ h
  · exact passFrameHead_programmingLaw l _ h
  · exact setLink_programmingLaw l _ h
  · exact passRow_programmingLaw l _ h
  · exact takeBlock_programmingLaw l _ _ h
  · exact .ite _ (setLink_programmingLaw l _ h) (setLink_programmingLaw l _ h)

theorem receive_programmingLaw (l : Link) (kind : Byte) (u : LinkUnit) (h : ProgrammingLaw s) :
    ProgrammingLaw (receive l kind u s) := by
  have hfail : ProgrammingLaw (countCheckFailure l s) := setLink_programmingLaw l _ h
  refine .ite _ h ?_
  split
  · exact h
  · exact h
  · exact .ite _ (.ite _ (setLink_programmingLaw l _ h) (setLink_programmingLaw l _ h)) hfail
  · exact .ite _ (takeReady_programmingLaw l kind u h) hfail

/-! ## Requests -/

theorem applySetting_programmingLaw (x : Setting) (v : Int) (h : ProgrammingLaw s) :
    ProgrammingLaw (applySetting x v s) := by
  cases x with
  | holdTime =>
    exact settle_programmingLaw (h.frame (applyHoldTime_keeps
      (ps := [.linkA, .linkB, .authority, .composer, .settings]) _ (KeepsBut.refl _ s) (by simp)))
  | blankAfter =>
    exact settle_programmingLaw (h.frame (applyBlankAfter_keeps (ps := [.authority, .settings]) _
      (KeepsBut.refl _ s) (by simp)))
  | _ => exact h

theorem performSet_programmingLaw (op : SetOp) (h : ProgrammingLaw s) :
    ProgrammingLaw (performSet op s).state := by
  cases op with
  | jobLevel k v =>
    unfold performSet setJobLevel
    dsimp only
    split_ifs
    · exact h
    · exact h
    · exact settleWork_programmingLaw (s := s.setComposer _) h
  | phaseTable t =>
    unfold performSet setPhaseTable
    dsimp only
    split_ifs <;> exact h
  | darkPolicy b v =>
    unfold performSet setDarkPolicy
    dsimp only
    split_ifs
    · exact h
    · split <;> exact h
  | value x v =>
    unfold performSet setValue
    dsimp only
    split_ifs
    · exact h
    · exact h
    · exact applySetting_programmingLaw _ _ h
    · exact applySetting_programmingLaw _ _ h

theorem powerCommand_programmingLaw (o : Origin) {f : State → State}
    (hf : ProgrammingLaw (f s)) (h : ProgrammingLaw s) :
    ProgrammingLaw (powerCommand o f s).state := by
  unfold powerCommand
  split_ifs
  · exact settle_programmingLaw hf
  · exact h

theorem commandRest_programmingLaw (h : ProgrammingLaw s) : ProgrammingLaw (commandRest s) := by
  have hrequest : ProgrammingLaw (requestSave true
      (s.setChip { s.chip with power := .restingEntry, held := .none })) := h
  have hentry : ProgrammingLaw (enterResting s) := hrequest.frame (abandonSequence_keeps
    (ps := [.wear, .composer]) (KeepsBut.refl _ _) (by simp))
  unfold commandRest
  split
  · exact hentry
  · exact hentry
  all_goals exact h

/-- The owner's rule of a request that links and tool share. -/
theorem perform_programmingLaw (o : Origin) (r : Request) (h : ProgrammingLaw s) :
    ProgrammingLaw (perform o r s).state := by
  cases r with
  | wall r =>
    cases o with
    | link l =>
      exact settleWork_programmingLaw (h.frame (storeRecord_keeps
        (ps := [.linkA, .linkB, .authority, .composer]) l _ (KeepsBut.refl _ s) (by simp)))
    | tool => exact h
  | take =>
    cases o with
    | link l =>
      unfold perform performTake takeCommand
      dsimp only
      split_ifs <;> exact h
    | tool => exact h
  | dark =>
    refine powerCommand_programmingLaw o ?_ h
    unfold commandDark
    split <;> exact h
  | light =>
    refine powerCommand_programmingLaw o ?_ h
    unfold commandLight
    split <;> exact h
  | rest => exact powerCommand_programmingLaw o (commandRest_programmingLaw h) h
  | rebuild zs =>
    unfold perform performRebuild
    dsimp only
    split_ifs
    · exact h
    · exact settleWork_programmingLaw (s := joinBuild zs s) h
  | query q => exact h
  | set op => exact performSet_programmingLaw op h
  | close => exact .ite _ h (settle_programmingLaw (s := s.setChip _) h)
  | reset => exact h

theorem offerProgram_programmingLaw (tag : Byte) (p : ServiceProgram) (h : ProgrammingLaw s) :
    ProgrammingLaw (offerProgram tag p s).state := by
  unfold offerProgram
  split
  · exact settleStore_programmingLaw (s := placeTool tag p s) h
  · exact h
  · exact h

theorem performTool_programmingLaw (tag : Byte) (r : ToolRequest) (h : ProgrammingLaw s) :
    ProgrammingLaw (performTool tag r s).state := by
  cases r with
  | shared r => exact perform_programmingLaw .tool r h
  | block p =>
    unfold performTool toolBlock
    dsimp only
    split_ifs
    · exact offerProgram_programmingLaw _ _ h
    · exact h
  | identity fields =>
    unfold performTool toolIdentity
    dsimp only
    split_ifs
    · exact h
    · exact offerProgram_programmingLaw _ _ h
    · exact h
  | trim codes =>
    exact settleWork_programmingLaw (.ite _ (s := requestSave _ (s.setWear _)) h h)
  | wearClear z => exact settleWork_programmingLaw (s := clearWear z s) h
  | bank es => exact h.frame (setBankModes_keeps es (KeepsBut.refl _ s))
  | latch b v => exact h

theorem handlePrompt_programmingLaw (l : Link) (m : Message) (rest : List Message) (r : Request)
    (h : ProgrammingLaw s) : ProgrammingLaw (handlePrompt l m rest r s) :=
  (perform_programmingLaw (.link l) r (setLink_programmingLaw l _ h)).frame
    (handlePrompt_keeps l m rest r s)

theorem handleFrame_programmingLaw (tag kind : Byte) (req : Option ToolRequest)
    (h : ProgrammingLaw s) : ProgrammingLaw (handleFrame tag kind req s) := by
  rcases handleFrame_cases tag kind req s with hk | ⟨r, -, he⟩
  · exact h.frame hk
  · rw [he]
    exact (performTool_programmingLaw tag r h).frame (answerTool_keeps _ _ _ _)

theorem promptStep_programmingLaw (l : Link) (mine : Request → Bool) (h : ProgrammingLaw s) :
    ProgrammingLaw (promptStep l mine s) := by
  rcases promptStep_cases l mine s with he | ⟨m, rest, r, he⟩
  · exact he.symm ▸ h
  · exact he ▸ conclude_programmingLaw _ _ (handlePrompt_programmingLaw l m rest r h)

theorem toolStep_programmingLaw (tag kind : Byte) (req : Option ToolRequest)
    (h : ProgrammingLaw s) : ProgrammingLaw (toolStep tag kind req s) := by
  rcases toolStep_cases tag kind req s with he | he
  · exact he.symm ▸ h
  · exact he ▸ conclude_programmingLaw _ _ (handleFrame_programmingLaw tag kind req h)

theorem requestStep_programmingLaw {α : Type} (v : Via α) (mine : Request → Bool) (kind : Byte)
    (req : α → Option Request) (h : ProgrammingLaw s) :
    ProgrammingLaw (requestStep v mine kind req s) := by
  cases v with
  | port l => exact promptStep_programmingLaw l mine h
  | tool tag a => exact toolStep_programmingLaw tag kind _ h

/-! ## Service frames -/

theorem endFrame_programmingLaw (buf : List Byte) (h : ProgrammingLaw s) :
    ProgrammingLaw (endFrame buf s) :=
  .ite _ (conclude_programmingLaw _ _
    (handleFrame_programmingLaw (s := setReceiving none s) _ _ _ h)) h

theorem receiveByte_programmingLaw (b : LineByte) (h : ProgrammingLaw s) :
    ProgrammingLaw (receiveByte b s) := by
  have hi : ProgrammingLaw (s.setService { s.service with idle := 0 }) := h
  unfold receiveByte
  dsimp only
  split
  · exact .ite _ hi hi
  · exact .ite _ hi (.ite _ hi (.ite _ (endFrame_programmingLaw _ hi) hi))

theorem receiveBytes_programmingLaw (bytes : List LineByte) (h : ProgrammingLaw s) :
    ProgrammingLaw (bytes.foldl (fun s b => receiveByte b s) s) := by
  induction bytes generalizing s with
  | nil => exact h
  | cons b bytes ih => exact ih (receiveByte_programmingLaw b h)

/-! ## Resets and start-up (R49, R52, R175) -/

/-- The abandoned program's block is INVALID, and no other was PROGRAMMING. -/
theorem abandonGrant_none_programming (h : ProgrammingLaw s) (i : Nat) :
    (abandonGrant s).blockState i ≠ .programming := by
  unfold abandonGrant
  dsimp only
  split
  · rename_i who p hp
    intro hi
    by_cases hip : i = p.block
    · exact blockState_setBlockState_ne_programming p.block (by decide) _ (hip ▸ hi)
    · rw [blockState_setBlockState_of_ne hip] at hi
      obtain ⟨_, q, hq, hb⟩ := h.1 i hi
      rw [hp] at hq
      cases hq
      exact hip hb.symm
  all_goals
    rename_i hp
    exact h.none_programming (fun who p hg => by rw [hp] at hg; cases hg) i

theorem coldReset_programmingLaw (pins : StrapPins) (s : State) :
    ProgrammingLaw (coldReset pins s) := by
  refine .of_none (fun i hi => ?_) fun _ => rfl
  have hb : (List.replicate 256 BlockState.blank).getD i .blank = .programming := hi
  rw [List.getD_eq_getElem?_getD, List.getElem?_replicate] at hb
  split_ifs at hb <;> cases hb

theorem clearWarm_programmingLaw (h : ProgrammingLaw s) : ProgrammingLaw (clearWarm s) :=
  .of_none (abandonGrant_none_programming h) fun _ => rfl

theorem resetPinRelease_programmingLaw (pins : StrapPins) (h : ProgrammingLaw s) :
    Leads (.resetPinRelease pins) s ProgrammingLaw := by
  refine .intro rfl ?_
  split
  · exact coldReset_programmingLaw _ _
  · exact clearWarm_programmingLaw (s := setPinLow false s) h
  all_goals exact h

/-- R52: the checks leave no block PROGRAMMING where none was. -/
theorem checkBlocks_none_programming (hb : ∀ i, s.blockState i ≠ .programming) (i : Nat) :
    (checkBlocks s).blockState i ≠ .programming := by
  have hi := hb i
  simp only [State.blockState, List.getD_eq_getElem?_getD] at hi
  simp only [State.blockState, checkBlocks, setStore_store, List.getD_eq_getElem?_getD,
    List.getElem?_map, List.getElem?_zipIdx]
  cases hg : s.store.blockStates[i]? with
  | none => exact BlockState.noConfusion
  | some b =>
    rw [hg] at hi
    simp only [Option.map_some, Option.getD_some]
    split_ifs
    · exact checkBlock_ne_programming _
    · exact hi

theorem checkedState_programmingLaw (f : StoreFindings) (h : ProgrammingLaw s)
    (hp : s.chip.phase = .checking) : ProgrammingLaw (checkedState f s) := by
  have hb := h.none_programming fun who p hg => by rw [h.2 hp] at hg; cases hg
  have hchecks : ∀ i, (runChecks f s).blockState i ≠ .programming := by
    unfold runChecks
    dsimp only
    split_ifs
    · exact checkBlocks_none_programming
        (s := clearTable (loadDrift (loadIdentity (applyFindings f s)))) hb
    · exact checkBlocks_none_programming (s := loadIdentity (applyFindings f s)) hb
  exact .of_none hchecks fun hc => nomatch hc

theorem startupChecksDone_programmingLaw (f : StoreFindings) (h : ProgrammingLaw s) :
    Leads (.startupChecksDone f) s ProgrammingLaw := by
  by_cases hp : s.chip.phase = .checking
  · exact .intro (exec_startupChecksDone f hp) (conclude_programmingLaw _ _ (settle_programmingLaw
      (startNext_programmingLaw (joinRound_programmingLaw _ (checkedState_programmingLaw f h hp)))))
  · exact .intro (congrArg Host.Outcome.next (if_neg hp)) h

/-! ## Ticks and expiries -/

theorem millisecond_programmingLaw (h : ProgrammingLaw s) : ProgrammingLaw (millisecond s) :=
  h.frame (millisecond_keeps (ps := [.timebase, .authority, .linkA, .linkB, .wear, .driver])
    (KeepsBut.refl _ s) (by simp))

theorem onTick_programmingLaw {f : State → State} (hf : ProgrammingLaw (f s))
    (h : ProgrammingLaw s) : ProgrammingLaw (onTick f s) := .ite _ hf h

theorem thermalTick_programmingLaw (h : ProgrammingLaw s) : ProgrammingLaw (thermalTick s) :=
  conclude_programmingLaw _ _ (settle_programmingLaw (startNext_programmingLaw
    (joinRound_programmingLaw (s := (s.setTimebase _).setThermal _) _ h)))

theorem pilotTick_programmingLaw (h : ProgrammingLaw s) : ProgrammingLaw (pilotTick s) :=
  settleWork_programmingLaw (h.frame (startSequence_keeps
    (ps := [.wear, .composer, .driver, .timebase]) (setTimebase_keeps _ (KeepsBut.refl _ s)
      (by decide)) (by simp)))

theorem scrubTick_programmingLaw (h : ProgrammingLaw s) : ProgrammingLaw (scrubTick s) :=
  settleWork_programmingLaw (.ite _ (s := s.setTimebase _) h h)

theorem driftSaveTick_programmingLaw (h : ProgrammingLaw s) : ProgrammingLaw (driftSaveTick s) :=
  settleStore_programmingLaw (s := requestSave _ (s.setTimebase _)) h

theorem restWakeExpiry_programmingLaw (h : ProgrammingLaw s) :
    ProgrammingLaw (restWakeExpiry s) :=
  .ite _ (conclude_programmingLaw _ _ (settle_programmingLaw (startNext_programmingLaw
    (joinRound_programmingLaw (s := clearLoad (s.setChip _)) _ h)))) h

theorem settleTimerExpiry_programmingLaw (h : ProgrammingLaw s) :
    ProgrammingLaw (settleTimerExpiry s) := by
  unfold settleTimerExpiry
  split
  · exact settle_programmingLaw (startNext_programmingLaw (h.frame (beginRead_keeps
      (ps := [.wear, .sensors]) _ (KeepsBut.refl _ s) (by simp))))
  all_goals exact h

theorem ageExpiry_programmingLaw (l : Link) (h : ProgrammingLaw s) :
    ProgrammingLaw (ageExpiry l s) :=
  .ite _ (conclude_programmingLaw _ _ (settle_programmingLaw ((setLink_programmingLaw l _ h).frame
    (linkStale_keeps (ps := [.linkA, .linkB, .authority, .composer]) l (KeepsBut.refl _ _)
      (by simp))))) h

theorem blankAfterExpiry_programmingLaw (h : ProgrammingLaw s) :
    ProgrammingLaw (blankAfterExpiry s) :=
  .ite _ (conclude_programmingLaw _ _ (settle_programmingLaw (s := blank s) h)) h

/-- A RESET's mark moves no phase. -/
theorem dueReset_programmingLaw (c : WarmCause) (h : ProgrammingLaw s) :
    ProgrammingLaw (dueReset c s) := h

theorem linkDown_programmingLaw (l : Link) (h : ProgrammingLaw s) :
    ProgrammingLaw (linkDown l s) := by
  have hl : ProgrammingLaw (s.setLink l (s.link l).dropped) := setLink_programmingLaw l _ h
  have hdown : ProgrammingLaw (goDown l s) :=
    settle_programmingLaw ((ProgrammingLaw.ite _ (dueReset_programmingLaw _ hl) hl).frame
      (authorityDown_keeps (ps := [.linkA, .linkB, .authority, .composer]) l (KeepsBut.refl _ _)
        (by simp)))
  unfold linkDown
  split_ifs
  · exact h
  · split
    · exact h
    · exact setLink_programmingLaw l _ h
    · exact conclude_programmingLaw _ _ hdown
    · exact conclude_programmingLaw _ _ hdown

theorem answerSent_programmingLaw (who : Sender) (h : ProgrammingLaw s) :
    Leads (.answerSent who) s ProgrammingLaw := by
  cases who with
  | link l =>
    refine .intro rfl (.ite _ ?_ h)
    unfold linkSent afterSent
    split
    · have hl := fun v => setLink_programmingLaw l v h
      split
      · exact setLink_programmingLaw l _ (hl _)
      · exact dueReset_programmingLaw _ (setLink_programmingLaw l _ (hl _))
      all_goals exact hl _
    · exact h
  | service =>
    refine .intro rfl (.ite _ ?_ h)
    unfold serviceSent
    split
    · exact .ite _ (dueReset_programmingLaw (s := s.setService _) _ h) h
    · exact h

/-! ## The service line's sync -/

theorem sync_programmingLaw (low : Nat) (h : ProgrammingLaw s) : ProgrammingLaw (sync low s) := by
  have hsync : ∀ u : State, ProgrammingLaw u → ProgrammingLaw (reportSync u) := fun u hu => by
    unfold reportSync
    split
    · exact hu
    · exact hu
    · exact .ite _ hu hu
    · exact .ite _ hu hu
    · exact hu
  exact .ite _ (.ite _ (conclude_programmingLaw _ _ (settle_programmingLaw
    (hsync (s.setService _) h))) h) h

theorem returnToSync_programmingLaw (h : ProgrammingLaw s) : ProgrammingLaw (returnToSync s) :=
  .ite _ h h

/-! ## The ends of grants and jobs (R43, R45, R47, R55) -/

theorem onSensor_programmingLaw {f : State → State} (hf : ProgrammingLaw (f s))
    (h : ProgrammingLaw s) : ProgrammingLaw (onSensor f s) :=
  .ite _ (conclude_programmingLaw _ _ (settle_programmingLaw hf)) h

theorem blockReadDone_programmingLaw (cells : Option Stored) (h : ProgrammingLaw s) :
    ProgrammingLaw (blockReadDone cells s) := by
  unfold blockReadDone
  split
  · rename_i i hp
    have hfree : ProgrammingLaw (setPort .free (setSlot i (cells.getD (s.slot i)) s)) :=
      freed_programmingLaw (s := s) h (by simp [hp]) (by simp [hp]) rfl
    exact settle_programmingLaw (.ite _ hfree (absorbRead_programmingLaw _ hfree))
  all_goals exact h

theorem completeLink_programmingLaw (l : Link) (ok : Bool) (h : ProgrammingLaw s) :
    ProgrammingLaw (completeLink l ok s) := by
  have hl := fun v => setLink_programmingLaw l v h
  unfold completeLink
  dsimp only
  split
  · exact requestHead_programmingLaw l ((hl _).frame (answerBlock_keeps (ps := [.linkA, .linkB]) l _
      _ (KeepsBut.refl _ _) (by simp)))
  · exact hl _
  · exact .ite _ (requestHead_programmingLaw l (hl _)) (hl _)
  · exact h

theorem releaseHold_programmingLaw (h : ProgrammingLaw s) : ProgrammingLaw (releaseHold s) := by
  have hr : ∀ a u, ProgrammingLaw u → ProgrammingLaw (answerLater a u) := fun _ _ hu => .ite _ hu hu
  unfold releaseHold
  split
  · exact h
  · dsimp only
    split
    · exact h
    · exact .ite _ (hr _ (s.setService _) h) h

theorem completeService_programmingLaw (ok : Bool) (h : ProgrammingLaw s) :
    ProgrammingLaw (completeService ok s) := by
  unfold completeService
  split
  · exact releaseHold_programmingLaw (.ite _ h (.ite _ h h))
  · exact h

theorem reportProgram_programmingLaw (who : Requester) (ok : Bool) (h : ProgrammingLaw s) :
    ProgrammingLaw (reportProgram who ok s) := by
  cases who with
  | linkA => exact completeLink_programmingLaw .a ok h
  | linkB => exact completeLink_programmingLaw .b ok h
  | service => exact completeService_programmingLaw ok h
  | composer => exact h
  | driftSave => exact h

theorem countProgramFailure_programmingLaw (ok : Bool) (h : ProgrammingLaw s) :
    ProgrammingLaw (countProgramFailure ok s) := .ite _ h h

/-- R47: the program's block takes its final state and the port is free. -/
theorem programEnded_programmingLaw {who : Requester} {p : BlockProgram} (h : ProgrammingLaw s)
    (hp : s.store.port = .granted (.program who p)) {b : BlockState} (hb : b ≠ .programming) :
    ProgrammingLaw (setPort .free (setBlockState p.block b s)) := by
  refine .of_none (fun i hi => ?_) fun hc => absurd hc (h.not_checking (by simp [hp]))
  obtain ⟨_, q, hq, hqi⟩ := (setBlockState_programmingLaw p.block hb h).1 i hi
  have hq' : s.store.port = .granted (.program _ q) := hq
  rw [hp] at hq'
  cases hq'
  exact blockState_setBlockState_ne_programming p.block hb s (hqi ▸ hi)

theorem blockProgramDone_programmingLaw (cells : Option Stored) (h : ProgrammingLaw s) :
    ProgrammingLaw (blockProgramDone cells s) := by
  unfold blockProgramDone
  split
  · rename_i who p hp
    unfold endBlockProgram
    dsimp only
    refine settleWork_programmingLaw (reportProgram_programmingLaw who _ ?_)
    have hend := fun c b (hb : b ≠ BlockState.programming) =>
      programEnded_programmingLaw (s := setSlot p.block c s) h hp hb
    unfold countProgramFailure
    split_ifs
    · exact hend _ _ (by decide)
    · exact hend _ _ (by decide)
  all_goals exact h

theorem identityProgramDone_programmingLaw (cells : Option Stored) (h : ProgrammingLaw s) :
    ProgrammingLaw (identityProgramDone cells s) := by
  unfold identityProgramDone
  split
  · rename_i fields hp
    unfold endIdentityProgram countProgramFailure
    refine settleWork_programmingLaw (completeService_programmingLaw _ ?_)
    split_ifs <;> exact freed_programmingLaw (s := s) h (by simp [hp]) (by simp [hp]) rfl
  all_goals exact h

theorem driftSaveDone_programmingLaw (cells : Option Stored) (h : ProgrammingLaw s) :
    ProgrammingLaw (driftSaveDone cells s) := by
  unfold driftSaveDone
  split
  · rename_i mark hp
    have hfree := fun v hv => freed_programmingLaw (v := v) h (by simp [hp]) (by simp [hp]) hv
    exact conclude_programmingLaw _ _ (settle_programmingLaw
      (.ite _ (enterRest_programmingLaw (hfree _ rfl)) (hfree _ rfl)))
  all_goals exact h

theorem thermalJobEnd_programmingLaw (h : ProgrammingLaw s) : ProgrammingLaw (thermalJobEnd s) := by
  unfold thermalJobEnd
  split
  · exact .ite _ h (settleWork_programmingLaw (s := endThermal _ s) h)
  all_goals exact h

theorem gainEnd_programmingLaw (h : ProgrammingLaw s) : ProgrammingLaw (gainEnd s) := by
  unfold gainEnd
  split
  · exact .ite _ h (conclude_programmingLaw _ _ (settle_programmingLaw (s := endGain _ s) h))
  all_goals exact h

/-! ## Every step -/

/-- Every command keeps the law. -/
theorem leads_programmingLaw (h : ProgrammingLaw s) : ∀ c, Leads c s ProgrammingLaw
  | .powerOn pins =>
    .intro rfl (.ite _
      ((coldReset_programmingLaw ⟨0, 0, false⟩ s).congr rfl rfl fun hc => nomatch hc)
      (coldReset_programmingLaw pins s))
  | .resetPinRelease pins => resetPinRelease_programmingLaw pins h
  | .warmReset _ => .intro rfl (.ite _ (clearWarm_programmingLaw h) h)
  | .startupChecksDone f => startupChecksDone_programmingLaw f h
  | .loadSample => .intro rfl (millisecond_programmingLaw h)
  | .thermalTick => .intro rfl (onTick_programmingLaw (thermalTick_programmingLaw h) h)
  | .pilotTick => .intro rfl (onTick_programmingLaw (pilotTick_programmingLaw h) h)
  | .scrubTick => .intro rfl (onTick_programmingLaw (scrubTick_programmingLaw h) h)
  | .reportTick =>
    .intro rfl (onTick_programmingLaw (conclude_programmingLaw (s := s.setTimebase _) _ _ h) h)
  | .driftSaveTick => .intro rfl (onTick_programmingLaw (driftSaveTick_programmingLaw h) h)
  | .restWakeExpiry => .intro rfl (restWakeExpiry_programmingLaw h)
  | .primingTimerExpiry _ => .intro rfl (.ite _ h h)
  | .settleTimerExpiry => .intro rfl (onTick_programmingLaw (settleTimerExpiry_programmingLaw h) h)
  | .linkStale l => .intro rfl (onTick_programmingLaw (ageExpiry_programmingLaw l h) h)
  | .blankAfterExpiry => .intro rfl (onTick_programmingLaw (blankAfterExpiry_programmingLaw h) h)
  | .creditResendTimer l =>
    .intro rfl (.ite _ (h.frame (offerCredits_keeps (ps := [.linkA, .linkB]) l (KeepsBut.refl _ s)
      (by simp))) h)
  | .signalDetected l => .intro rfl (.ite _ (setLink_programmingLaw l _ h) h)
  | .symbolLock l =>
    .intro rfl (.ite _ (h.frame (offerCredits_keeps (ps := [.linkA, .linkB]) l
      (setLinkState_keeps l _ (KeepsBut.refl _ s) (by simp)) (by simp))) h)
  | .linkDown l => .intro rfl (linkDown_programmingLaw l h)
  | .init l u | .frameHead l u | .row l u | .promptMessageArrival l _ u | .block (.port l u) =>
    .intro rfl (receive_programmingLaw l _ u h)
  | .answerSent who => answerSent_programmingLaw who h
  | .unknownKind l =>
    .intro rfl (h.frame (refusePrompt_keeps (ps := [.linkA, .linkB]) l (KeepsBut.refl _ s)
      (by simp)))
  | .block (.tool _ _) => .intro rfl (toolStep_programmingLaw _ _ _ h)
  | .wall l | .take l => .intro rfl (promptStep_programmingLaw l _ h)
  | .dark v | .light v | .rest v | .queryZoneStatus v | .queryStoreStatus v | .queryThermalState v
  | .queryWearState v | .queryGainState v | .queryComposerState v | .querySensorState v
  | .queryAuthorityState v | .queryLinkState v | .queryConfiguration v | .close v | .reset v
  | .rebuild v | .setJobLevel v | .setPhaseTable v | .setDarkPolicy v
  | .setHoldTime v | .setBlankAfter v | .setThermalInterval v | .setK v | .setRho v | .setFCap v
  | .setSensorMap v | .setAssumedAmbient v | .setPilotInterval v | .setScrubInterval v
  | .setReportInterval v | .setDriftSaveInterval v | .setRestWakeInterval v =>
    .intro rfl (requestStep_programmingLaw v _ _ _ h)
  | .trim _ _ | .wearClear _ _ | .bank _ _ | .latch _ _ _ | .identity _ _ =>
    .intro rfl (toolStep_programmingLaw _ _ _ h)
  | .sync low => .intro rfl (sync_programmingLaw low h)
  | .serviceFrame bytes => .intro rfl (.ite _ (receiveBytes_programmingLaw bytes h) h)
  | .serviceFrameTimeout => .intro rfl (.ite _ h h)
  | .serviceBreak _ => .intro rfl (.ite _ (returnToSync_programmingLaw h) h)
  | .idle => .intro rfl (.ite _ (returnToSync_programmingLaw h) h)
  | .sensorResponse f =>
    .intro rfl (onSensor_programmingLaw (sensorResponse_programmingLaw f h) h)
  | .sensorDeadline => .intro rfl (onSensor_programmingLaw (sensorDeadline_programmingLaw h) h)
  | .blockReadDone cells => .intro rfl (blockReadDone_programmingLaw cells h)
  | .blockProgramDone cells => .intro rfl (blockProgramDone_programmingLaw cells h)
  | .identityProgramDone cells => .intro rfl (identityProgramDone_programmingLaw cells h)
  | .driftSaveDone cells => .intro rfl (driftSaveDone_programmingLaw cells h)
  | .thermalJobEnd => .intro rfl (thermalJobEnd_programmingLaw h)
  | .gainEnd => .intro rfl (gainEnd_programmingLaw h)
  | .resetPinDrivenLow =>
    .intro rfl (.ite _ ((clearWarm_programmingLaw (s := setPinLow true s) h).congr rfl rfl
      fun hc => nomatch hc) h)
  | .powerLoss =>
    .intro rfl ((coldReset_programmingLaw ⟨0, 0, false⟩ s).congr rfl rfl fun hc => nomatch hc)

end ProgrammingLaw

/-- Settles O54: on the front command by `leads_programmingLaw`; an idle second moves the wake
counter alone. -/
theorem programmingLawIsKept : Obligations.ProgrammingLawIsKept := by
  intro s t h hs
  cases hp : s.pending with
  | nil =>
    rw [step_nil hp] at hs
    cases hs
    exact .ite _ (s := s.setChip _) h h
  | cons c rest =>
    rw [step_cons hp] at hs
    exact (leads_programmingLaw (s := s.setPending rest) h c).of_exec hs

end Sys2Proof.Machine
end

section
/-! A request of good form on either way in (R157, R158, R169): its owner's rule at the state in
which the owner acts, then its one answer. -/

namespace Sys2Proof.Machine

/-- Where the request of a row comes from. -/
def originOf {α : Type} : Via α → Origin
  | .port l => .link l
  | .tool _ _ => .tool

/-- What the owner of `r` does at its handling. -/
def actedAt {α : Type} (v : Via α) (r : Request) (s : State) : Acted :=
  perform (originOf v) r (handledAt v s)

/-- A step that leaves the authority and the chip gives no report (R147). -/
theorem conclude_of_kept {ps : List Part} {s t : State} (h : KeepsBut ps s t)
    (hauth : .authority ∉ ps) (hchip : .chip ∉ ps) : conclude [] s t = t := by
  have ha := h.authority_eq hauth
  have hc := h.chip_eq hchip
  exact conclude_of_no_trigger (by rw [ha]) (by rw [ha]) (by rw [hc]) (by rw [hc])

section Answers

variable {α : Type} {v : Via α} {kind : Byte} {layout : α → List Byte} {a : α} {s : State}
  {r : Request} {mine : Request → Bool} {req : α → Option Request} {ps : List Part}

/-- An answer joins a send queue of a link or of the service line. -/
theorem answerPart_notMem (v : Via α) (h : .linkA ∉ ps ∧ .linkB ∉ ps ∧ .service ∉ ps) :
    answerPart v ∉ ps := by
  obtain ⟨ha, hb, hs⟩ := h
  cases v with
  | port l =>
    cases l
    · exact ha
    · exact hb
  | tool _ _ => exact hs

theorem handledAt_keeps (v : Via α) (s : State) : KeepsBut [answerPart v] s (handledAt v s) := by
  cases v with
  | port l => exact setLink_keepsBut l _ s
  | tool tag b => exact KeepsBut.refl _ s

/-- Where the owner's rule leaves the authority, the chip and the answer's own part, the step ends
with the answer. -/
theorem requestStep_answers (h : Asks v kind layout a s)
    (hparse : parseRequest kind (layout a) = some r) (hreq : req a = some r)
    (hmine : mine r = true) (hk : KeepsBut ps (handledAt v s) (actedAt v r s).state)
    (hps : .authority ∉ ps ∧ .chip ∉ ps ∧ answerPart v ∉ ps) :
    AnsweredWith v kind (r == .reset) (actedAt v r s).result (actedAt v r s).content id s
        (requestStep v mine kind req s) ∧
      KeepsBut [answerPart v] (actedAt v r s).state (requestStep v mine kind req s) := by
  obtain ⟨hauth, hchip, hpart⟩ := hps
  have hna : .authority ≠ answerPart v := fun he => answerPart_notMem v (ps := [.authority])
    (by decide) (List.mem_singleton.mpr he.symm)
  have hnc : .chip ≠ answerPart v := fun he => answerPart_notMem v (ps := [.chip])
    (by decide) (List.mem_singleton.mpr he.symm)
  have hconclude : ∀ t, KeepsBut [answerPart v] (actedAt v r s).state t → conclude [] s t = t :=
    fun t ht => by
      have hsub : [answerPart v] ⊆ answerPart v :: ps := by simp
      have hkept : KeepsBut (answerPart v :: ps) s t :=
        (((handledAt_keeps v s).mono hsub).trans
          (hk.mono (List.subset_cons_self _ _))).trans (ht.mono hsub)
      exact conclude_of_kept hkept (by simp [hauth, hna]) (by simp [hchip, hnc])
  cases v with
  | port l =>
    obtain ⟨hs, hw, tag, rest, hq⟩ := h
    have hat : handledAt (.port l : Via α) s = beginPrompt l rest s := by
      simp only [handledAt, hq, List.tail_cons]
    have hlink : (actedAt (.port l : Via α) r s).state.link l = (beginPrompt l rest s).link l := by
      rw [← hat]
      cases l
      · exact hk .linkA hpart
      · exact hk .linkB hpart
    have he : requestStep (.port l) mine kind req s =
        send l (.answer (if r == .reset then .resetPrompt else .prompt) tag kind
          (actedAt (.port l : Via α) r s).result (actedAt (.port l : Via α) r s).content)
          (actedAt (.port l : Via α) r s).state := by
      refine (promptStep_of_head hs hw hq hparse hmine).trans ?_
      rw [handlePrompt_eq, ← hat]
      exact hconclude _ (setLink_keepsBut l _ _)
    rw [he]
    refine ⟨⟨tag, layout a, rest, hq, ?_⟩, setLink_keepsBut l _ _⟩
    rw [send_link_same, hlink, beginPrompt_link_same]
    rfl
  | tool tag b =>
    obtain ⟨rfl, hs, hl, hroom⟩ := h
    have hreset : (ToolRequest.shared r == .shared .reset) = (r == .reset) := by
      rw [Bool.eq_iff_iff, beq_iff_eq, beq_iff_eq, ToolRequest.shared.injEq]
    have hservice : (actedAt (.tool tag b) r s).state.service = s.service := hk .service hpart
    have he : requestStep (.tool tag b) mine kind req s =
        pushAnswer ⟨tag, kind, (actedAt (.tool tag b) r s).result,
          (actedAt (.tool tag b) r s).content, r == .reset⟩ (actedAt (.tool tag b) r s).state := by
      unfold requestStep
      dsimp only
      rw [hreq, Option.map_some, toolStep_of_room hs hl hroom, hreset]
      exact hconclude _ (pushAnswer_keeps _ (KeepsBut.refl _ _) (by simp [answerPart]))
    rw [he]
    refine ⟨?_, pushAnswer_keeps _ (KeepsBut.refl _ _) (by simp [answerPart])⟩
    show (pushAnswer _ _).service = _
    rw [pushAnswer_service, hservice]

end Answers

end Sys2Proof.Machine
end

section
/-! REBUILD (R27, R114): the zones it names join the build set, and the composer's decision and the
arbiter's scan follow. On a link's way the owner acts behind the port's own changes, which that work
does not see. -/

namespace Sys2Proof.Machine

/-! ## The work that follows in a step does not see the link ports -/

section SetLink

variable (l : Link) (v : LinkPort) (s : State)

theorem setComposer_setLink (c : Composer) :
    (s.setLink l v).setComposer c = (s.setComposer c).setLink l v := by cases l <;> rfl

theorem setStore_setLink (w : Store) :
    (s.setLink l v).setStore w = (s.setStore w).setLink l v := by cases l <;> rfl

theorem winningPhase_setLink : (s.setLink l v).winningPhase = s.winningPhase := by
  cases l <;> rfl

theorem composerStopped_setLink : (s.setLink l v).composerStopped = s.composerStopped := by
  cases l <;> rfl

theorem placeRead_setLink (i : Nat) :
    placeRead i (s.setLink l v) = (placeRead i s).setLink l v := by cases l <;> rfl

theorem setRunning_setLink (r : Running) :
    setRunning r (s.setLink l v) = (setRunning r s).setLink l v := by cases l <;> rfl

theorem grantRequest_setLink (r : Requester) :
    grantRequest r (s.setLink l v) = (grantRequest r s).setLink l v := by
  unfold grantRequest
  dsimp only
  rw [setLink_store]
  cases r with
  | linkA => cases s.store.waiting.linkA <;> cases l <;> rfl
  | linkB => cases s.store.waiting.linkB <;> cases l <;> rfl
  | service => rcases s.store.waiting.service with _ | ⟨_ | _⟩ <;> cases l <;> rfl
  | composer => cases s.store.waiting.composer <;> cases l <;> rfl
  | driftSave => cases s.store.waiting.driftSave <;> cases l <;> rfl

theorem settleStore_setLink : settleStore (s.setLink l v) = (settleStore s).setLink l v := by
  unfold settleStore
  rw [winningPhase_setLink, setLink_store]
  split_ifs
  · cases s.winningPhase with
    | none => rfl
    | some p => exact (congrArg _ (setStore_setLink l v s _)).trans (grantRequest_setLink l v _ _)
  · rfl

theorem requestBlock_setLink (f : Filling) :
    requestBlock f (s.setLink l v) = (requestBlock f s).setLink l v := by
  have hn : (s.setLink l v).nextBlock f = s.nextBlock f := by cases l <;> rfl
  unfold requestBlock
  rw [hn]
  cases s.nextBlock f with
  | none => rfl
  | some i => exact placeRead_setLink l v s i

theorem takeZone_setLink : takeZone (s.setLink l v) = (takeZone s).setLink l v := by
  have hz : (s.setLink l v).lowestZone = s.lowestZone := by cases l <;> rfl
  have hf : ∀ z, (s.setLink l v).fillingFor z = s.fillingFor z := by cases l <;> exact fun _ => rfl
  unfold takeZone
  rw [hz, setLink_composer]
  cases s.lowestZone with
  | none => rfl
  | some z =>
    dsimp only
    rw [hf, setComposer_setLink]
    exact requestBlock_setLink l v _ _

theorem startJob_setLink (k : JobKind) :
    startJob k (s.setLink l v) = (startJob k s).setLink l v := by
  cases k with
  | gain => cases l <;> rfl
  | thermal => cases l <;> rfl
  | build =>
    unfold startJob
    dsimp only
    rw [setLink_composer, setRunning_setLink]
    exact takeZone_setLink l v _
  | scrub => cases l <;> rfl

theorem resumeTop_setLink (e : Suspended) (rest : List Suspended) :
    resumeTop e rest (s.setLink l v) = (resumeTop e rest s).setLink l v := by cases l <;> rfl

theorem takeDecision_setLink :
    takeDecision (s.setLink l v) = (takeDecision s).setLink l v := by
  unfold takeDecision
  rw [setLink_composer]
  cases s.composer.stack with
  | nil =>
    cases s.composer.chosen with
    | none => rfl
    | some k => exact startJob_setLink l v s k
  | cons e rest =>
    cases s.composer.chosen with
    | none => exact resumeTop_setLink l v s e rest
    | some k =>
      dsimp only
      split_ifs
      · exact startJob_setLink l v s k
      · exact resumeTop_setLink l v s e rest

theorem decideAtPoint_setLink (level left : Nat) :
    decideAtPoint level left (s.setLink l v) = (decideAtPoint level left s).setLink l v := by
  have hp : pushScrub level left (s.setLink l v) = (pushScrub level left s).setLink l v := by
    cases l <;> rfl
  unfold decideAtPoint
  rw [setLink_composer, setLink_store, setRunning_setLink, placeRead_setLink, hp]
  cases s.composer.chosen with
  | none => rfl
  | some k =>
    dsimp only
    split_ifs
    · exact startJob_setLink l v _ k
    · rfl

theorem settleComposer_setLink :
    settleComposer (s.setLink l v) = (settleComposer s).setLink l v := by
  unfold settleComposer
  rw [composerStopped_setLink, setLink_composer, takeDecision_setLink]
  split_ifs
  · rfl
  · split
    · rfl
    · exact decideAtPoint_setLink l v s _ _
    · rfl

theorem settleWork_setLink : settleWork (s.setLink l v) = (settleWork s).setLink l v := by
  rw [settleWork, settleComposer_setLink, settleStore_setLink, settleWork]

end SetLink

/-! ## REBUILD -/

/-- A REBUILD of good form on its way: its request and its row. -/
theorem rebuild_answers {v : Via (List Byte)} {zones : List Byte} {s : State} {ps : List Part}
    (hl : zones.length ≤ 255) (h : Asks v kindRebuild rebuildBody zones s)
    (hk : KeepsBut ps (handledAt v s)
      (actedAt v (.rebuild (zones.map BitVec.toNat)) s).state)
    (hps : .authority ∉ ps ∧ .chip ∉ ps ∧ answerPart v ∉ ps) :
    Leads (.rebuild v) s fun t =>
      AnsweredWith v kindRebuild false (actedAt v (.rebuild (zones.map BitVec.toNat)) s).result
          (actedAt v (.rebuild (zones.map BitVec.toNat)) s).content id s t ∧
        KeepsBut [answerPart v] (actedAt v (.rebuild (zones.map BitVec.toNat)) s).state t :=
  .intro rfl (requestStep_answers h ((parseRequest_rebuild _).trans (parseRebuild_body hl)) rfl rfl
    hk hps)

/-- The members named and those that were there. -/
theorem joinBuild_eq (zones : List Byte) (s : State) :
    joinBuild (zones.map BitVec.toNat) s =
      s.setComposer
        { s.composer with
          buildSet := (List.range 16).filter fun z =>
            decide (z ∈ s.composer.buildSet ∨ z ∈ zones.map BitVec.toNat) } := by
  refine congrArg (fun b => s.setComposer { s.composer with buildSet := b })
    (List.filter_congr fun z _ => ?_)
  rw [Bool.decide_or, Bool.or_comm, List.contains_eq_mem, List.contains_eq_mem]

theorem performRebuild_bad {zones : List Byte} (h : zones = [] ∨ ∃ z ∈ zones, 15 < z.toNat)
    (s : State) :
    performRebuild (zones.map BitVec.toNat) s = acted .refusedBad s := by
  refine if_pos ?_
  simpa [List.isEmpty_iff] using h

theorem performRebuild_good {zones : List Byte} (hn : zones ≠ [])
    (hz : ∀ z ∈ zones, z.toNat ≤ 15) (s : State) :
    performRebuild (zones.map BitVec.toNat) s =
      acted .done (settleWork (joinBuild (zones.map BitVec.toNat) s)) := by
  refine if_neg ?_
  simpa [List.isEmpty_iff, hn] using hz

/-- Where the owner acts, the work of a step differs from the same work at the step's beginning in
the answer's part alone. -/
theorem settleWork_joinBuild_handledAt (v : Via (List Byte)) (zs : List Nat) (s : State) :
    KeepsBut [answerPart v] (settleWork (joinBuild zs s))
      (settleWork (joinBuild zs (handledAt v s))) := by
  cases v with
  | port l =>
    have hj : ∀ w, joinBuild zs (s.setLink l w) = (joinBuild zs s).setLink l w := fun w => by
      cases l <;> rfl
    unfold handledAt beginPrompt
    dsimp only
    rw [hj, settleWork_setLink]
    exact setLink_keepsBut l _ _
  | tool tag b => exact KeepsBut.refl _ _

/-- In a steady state with a busy composer nothing follows a change of the build set. -/
theorem settleWork_joinBuild_of_busy {s : State} (hs : Steady s) (hb : Busy s) (zs : List Nat) :
    settleWork (joinBuild zs s) = joinBuild zs s := by
  have hbusy : Busy (joinBuild zs s) := hb
  have hstore : (joinBuild zs s).store.port ≠ .free ∨ ∀ r, ¬Seeks (joinBuild zs s) r :=
    hs.2.2.2.imp_right fun h r hr => h r (hr.congr rfl rfl rfl)
  rw [settleWork, settleComposer_of_busy hbusy, settleStore_of_no_seeks hstore]

/-- Settles O26: the refusal by the zones named; otherwise the join, and the same work behind it as
from the step's own state. -/
theorem rebuildJoinsItsZones : Obligations.RebuildJoinsItsZones := by
  intro v zones s hl h
  have hstate : (actedAt v (.rebuild (zones.map BitVec.toNat)) s) =
      performRebuild (zones.map BitVec.toNat) (handledAt v s) := rfl
  refine ⟨fun hbad => ?_, fun hn hz => ?_⟩
  · rw [performRebuild_bad hbad] at hstate
    have hk := rebuild_answers (ps := []) hl h (by rw [hstate]; exact KeepsBut.refl _ _) (by simp)
    rw [hstate] at hk
    exact hk.mono fun t ⟨ha, hkeep⟩ => ⟨ha, (handledAt_keeps v s).trans hkeep⟩
  · rw [performRebuild_good hn hz] at hstate
    have hk := rebuild_answers (ps := [.composer, .store, .driver, .thermal, .wear]) hl h
      (by
        rw [hstate]
        exact settleWork_keeps (joinBuild_keeps _ (KeepsBut.refl _ _) (by simp)) (by simp))
      ⟨by decide, by decide, answerPart_notMem v (by decide)⟩
    rw [hstate] at hk
    refine hk.mono fun t ⟨ha, hkeep⟩ => ⟨settleWork (joinBuild (zones.map BitVec.toNat) s), ?_, ha,
      (settleWork_joinBuild_handledAt v _ s).trans hkeep⟩
    exact WorkedFrom.intro (joinBuild_eq zones s) fun hs hb => by
      rw [settleWork_joinBuild_of_busy hs hb, joinBuild_eq]

end Sys2Proof.Machine
end

section
/-! The bytes of an answer (R189): fields at their offsets, one field behind another. -/

namespace Sys2Proof.Machine

/-! ## Lengths of the forms -/

@[simp] theorem length_putU8 (v : Nat) : (putU8 v).length = 1 := length_leBytes 1 v
@[simp] theorem length_putU16 (v : Nat) : (putU16 v).length = 2 := length_leBytes 2 v
@[simp] theorem length_putU32 (v : Nat) : (putU32 v).length = 4 := length_leBytes 4 v
@[simp] theorem length_putU48 (v : Nat) : (putU48 v).length = 6 := length_leBytes 6 v
@[simp] theorem length_putS8 (v : Int) : (putS8 v).length = 1 := length_leBytes 1 _
@[simp] theorem length_putS16 (v : Int) : (putS16 v).length = 2 := length_leBytes 2 _
@[simp] theorem length_putS32 (v : Int) : (putS32 v).length = 4 := length_leBytes 4 _
@[simp] theorem length_putFlag (b : Bool) : (putFlag b).length = 1 := length_putU8 _

@[simp] theorem length_putEmitter (e : Emitter) : (putEmitter e).length = 1 := length_putU8 _

/-- An optional field takes the same room with and without its value. -/
theorem length_putOption {α : Type} {n : Nat} {f : α → List Byte} (hf : ∀ v, (f v).length = n)
    (o : Option α) : (putOption n f o).length = n + 1 := by
  cases o with
  | none => rw [putOption, List.length_append, length_putU8, List.length_replicate, Nat.add_comm]
  | some v => rw [putOption, List.length_append, length_putU8, hf, Nat.add_comm]

theorem length_putRgb {α : Type} {n : Nat} {f : α → List Byte} (hf : ∀ v, (f v).length = n)
    (t : Rgb α) : (putRgb f t).length = 3 * n := by
  simp only [putRgb, List.length_append, hf]
  omega

theorem length_putEach {α : Type} {n : Nat} {f : α → List Byte} {l : List α}
    (hf : ∀ v ∈ l, (f v).length = n) : (putEach f l).length = n * l.length := by
  unfold putEach
  induction l with
  | nil => rfl
  | cons v l ih =>
    obtain ⟨hv, hl⟩ := List.forall_mem_cons.mp hf
    rw [List.map_cons, List.flatten_cons, List.length_append, hv, ih hl, List.length_cons,
      Nat.mul_succ, Nat.add_comm]

@[simp] theorem length_putRecord (r : WallRecord) : (putRecord r).length = 24 := by
  simp [putRecord, putMat, putRow]

/-! ## Fields -/

section FieldAt

variable {bs cs f g : List Byte} {off : Nat}

theorem fieldAt_iff : FieldAt bs off f ↔ f <+: bs.drop off := by
  rw [FieldAt, slice, List.prefix_iff_eq_take]
  exact eq_comm

/-- A field stays where it is when more bytes follow. -/
theorem FieldAt.append (h : FieldAt bs off f) (cs : List Byte) : FieldAt (bs ++ cs) off f := by
  rw [fieldAt_iff, List.drop_append] at *
  exact h.trans (List.prefix_append _ _)

/-- Bytes before a field shift it. -/
theorem fieldAt_skip (h : bs.length ≤ off) :
    FieldAt (bs ++ cs) off f ↔ FieldAt cs (off - bs.length) f := by
  rw [fieldAt_iff, fieldAt_iff, List.drop_append, List.drop_eq_nil_of_le h, List.nil_append]

/-- The same where the offset is a sum. -/
theorem fieldAt_behind {n : Nat} (h : bs.length = n) :
    FieldAt (bs ++ cs) (n + off) f ↔ FieldAt cs off f := by
  rw [fieldAt_skip (by omega), h, Nat.add_sub_cancel_left]

theorem fieldAt_start (f bs : List Byte) : FieldAt (f ++ bs) 0 f :=
  fieldAt_iff.mpr (List.prefix_append _ _)

theorem fieldAt_whole (f : List Byte) : FieldAt f 0 f := fieldAt_iff.mpr List.prefix_rfl

/-- A field that begins with what the bytes begin with. -/
theorem fieldAt_cons : FieldAt (f ++ bs) 0 (f ++ g) ↔ FieldAt bs 0 g := by
  rw [fieldAt_iff, fieldAt_iff, List.drop_zero, List.drop_zero, List.prefix_append_right_inj]

/-- A field of a field. -/
theorem FieldAt.field (h : FieldAt bs off f) {n : Nat} (hn : n ≤ f.length) (k : FieldAt f n g) :
    FieldAt bs (off + n) g := by
  rw [fieldAt_iff] at *
  obtain ⟨rest, hr⟩ := h
  rw [← List.drop_drop, ← hr, List.drop_append_of_le_length hn]
  exact k.trans (List.prefix_append _ _)

/-- The entry of a list whose entries take `n` bytes each. -/
theorem fieldAt_putEach {α : Type} {n : Nat} {put : α → List Byte} {l : List α}
    (hput : ∀ v ∈ l, (put v).length = n) {i : Nat} {v : α} (hv : l[i]? = some v) :
    FieldAt (putEach put l) (n * i) (put v) := by
  unfold putEach
  induction l generalizing i with
  | nil => cases hv
  | cons w l ih =>
    obtain ⟨hw, hl⟩ := List.forall_mem_cons.mp hput
    rw [List.map_cons, List.flatten_cons]
    cases i with
    | zero =>
      cases hv
      exact fieldAt_start _ _
    | succ i =>
      rw [Nat.mul_succ, Nat.add_comm, fieldAt_behind hw]
      exact ih hl (by simpa using hv)

/-- The field of one emitter. -/
theorem fieldAt_putRgb {α : Type} {n : Nat} {put : α → List Byte} (hput : ∀ v, (put v).length = n)
    (t : Rgb α) (e : Emitter) :
    FieldAt (putRgb put t) (n * Emitter.index e) (put (Rgb.get t e)) := by
  have he : putRgb put t = putEach put [t.r, t.g, t.b] := by
    simp [putRgb, putEach]
  rw [he]
  refine fieldAt_putEach (fun v _ => hput v) ?_
  cases e <;> rfl

end FieldAt

end Sys2Proof.Machine
end

section
/-! The QUERYs (R37 to R187): the owner's content from the state as it is handled, and the layouts
of the contents. -/

namespace Sys2Proof.Machine

/-! ## The one answer of a QUERY -/

/-- A QUERY is answered with its owner's content and changes nothing else: what is left to say of a
row is where the fields of the content are. -/
theorem queryAnswers {row : Via Unit → Instr} {n : Byte} {q : Subject}
    {Fields : State → List Byte → Prop}
    (hrow : ∀ v s, exec (row v) s = .next (queryStep q v s))
    (hparse : parseQuery [n] = some (.query q)) (hf : ∀ u, Fields u (u.content q)) :
    QueryAnswers row n q Fields := by
  intro v s h
  have hk : KeepsBut [] (handledAt v s) (actedAt v (.query q) s).state := KeepsBut.refl _ _
  obtain ⟨ha, hkeep⟩ := requestStep_answers (mine := (· == .query q))
    (req := fun _ => some (.query q)) h ((parseRequest_query _).trans hparse) rfl
    (beq_self_eq_true _) hk (by simp)
  exact ⟨hf _, .intro (hrow v s) ⟨ha, (handledAt_keeps v s).trans hkeep⟩⟩

/-! ## The layouts -/

section Layouts

variable (u : State)

/-- R37. -/
theorem readZones_fields :
    u.readZones.length = 6 * u.render.zones.length ∧
      ∀ (i : Nat) (z : ZoneStatus), u.render.zones[i]? = some z →
        FieldAt u.readZones (6 * i)
          (putFlag z.built ++ putU16 z.generation ++ putU16 z.saturated ++
            putU8 z.fallbackBlocks) :=
  ⟨length_putEach fun _ _ => by simp, fun _ _ hz => fieldAt_putEach (fun _ _ => by simp) hz⟩

/-- R1, R176: the straps give at most 256 blocks. -/
theorem blockCount_le : u.blockCount ≤ 256 := by
  have hw := u.chip.straps.width.isLt
  have hh := u.chip.straps.height.isLt
  unfold State.blockCount State.width State.height
  calc 32 * (u.chip.straps.width.val + 1) / 8 * (32 * (u.chip.straps.height.val + 1) / 8)
      ≤ 16 * 16 := Nat.mul_le_mul (by omega) (by omega)
    _ = 256 := rfl

theorem length_blocksInUse (h : u.store.blockStates.length = 256) :
    u.blocksInUse.length = u.blockCount := by
  rw [State.blocksInUse, List.length_take, h, Nat.min_eq_left (blockCount_le u)]

theorem getElem?_blocksInUse (h : u.store.blockStates.length = 256) {i : Nat}
    (hi : i < u.blockCount) : u.blocksInUse[i]? = some (u.blockState i) := by
  have hl : i < u.store.blockStates.length := by have := blockCount_le u; omega
  rw [State.blocksInUse, List.getElem?_take_of_lt hi, State.blockState, List.getD_eq_getElem?_getD,
    List.getElem?_eq_getElem hl, Option.getD_some]

/-- The blocks in use as their states by index. -/
theorem blocksInUse_eq (h : u.store.blockStates.length = 256) :
    u.blocksInUse = (List.range u.blockCount).map u.blockState := by
  refine List.ext_getElem? fun i => ?_
  by_cases hi : i < u.blockCount
  · rw [getElem?_blocksInUse u h hi, List.getElem?_map, List.getElem?_range hi, Option.map_some]
  · rw [List.getElem?_eq_none (by rw [length_blocksInUse u h]; omega),
      List.getElem?_eq_none (by simp; omega)]

theorem countBlocks_eq (h : u.store.blockStates.length = 256) (b : BlockState) :
    u.countBlocks b =
      ((List.range u.blockCount).filter fun i => decide (u.blockState i = b)).length := by
  rw [State.countBlocks, blocksInUse_eq u h, List.filter_map, List.length_map]
  rfl

/-- R57. -/
theorem readStore_fields (h : u.store.blockStates.length = 256)
    (hs : u.store.constants.serial.length = 8) :
    let n := u.blockCount
    let held (b : BlockState) : List Byte :=
      putU16 ((List.range n).filter fun i => decide (u.blockState i = b)).length
    FieldAt u.readStore 0 (putU16 n) ∧
      (∀ i < n, FieldAt u.readStore (2 + i) (putU8 (u.blockState i).code)) ∧
      FieldAt u.readStore (2 + n)
        (held .blank ++ held .valid ++ held .invalid ++ held .programming) ∧
      FieldAt u.readStore (10 + n)
        (putFlag u.store.identityValid ++ putFlag (!u.store.identityValid) ++
          u.store.constants.serial) ∧
      FieldAt u.readStore (20 + n)
        (putFlag u.store.driftValid ++ putFlag u.store.driftReset ++
          putU16 u.store.scrubPointer ++ putU16 u.store.programFailures ++
          putU16 u.store.scrubFailures ++ putU16 u.store.saveFailures) := by
  intro n held
  have hput : ∀ b ∈ u.blocksInUse, (putU8 (BlockState.code b)).length = 1 := fun _ _ =>
    length_putU8 _
  have hlen : (putEach (fun b : BlockState => putU8 b.code) u.blocksInUse).length = n := by
    rw [length_putEach hput, length_blocksInUse u h, Nat.one_mul]
  have hread : ∃ rest, u.readStore = putU16 n ++
      (putEach (fun b => putU8 b.code) u.blocksInUse ++
        (held .blank ++ held .valid ++ held .invalid ++ held .programming ++
          (putFlag u.store.identityValid ++ putFlag (!u.store.identityValid) ++
            u.store.constants.serial ++
            (putFlag u.store.driftValid ++ putFlag u.store.driftReset ++
              putU16 u.store.scrubPointer ++ putU16 u.store.programFailures ++
              putU16 u.store.scrubFailures ++ putU16 u.store.saveFailures ++ rest)))) := by
    refine ⟨putU8 u.store.waiting.mask ++
      putOption 2 (fun g : Grant => putU8 (Requester.code g.codes.1) ++ putU8 g.codes.2)
        u.store.port.grant, ?_⟩
    simp only [State.readStore, length_blocksInUse u h, countBlocks_eq u h, List.append_assoc, n,
      held]
  obtain ⟨rest, hread⟩ := hread
  rw [hread]
  have hheld : ∀ b, (held b).length = 2 := fun b => length_putU16 _
  have h10 : 10 + n = 2 + (n + 8) := by omega
  have h20 : 20 + n = 2 + (n + (8 + 10)) := by omega
  refine ⟨fieldAt_start _ _, fun i hi => ?_, ?_, ?_, ?_⟩
  · rw [fieldAt_behind (length_putU16 _)]
    have hi' := fieldAt_putEach hput (getElem?_blocksInUse u h hi)
    rw [Nat.one_mul] at hi'
    exact hi'.append _
  · rw [fieldAt_behind (length_putU16 _), ← Nat.add_zero n, fieldAt_behind hlen]
    exact fieldAt_start _ _
  · rw [h10, fieldAt_behind (length_putU16 _), fieldAt_behind hlen, ← Nat.add_zero 8,
      fieldAt_behind (by simp [hheld])]
    exact fieldAt_start _ _
  · rw [h20, fieldAt_behind (length_putU16 _), fieldAt_behind hlen,
      fieldAt_behind (by simp [hheld]), ← Nat.add_zero 10, fieldAt_behind (by simp [hs])]
    exact fieldAt_start _ _

/-- R71. -/
theorem readThermal_fields :
    (∀ z < 16, ∀ t, u.thermal.temps[z]? = some t → ∀ m, u.thermal.meanLoad[z]? = some m →
      FieldAt u.readThermal (4 * z) (putS16 t ++ putU16 m)) ∧
    (∀ z < 16,
      FieldAt u.readThermal (64 + 3 * z) (putS16 (u.sensed z).1 ++ putU8 (u.sensed z).2.code)) ∧
    FieldAt u.readThermal 112 (putU8 u.thermal.ticks) ∧
    (u.thermal.round = none → FieldAt u.readThermal 113 [0, 0, 0]) ∧
    FieldAt u.readThermal 116
      (putS32 u.settings.thermalInterval ++ putS32 u.settings.rho ++ putS32 u.settings.k ++
        putS32 u.settings.assumedAmbient) := by
  have hzone : ∀ z < 16, zoneIndices[z]? = some z := fun z hz => List.getElem?_range hz
  have hround : ∀ r, (putRound r).length = 2 := fun r => by simp [putRound]
  have hsettings : ∀ a b c d : Int, putSettings [a, b, c, d] = putS32 a ++ putS32 b ++ putS32 c ++
    putS32 d := fun a b c d => by simp [putSettings, putSetting, putEach]
  have htemps : (putEach (fun z => putS16 (u.thermal.temps.getD z 400) ++
      putU16 (u.thermal.meanLoad.getD z 0)) zoneIndices).length = 64 := length_putEach (n := 4)
    fun _ _ => by simp
  have hsensed : (putEach (fun z => putS16 (u.sensed z).1 ++ putU8 (u.sensed z).2.code)
      zoneIndices).length = 48 := length_putEach (n := 3) fun _ _ => by simp
  unfold State.readThermal
  rw [hsettings]
  simp only [List.append_assoc]
  refine ⟨fun z hz t ht m hm => ?_, fun z hz => ?_, ?_, fun hn => ?_, ?_⟩
  · refine FieldAt.append ?_ _
    have hz' := fieldAt_putEach (n := 4) (put := fun z => putS16 (u.thermal.temps.getD z 400) ++
      putU16 (u.thermal.meanLoad.getD z 0)) (fun _ _ => by simp) (hzone z hz)
    simpa only [List.getD_eq_getElem?_getD, ht, hm, Option.getD_some] using hz'
  · rw [fieldAt_behind htemps]
    exact (fieldAt_putEach (n := 3) (fun _ _ => by simp) (hzone z hz)).append _
  · exact (fieldAt_behind (off := 48) htemps).mpr
      ((fieldAt_behind (off := 0) hsensed).mpr (fieldAt_start _ _))
  · refine (fieldAt_behind (off := 49) htemps).mpr ((fieldAt_behind (off := 1) hsensed).mpr
      ((fieldAt_behind (off := 0) (length_putU8 _)).mpr ?_))
    rw [hn]
    exact fieldAt_start _ _
  · exact (fieldAt_behind (off := 52) htemps).mpr ((fieldAt_behind (off := 4) hsensed).mpr
      ((fieldAt_behind (off := 3) (length_putU8 _)).mpr
        ((fieldAt_behind (off := 0) (length_putOption hround _)).mpr (fieldAt_whole _))))

/-- R88: a counter's field, in a list of counters sent emitter by emitter. -/
theorem fieldAt_counters {n : Nat} {put : Nat → List Byte} (hput : ∀ v, (put v).length = n)
    {counters : List (Rgb Nat)} {z : Nat} {w : Rgb Nat} (hw : counters[z]? = some w)
    (e : Emitter) :
    FieldAt (putEach (putRgb put) counters) (3 * n * z + n * Emitter.index e)
      (put (Rgb.get w e)) := by
  refine (fieldAt_putEach (fun v _ => length_putRgb hput v) hw).field ?_ (fieldAt_putRgb hput w e)
  rw [length_putRgb hput, Nat.mul_comm 3]
  exact Nat.mul_le_mul_left n (by cases e <;> decide)

theorem length_pilotState_bytes (p : PilotState) : p.bytes.length = 2 := by
  cases p <;> simp [PilotState.bytes]

/-- R88: the 51 counters, zone by zone and the pilot's. -/
def State.wearCounters (s : State) : List (Rgb Nat) := s.wear.zones ++ [s.wear.pilot]

/-- R88: what the answer holds behind the counters. -/
def State.wearBehind (s : State) : List Byte :=
  putU32 s.wear.kappa.r ++ (putS8 s.wear.trim.r ++ (putU32 s.wear.kappa.g ++
    (putS8 s.wear.trim.g ++ (putU32 s.wear.kappa.b ++ (putS8 s.wear.trim.b ++
      (s.wear.state.bytes ++ (putOption 1 putEmitter s.wear.staleRead ++
        (putU16 s.wear.misses ++ (putU16 s.wear.sequences ++
          (putU8 s.wear.results.r.code ++ (putU32 s.wear.ratios.r ++
            (putU8 s.wear.results.g.code ++ (putU32 s.wear.ratios.g ++
              (putU8 s.wear.results.b.code ++ (putU32 s.wear.ratios.b ++
                (putEach (fun m : ClearMark => putU8 m.code) s.wear.clearMarks ++
                  putSettings [s.settings.pilotInterval, s.settings.driftSaveInterval]
                  ))))))))))))))))

theorem readWear_eq :
    u.readWear = putEach (putRgb putU48) u.wearCounters ++
      (putEach (putRgb fun c => putU32 (wearHours c)) u.wearCounters ++ u.wearBehind) := by
  unfold State.readWear State.wearCounters State.wearBehind
  dsimp only
  simp only [List.append_assoc]

theorem getElem?_wearCounters_zone {z : Nat} {w : Rgb Nat} (hw : u.wear.zones[z]? = some w) :
    u.wearCounters[z]? = some w := by
  obtain ⟨hz, -⟩ := List.getElem?_eq_some_iff.mp hw
  rw [State.wearCounters, List.getElem?_append_left hz, hw]

section Wear

variable {u} (h : u.wear.zones.length = 16)
include h

theorem length_wearCounters : u.wearCounters.length = 17 := by simp [State.wearCounters, h]

theorem length_fullCounters : (putEach (putRgb putU48) u.wearCounters).length = 306 := by
  rw [length_putEach (n := 18) fun v _ => length_putRgb (n := 6) length_putU48 v,
    length_wearCounters h]

theorem length_hourCounters :
    (putEach (putRgb fun c => putU32 (wearHours c)) u.wearCounters).length = 204 := by
  rw [length_putEach (n := 12) fun v _ => length_putRgb (n := 4) (fun _ => length_putU32 _) v,
    length_wearCounters h]

theorem getElem?_wearCounters_pilot : u.wearCounters[16]? = some u.wear.pilot := by
  rw [State.wearCounters, List.getElem?_append_right h.le, h]
  rfl

/-- A counter in full, and its sixteenths of an hour. -/
theorem readWear_counter {z : Nat} {w : Rgb Nat} (hw : u.wearCounters[z]? = some w)
    (e : Emitter) :
    FieldAt u.readWear (18 * z + 6 * Emitter.index e) (putU48 (Rgb.get w e)) ∧
      FieldAt u.readWear (306 + 12 * z + 4 * Emitter.index e)
        (putU32 (Rgb.get w e / 921600000)) := by
  rw [readWear_eq, Nat.add_assoc 306, fieldAt_behind (length_fullCounters h)]
  exact ⟨(fieldAt_counters length_putU48 hw e).append _,
    (fieldAt_counters (fun c => length_putU32 (wearHours c)) hw e).append _⟩

theorem readWear_behind {off : Nat} {f : List Byte} :
    FieldAt u.readWear (510 + off) f ↔ FieldAt u.wearBehind off f := by
  rw [readWear_eq, show 510 + off = 306 + (204 + off) by omega,
    fieldAt_behind (length_fullCounters h), fieldAt_behind (length_hourCounters h)]

/-- R88. -/
theorem readWear_fields :
    (∀ (z : Nat) (w : Rgb Nat), u.wear.zones[z]? = some w → ∀ e,
      FieldAt u.readWear (18 * z + 6 * Emitter.index e) (putU48 (Rgb.get w e)) ∧
      FieldAt u.readWear (306 + 12 * z + 4 * Emitter.index e)
        (putU32 (Rgb.get w e / 921600000))) ∧
    ∀ e,
      FieldAt u.readWear (288 + 6 * Emitter.index e) (putU48 (Rgb.get u.wear.pilot e)) ∧
      FieldAt u.readWear (498 + 4 * Emitter.index e)
        (putU32 (Rgb.get u.wear.pilot e / 921600000)) ∧
      FieldAt u.readWear (510 + 5 * Emitter.index e)
        (putU32 (Rgb.get u.wear.kappa e) ++ putS8 (Rgb.get u.wear.trim e)) ∧
      FieldAt u.readWear 529 (putU16 u.wear.misses ++ putU16 u.wear.sequences) ∧
      FieldAt u.readWear (533 + 5 * Emitter.index e)
        (putU8 (Rgb.get u.wear.results e).code ++ putU32 (Rgb.get u.wear.ratios e)) := by
  have hstale := length_putOption length_putEmitter u.wear.staleRead
  have hstate := length_pilotState_bytes u.wear.state
  refine ⟨fun z w hw e => readWear_counter h (getElem?_wearCounters_zone u hw) e, fun e => ?_⟩
  obtain ⟨hfull, hhours⟩ := readWear_counter h (getElem?_wearCounters_pilot h) e
  refine ⟨hfull, hhours, (readWear_behind h).mpr ?_, (readWear_behind h (off := 19)).mpr ?_, ?_⟩
  · unfold State.wearBehind
    cases e <;> simp [fieldAt_skip, fieldAt_cons, fieldAt_start, Emitter.index, Rgb.get]
  · unfold State.wearBehind
    simp [fieldAt_skip, fieldAt_cons, fieldAt_start, hstate, hstale]
  · rw [show 533 + 5 * Emitter.index e = 510 + (23 + 5 * Emitter.index e) by omega,
      readWear_behind h]
    unfold State.wearBehind
    cases e <;> simp [fieldAt_skip, fieldAt_cons, fieldAt_start, Emitter.index, Rgb.get, hstate,
      hstale]

end Wear

/-- R104. -/
theorem readGain_fields :
    (∀ (i : Nat) (z : ZoneGain), u.gain.zones[i]? = some z →
      FieldAt u.readGain (19 * i)
        (putU32 z.capacity ++ putU8 (Emitter.index z.limiting) ++ putFlag z.short ++
          putFlag z.capped ++ putU32 z.efficiency.r ++ putU32 z.efficiency.g ++
          putU32 z.efficiency.b)) ∧
    (u.gain.zones.length = 16 →
      FieldAt u.readGain 304
        (putU32 u.gain.tileCapacity ++ putU8 u.gain.weakest ++ putU8 u.gain.shortCount ++
          putU8 u.gain.cappedCount ++ putU32 u.gain.ceilingUsed ++
          putU32 u.authority.record.ceiling) ∧
      ∀ (i : Nat) (f : Rgb Nat), u.render.applied[i]? = some f →
        FieldAt u.readGain (319 + 12 * i) (putU32 f.r ++ putU32 f.g ++ putU32 f.b)) := by
  have hzone : ∀ z : ZoneGain, (putU32 z.capacity ++ putEmitter z.limiting ++ putFlag z.short ++
      putFlag z.capped ++ putRgb putU32 z.efficiency).length = 19 := fun z => by simp [putRgb]
  unfold State.readGain
  simp only [List.append_assoc]
  refine ⟨fun i z hz => ?_, fun h => ⟨?_, fun i f hf => ?_⟩⟩
  · have hfield := fieldAt_putEach (fun v _ => hzone v) hz
    simp only [putRgb, List.append_assoc] at hfield
    exact hfield.append _
  · have hlen := length_putEach fun z (_ : z ∈ u.gain.zones) => hzone z
    rw [h] at hlen
    simp only [List.append_assoc] at hlen
    refine (fieldAt_behind (off := 0) hlen).mpr ?_
    simp only [fieldAt_cons, fieldAt_start]
  · have hlen := length_putEach fun z (_ : z ∈ u.gain.zones) => hzone z
    rw [h] at hlen
    simp only [List.append_assoc] at hlen
    rw [show 319 + 12 * i = 304 + (4 + (1 + (1 + (1 + (4 + (4 + 12 * i)))))) by omega,
      fieldAt_behind hlen, fieldAt_behind (length_putU32 _), fieldAt_behind (length_putU8 _),
      fieldAt_behind (length_putU8 _), fieldAt_behind (length_putU8 _),
      fieldAt_behind (length_putU32 _), fieldAt_behind (length_putU32 _)]
    have hfield := fieldAt_putEach (n := 12) (put := putRgb putU32)
      (fun v _ => length_putRgb (n := 4) length_putU32 v) hf
    simp only [putRgb, List.append_assoc] at hfield
    exact hfield.append _

/-- R120. -/
theorem readComposer_fields :
    FieldAt u.readComposer 0
      (putU8 u.composer.levels.gain ++ putU8 u.composer.levels.thermal ++
        putU8 u.composer.levels.build ++ putU8 u.composer.levels.scrub) ∧
    FieldAt u.readComposer 4
      (putFlag u.composer.gainPending ++ putFlag u.composer.thermalPending ++
        putFlag u.composer.scrubPending ++
        putFlag (!u.composer.buildSet.isEmpty && !u.composer.runs .build &&
          !u.composer.parked && !u.composer.stacked .build)) ∧
    (u.composer.running = none → FieldAt u.readComposer 8 [0, 0, 0]) ∧
    (∀ r, u.composer.running = some r →
      FieldAt u.readComposer 8 (1 :: (putU8 (JobKind.code r.work.kind) ++ putU8 r.level))) ∧
    FieldAt u.readComposer 11 (putFlag u.composer.parked) := by
  have hrunning := length_putOption (n := 2)
    (f := fun r : Running => putU8 (JobKind.code r.work.kind) ++ putU8 r.level) (fun _ => by simp)
    u.composer.running
  unfold State.readComposer
  simp only [List.append_assoc]
  refine ⟨?_, ?_, fun hr => ?_, fun r hr => ?_, ?_⟩
  · simp only [fieldAt_cons, fieldAt_start]
  · simp [fieldAt_skip, fieldAt_cons, fieldAt_start, Composer.buildPending]
  · rw [hr]
    simp only [fieldAt_skip, length_putU8, length_putFlag, Nat.reduceLeDiff, Nat.reduceSub]
    exact fieldAt_start _ _
  · rw [hr]
    simp only [fieldAt_skip, length_putU8, length_putFlag, Nat.reduceLeDiff, Nat.reduceSub]
    exact fieldAt_start _ _
  · simp [fieldAt_skip, fieldAt_start, hrunning]

/-- R131. -/
theorem readSensors_fields :
    (∀ q < 4, FieldAt u.readSensors (6 * q)
      (putU8 (u.tempHealth q).code ++ putU8 (u.tempRecord q).misses ++
        (match (u.tempRecord q).reading with
         | none => [0, 0, 0]
         | some v => 1 :: putS16 v) ++ putFlag (decide (q ∈ u.settings.sensorMap)))) ∧
    FieldAt u.readSensors 24
      (putU8 u.sensors.light.health.code ++ putU8 u.sensors.light.misses) ∧
    ∀ (i : Nat) (k : SensorCounts), u.sensors.counts[i]? = some k →
      FieldAt u.readSensors (35 + 6 * i) (putU16 k.good ++ putU16 k.bad ++ putU16 k.missed) := by
  have hquadrant : ∀ q, (putU8 (u.tempHealth q).code ++ putU8 (u.tempRecord q).misses ++
      putOption 2 putS16 (u.tempRecord q).reading ++
        putFlag (u.settings.sensorMap.contains q)).length = 6 := fun q => by
    simp [length_putOption length_putS16]
  have hquadrants := (length_putEach fun q (_ : q ∈ List.range 4) => hquadrant q).trans
    (show 6 * (List.range 4).length = 24 from rfl)
  have hlight := length_putRgb (length_putOption length_putU16) u.sensors.light.readings
  unfold State.readSensors
  dsimp only
  simp only [List.append_assoc] at hquadrants ⊢
  refine ⟨fun q hq => ?_, ?_, fun i k hk => ?_⟩
  · have hfield := fieldAt_putEach (fun q _ => hquadrant q) (List.getElem?_range hq)
    simp only [List.append_assoc, List.contains_eq_mem] at hfield ⊢
    refine FieldAt.append ?_ _
    cases hr : (u.tempRecord q).reading <;> rw [hr] at hfield <;> exact hfield
  · refine (fieldAt_behind (off := 0) hquadrants).mpr ?_
    simp only [fieldAt_cons, fieldAt_start]
  · rw [show 35 + 6 * i = 24 + (1 + (1 + (9 + 6 * i))) by omega, fieldAt_behind hquadrants,
      fieldAt_behind (length_putU8 _), fieldAt_behind (length_putU8 _), fieldAt_behind hlight]
    have hfield := fieldAt_putEach (n := 6)
      (put := fun k : SensorCounts => putU16 k.good ++ putU16 k.bad ++ putU16 k.missed)
      (fun _ _ => by simp) hk
    simp only [List.append_assoc] at hfield
    exact hfield.append _

theorem length_readView (p : LinkPort) : p.readView.length = 34 := by
  simp [LinkPort.readView, length_putOption length_putRecord]

/-- R151. -/
theorem readAuthority_fields :
    let holder : Option Link → Byte
      | none => 0
      | some .a => 1
      | some .b => 2
    FieldAt u.readAuthority 0
      [holder u.authority.holder, holder u.authority.pendingTake,
        (match u.authority.output with | .rendering => 0 | .holding => 1 | .blanked => 2)] ∧
    (∀ l, u.authority.holder = some l →
      FieldAt u.readAuthority 3 (putU32 (u.settings.holdTime - (u.link l).age))) ∧
    FieldAt u.readAuthority 7 (putU32 u.authority.holdingTime) ∧
    (∀ l, FieldAt u.readAuthority (match l with | .a => 11 | .b => 45)
      (putFlag (u.link l).fresh ++ putU32 (u.link l).age)) ∧
    FieldAt u.readAuthority 79
      (putU16 u.authority.record.generation ++ putMat u.authority.record.target ++
        putU32 u.authority.record.ceiling) := by
  intro holder
  have hholder : ∀ o, putU8 (holderCode o) = [holder o] := fun o => by
    rcases o with _ | ⟨_ | _⟩ <;> rfl
  have hview : ∀ p : LinkPort, FieldAt p.readView 0 (putFlag p.fresh ++ putU32 p.age) := fun p => by
    simp only [LinkPort.readView, List.append_assoc, fieldAt_cons, fieldAt_start]
  have houtput : putU8 u.authority.output.code =
      [match u.authority.output with | .rendering => 0 | .holding => 1 | .blanked => 2] := by
    cases u.authority.output <;> rfl
  unfold State.readAuthority
  dsimp only
  simp only [List.append_assoc]
  refine ⟨?_, fun l hl => ?_, ?_, fun l => ?_, ?_⟩
  · rw [hholder, hholder, houtput]
    exact fieldAt_start _ _
  · have ht : u.holdTimer = u.settings.holdTime - (u.link l).age := by
      rw [State.holdTimer, hl]
    rw [ht]
    simp [fieldAt_skip, fieldAt_start]
  · simp [fieldAt_skip, fieldAt_start]
  · cases l with
    | a =>
      simp only [fieldAt_skip, length_putU8, length_putU32, Nat.reduceLeDiff, Nat.reduceSub]
      exact (hview u.linkA).append _
    | b =>
      simp only [fieldAt_skip, length_putU8, length_putU32, length_readView, Nat.reduceLeDiff,
        Nat.reduceSub]
      exact (hview u.linkB).append _
  · simp only [fieldAt_skip, length_putU8, length_putU32, length_readView, Nat.reduceLeDiff,
      Nat.reduceSub, putRecord, List.append_assoc, fieldAt_cons, fieldAt_start]

/-- R164. -/
theorem length_readContext (p : LinkPort) : p.readContext.length = 52 + 2 * p.bulk.length := by
  have hbulk : (putEach (fun e : BulkEntry => putU16 e.program.block) p.bulk).length =
      2 * p.bulk.length := length_putEach fun _ _ => length_putU16 _
  simp only [LinkPort.readContext, LinkCounts.bytes, putCounted, List.length_append, length_putU8,
    length_putU32, length_putOption length_putU16, hbulk]
  omega

/-- R164. -/
theorem readLinks_fields :
    ∀ l, FieldAt u.readLinks (match l with | .a => 0 | .b => 52 + 2 * u.linkA.bulk.length)
      (putU8 (u.link l).state.code ++ putU8 (u.link l).credits ++
        putU8 (u.link l).prompts.length ++ putU8 (u.link l).bulk.length) := by
  have hhead : ∀ p : LinkPort, FieldAt p.readContext 0 (putU8 p.state.code ++ putU8 p.credits ++
      putU8 p.prompts.length ++ putU8 p.bulk.length) := fun p => by
    simp only [LinkPort.readContext, List.append_assoc, fieldAt_cons, fieldAt_start]
  intro l
  cases l with
  | a => exact (hhead u.linkA).append _
  | b => exact (fieldAt_behind (off := 0) (length_readContext u.linkA)).mpr (hhead u.linkB)

theorem maskOf_succ (n : Nat) (m : Nat → Bool) :
    maskOf (n + 1) m = 2 * maskOf n (fun i => m (i + 1)) + (m 0).toNat := by
  have hshift : (List.range n).map (fun i => if m (i + 1) then 2 ^ (i + 1) else 0) =
      ((List.range n).map fun i => if m (i + 1) then 2 ^ i else 0).map (2 * ·) := by
    rw [List.map_map]
    refine List.map_congr_left fun i _ => ?_
    simp only [Function.comp_apply]
    split_ifs <;> ring
  rw [maskOf, maskOf, List.range_succ_eq_map, List.map_cons, List.map_map, List.sum_cons]
  refine (congrArg (_ + ·) (congrArg List.sum hshift)).trans ?_
  rw [List.sum_map_mul_left, List.map_id', Nat.add_comm]
  cases m 0 <;> rfl

/-- A mask's bits are its members (R189). -/
theorem maskOf_eq_ofBits (n : Nat) (m : Nat → Bool) :
    maskOf n m = Nat.ofBits fun i : Fin n => m i := by
  induction n generalizing m with
  | zero => rfl
  | succ n ih =>
    rw [maskOf_succ, ih, Nat.ofBits_succ]
    rfl

theorem ResetCause.code_injective : Function.Injective ResetCause.code :=
  Function.LeftInverse.injective
    (g := fun n => [ResetCause.power, .pin, .linkA, .linkB, .service].getD n .power)
    fun x => by cases x <;> rfl

/-- R187. -/
theorem readConfiguration_fields :
    FieldAt u.readConfiguration 0
      (putU8 u.chip.config.code ++ putU8 u.chip.power.code ++ putU8 u.chip.held.code) ∧
    (∃ mask : Nat, mask < 32 ∧ FieldAt u.readConfiguration 3 (putU8 mask) ∧
      ∀ x : ResetCause, mask.testBit x.code = true ↔ x ∈ u.chip.causes) ∧
    FieldAt u.readConfiguration 4
      (putU8 u.chip.straps.width.val ++ putU8 u.chip.straps.height.val ++
        putFlag u.chip.straps.serviceEnable ++ putU16 u.width ++ putU16 u.height ++
        putU16 u.blockCount ++ putU32 u.timebase.millis ++ putU16 u.chip.restWake) ∧
    FieldAt u.readConfiguration (u.readConfiguration.length - 8)
      (putU16 u.service.crcFailures ++ putU16 u.service.framingDiscards ++
        putU16 u.service.syncRejects ++ putU16 u.service.answerDrops) := by
  obtain ⟨front, hfront⟩ : ∃ front, u.readConfiguration = front ++
      (putU16 u.service.crcFailures ++ putU16 u.service.framingDiscards ++
        putU16 u.service.syncRejects ++ putU16 u.service.answerDrops) :=
    ⟨_, by
      rw [← List.append_assoc, ← List.append_assoc, ← List.append_assoc]
      rfl⟩
  have hend : u.readConfiguration.length - 8 = front.length + 0 := by
    rw [hfront]
    simp
  refine ⟨?_, ⟨maskOf 5 fun n => u.chip.causes.any fun x => x.code == n, ?_, ?_, fun x => ?_⟩, ?_,
    ?_⟩
  · simp only [State.readConfiguration, List.append_assoc, fieldAt_cons, fieldAt_start]
  · rw [maskOf_eq_ofBits]
    exact Nat.ofBits_lt_two_pow _
  · simp only [State.readConfiguration, List.append_assoc, fieldAt_skip, length_putU8,
      Nat.reduceLeDiff, Nat.reduceSub]
    exact fieldAt_start _ _
  · have hx : x.code < 5 := by cases x <;> decide
    rw [maskOf_eq_ofBits, Nat.testBit_ofBits_lt _ _ hx, List.any_eq_true]
    simp only [beq_iff_eq, ResetCause.code_injective.eq_iff, exists_eq_right]
  · simp [State.readConfiguration, fieldAt_skip, fieldAt_cons, fieldAt_start]
  · rw [hend, hfront, fieldAt_behind rfl]
    exact fieldAt_whole _

end Layouts

/-- Settles O27: the owner's content as it stands, with the layout of each subject. -/
theorem queriesReadAndChangeNothing : Obligations.QueriesReadAndChangeNothing := by
  refine ⟨?_, ?_, ?_, ?_, ?_, ?_, ?_, ?_, ?_, ?_, ?_⟩
  · exact queryAnswers (fun _ _ => rfl) rfl readZones_fields
  · exact queryAnswers (fun _ _ => rfl) rfl readStore_fields
  · exact queryAnswers (fun _ _ => rfl) rfl readThermal_fields
  · exact queryAnswers (fun _ _ => rfl) rfl fun _ => readWear_fields
  · exact queryAnswers (fun _ _ => rfl) rfl readGain_fields
  · exact queryAnswers (fun _ _ => rfl) rfl readComposer_fields
  · exact queryAnswers (fun _ _ => rfl) rfl readSensors_fields
  · exact queryAnswers (fun _ _ => rfl) rfl readAuthority_fields
  · exact queryAnswers (fun _ _ => rfl) rfl readLinks_fields
  · exact queryAnswers (fun _ _ => rfl) rfl readConfiguration_fields
  · exact ⟨rfl, rfl, rfl, rfl, rfl, rfl, rfl, rfl, rfl, rfl⟩

end Sys2Proof.Machine
end

section
/-! The end of a block read (R31 to R34, R50, R51, R55, R118): the job takes the data, at once or
once the composer runs again; BUILD's block in numbers, SCRUB's check through the rest of the
step. -/

namespace Sys2Proof.Machine

/-! ## The read and the free port -/

/-- R55: the port once a read of `content` from block `i` has ended. -/
def freedAfterRead (i : Nat) (content : Stored) (s : State) : State :=
  s.setStore
    { s.store with port := .free, slots := Table.put erasedBlock s.store.slots i content }

/-- A slot reads back what it holds. -/
theorem slot_freedAfterRead {s : State} (h : TableLaw s) (i : Nat) (content : Stored) :
    (freedAfterRead i content s).slot i = content :=
  Table.get_put_same erasedBlock h.2.2 i content

/-- The row with a read in force, where the composer is stopped. -/
theorem exec_blockReadDone_of_stopped {i : Nat} {s : State} (h : TableLaw s)
    (hp : s.store.port = .granted (.read i)) (hs : s.composerStopped = true)
    (cells : Option Stored) :
    exec (.blockReadDone cells) s = .next (settle
      ((freedAfterRead i (cells.getD (s.slot i)) s).setComposer
        { s.composer with deferred := some ⟨i, s.blockState i, cells.getD (s.slot i)⟩ })) := by
  have hslot := slot_freedAfterRead h i (cells.getD (s.slot i))
  show Host.Outcome.next (blockReadDone cells s) = _
  have he : blockReadDone cells s = settle (endBlockRead i cells s) := by
    rw [blockReadDone, hp]
  have hr : endBlockRead i cells s = (freedAfterRead i (cells.getD (s.slot i)) s).setComposer
      { s.composer with
        deferred := some ⟨i, s.blockState i,
          (freedAfterRead i (cells.getD (s.slot i)) s).slot i⟩ } := if_pos hs
  rw [he, hr, hslot]

/-- The row with a read in force, where the composer runs. -/
theorem exec_blockReadDone_of_running {i : Nat} {s : State} (h : TableLaw s)
    (hp : s.store.port = .granted (.read i)) (hs : s.composerStopped = false)
    (cells : Option Stored) :
    exec (.blockReadDone cells) s = .next (settle
      (absorbRead ⟨i, s.blockState i, cells.getD (s.slot i)⟩
        (freedAfterRead i (cells.getD (s.slot i)) s))) := by
  have hslot := slot_freedAfterRead h i (cells.getD (s.slot i))
  show Host.Outcome.next (blockReadDone cells s) = _
  have he : blockReadDone cells s = settle (endBlockRead i cells s) := by
    rw [blockReadDone, hp]
  have hr : endBlockRead i cells s = absorbRead ⟨i, s.blockState i,
      (freedAfterRead i (cells.getD (s.slot i)) s).slot i⟩
        (freedAfterRead i (cells.getD (s.slot i)) s) := if_neg (Bool.eq_false_iff.mp hs)
  rw [he, hr, hslot]

/-! ## Settling while the composer is stopped -/

section Settling

variable {s : State}

theorem KeepsBut.composerStopped_eq {ps : List Part} {t : State} (h : KeepsBut ps s t)
    (hc : .chip ∉ ps) : t.composerStopped = s.composerStopped := by
  unfold State.composerStopped State.started
  rw [h.chip_eq hc]

/-- A stopped composer takes no data and no decision. -/
theorem settle_of_stopped (h : s.composerStopped = true) :
    settle s = settleStore (settleRender (settleBanks s)) := by
  have hb : (settleBanks s).composerStopped = true := h
  have hd : takeDeferred (settleBanks s) = settleBanks s := if_pos hb
  have hr : (settleRender (settleBanks s)).composerStopped = true :=
    ((settleRender_keeps (ps := [.render, .composer]) (KeepsBut.refl _ (settleBanks s))
      (by simp)).composerStopped_eq (by decide)).trans hb
  have hc : settleComposer (settleRender (settleBanks s)) = settleRender (settleBanks s) :=
    if_pos hr
  rw [settle, hd, settleWork, hc]

/-- What moves into force changes of the composer the staging and the park alone. -/
theorem settleRender_composer (s : State) :
    ∃ g p, (settleRender s).composer = { s.composer with staging := g, parked := p } := by
  unfold settleRender moveIntoForce applyPendingGain commitStaged
  split_ifs
  · exact ⟨_, _, rfl⟩
  · split <;> split <;> exact ⟨_, _, rfl⟩

theorem settleStore_composer (s : State) : (settleStore s).composer = s.composer :=
  settleStore_keeps (ps := [.store]) (KeepsBut.refl _ s) (by simp) .composer (by decide)

/-- The read is still kept, and the job still runs. -/
theorem settle_composer_of_stopped (h : s.composerStopped = true) :
    (settle s).composer.deferred = s.composer.deferred ∧
      (settle s).composer.running = s.composer.running := by
  obtain ⟨g, p, hc⟩ := settleRender_composer (settleBanks s)
  rw [settle_of_stopped h, settleStore_composer, hc]
  exact ⟨rfl, rfl⟩

theorem settle_keeps_of_stopped {ps : List Part} {s₀ : State} (h : s.composerStopped = true)
    (hk : KeepsBut ps s₀ s) (hp : [.driver, .render, .composer, .store] ⊆ ps) :
    KeepsBut ps s₀ (settle s) := by
  simp only [List.cons_subset, List.nil_subset, and_true] at hp
  obtain ⟨hd, hr, hc, hs⟩ := hp
  rw [settle_of_stopped h]
  exact settleStore_keeps (settleRender_keeps (settleBanks_keeps hk (by simp [hd]))
    (by simp [hr, hc])) (by simp [hs])

/-- With nothing to move into force and no request nothing follows. -/
theorem settle_of_calm (h : s.composerStopped = true) (hc : Calm s)
    (hw : s.store.waiting = Waiting.none) : settle s = s := by
  obtain ⟨hbanks, hforce⟩ := hc
  rw [settle_of_stopped h, hbanks, settleRender_of_nothing hforce,
    settleStore_of_no_winner (winningPhase_of_nothing hw)]

/-- The store and the composer's jobs are no matter of the calm. -/
theorem Calm.of_store_composer (h : Calm s) (v : Store) {c : Composer}
    (hc : c.staging = s.composer.staging) : Calm ((s.setStore v).setComposer c) := by
  obtain ⟨hbanks, hforce⟩ := h
  have hb : settleBanks ((s.setStore v).setComposer c) =
      ((settleBanks s).setStore v).setComposer c := rfl
  refine ⟨by rw [hb, hbanks], hforce.imp_right fun ⟨hz, hg⟩ => ⟨fun z => ?_, hg⟩⟩
  show c.staging ≠ .staged z
  rw [hc]
  exact hz z

/-! ## What follows a check of SCRUB -/

/-- No program waits for the port. -/
def NoProgramWaits (s : State) : Prop :=
  s.store.waiting.linkA = none ∧ s.store.waiting.linkB = none ∧ s.store.waiting.service = none

/-- The block states and the fields of SCRUB stand as they were. -/
def ScrubKept (s t : State) : Prop :=
  t.store.blockStates = s.store.blockStates ∧ t.store.scrubFailures = s.store.scrubFailures ∧
    t.store.scrubPointer = s.store.scrubPointer

theorem ScrubKept.trans {t u : State} (h : ScrubKept s t) (k : ScrubKept t u) : ScrubKept s u :=
  ⟨k.1.trans h.1, k.2.1.trans h.2.1, k.2.2.trans h.2.2⟩

theorem ScrubKept.of_store {t : State} (h : t.store = s.store) : ScrubKept s t := by
  rw [ScrubKept, h]
  exact ⟨rfl, rfl, rfl⟩

/-- Only a program's grant makes a block PROGRAMMING. -/
theorem grantRequest_scrubKept (h : NoProgramWaits s) (r : Requester) :
    ScrubKept s (grantRequest r s) := by
  obtain ⟨ha, hb, hs⟩ := h
  unfold grantRequest
  dsimp only
  rw [ha, hb, hs]
  cases r with
  | linkA => exact ⟨rfl, rfl, rfl⟩
  | linkB => exact ⟨rfl, rfl, rfl⟩
  | service => exact ⟨rfl, rfl, rfl⟩
  | composer => cases s.store.waiting.composer <;> exact ⟨rfl, rfl, rfl⟩
  | driftSave => cases s.store.waiting.driftSave <;> exact ⟨rfl, rfl, rfl⟩

theorem settleStore_scrubKept (h : NoProgramWaits s) : ScrubKept s (settleStore s) := by
  unfold settleStore
  split_ifs
  · split
    · rename_i p _
      have hw : NoProgramWaits (s.setStore { s.store with phasePointer := (p + 1) % 16 }) := h
      exact (show ScrubKept s _ from ⟨rfl, rfl, rfl⟩).trans (grantRequest_scrubKept hw _)
    · exact ⟨rfl, rfl, rfl⟩
  · exact ⟨rfl, rfl, rfl⟩

/-- Of the store only the composer's own request may change. -/
def OwnRequest (s t : State) : Prop :=
  ∃ w, t.store = { s.store with waiting := { s.store.waiting with composer := w } }

theorem ownRequest_refl (s : State) : OwnRequest s s := ⟨s.store.waiting.composer, rfl⟩

theorem startJob_ownRequest (k : JobKind) (s : State) : OwnRequest s (startJob k s) := by
  cases k with
  | gain => exact ownRequest_refl s
  | thermal => exact ownRequest_refl s
  | build =>
    simp only [startJob, takeZone, requestBlock]
    split
    · split
      · exact ⟨_, rfl⟩
      · exact ownRequest_refl s
    · exact ownRequest_refl s
  | scrub => exact ⟨_, rfl⟩

theorem settleComposer_ownRequest (s : State) : OwnRequest s (settleComposer s) := by
  unfold settleComposer takeDecision decideAtPoint
  split_ifs
  · exact ownRequest_refl s
  · split
    · split
      · exact ownRequest_refl s
      · exact startJob_ownRequest _ s
      · exact ⟨_, rfl⟩
      · split_ifs
        · exact startJob_ownRequest _ s
        · exact ⟨_, rfl⟩
    · split
      · split_ifs
        · exact startJob_ownRequest _ (pushScrub _ _ s)
        · exact ⟨_, rfl⟩
      · exact ⟨_, rfl⟩
    · exact ownRequest_refl s

theorem settleWork_scrubKept (h : NoProgramWaits s) : ScrubKept s (settleWork s) := by
  obtain ⟨w, hw⟩ := settleComposer_ownRequest s
  have hn : NoProgramWaits (settleComposer s) := by
    rw [NoProgramWaits, hw]
    exact h
  have hk : ScrubKept s (settleComposer s) := by
    rw [ScrubKept, hw]
    exact ⟨rfl, rfl, rfl⟩
  exact hk.trans (settleStore_scrubKept hn)

/-- A zone waits in the build set, or BUILD has just taken it. -/
def ZoneWaits (z : Nat) (c : Composer) : Prop :=
  z ∈ c.buildSet ∨ ∃ f, c.staging = .filling f ∧ f.zone = z

theorem takeZone_zoneWaits {z : Nat} (h : z ∈ s.composer.buildSet) :
    ZoneWaits z (takeZone s).composer := by
  unfold takeZone requestBlock
  split
  · rename_i y _
    have hy : ZoneWaits z
        { s.composer with
          buildSet := s.composer.buildSet.filter (· ≠ y)
          staging := .filling (s.fillingFor y) } := by
      by_cases hz : z = y
      · exact .inr ⟨_, rfl, hz.symm⟩
      · exact .inl (List.mem_filter.mpr ⟨h, by simpa using hz⟩)
    dsimp only
    split <;> exact hy
  · exact .inl h

theorem startJob_zoneWaits {z : Nat} (h : z ∈ s.composer.buildSet) (k : JobKind) :
    ZoneWaits z (startJob k s).composer := by
  cases k with
  | build => exact takeZone_zoneWaits (s := setRunning _ s) h
  | gain => exact .inl h
  | thermal => exact .inl h
  | scrub => exact .inl h

theorem settleComposer_zoneWaits {z : Nat} (h : z ∈ s.composer.buildSet) :
    ZoneWaits z (settleComposer s).composer := by
  unfold settleComposer takeDecision decideAtPoint
  split_ifs
  · exact .inl h
  · split
    · split
      · exact .inl h
      · exact startJob_zoneWaits h _
      · exact .inl h
      · split_ifs
        · exact startJob_zoneWaits h _
        · exact .inl h
    · split
      · split_ifs
        · exact startJob_zoneWaits (s := pushScrub _ _ s) h _
        · exact .inl h
      · exact .inl h
    · exact .inl h

/-- Settling where no read is kept. -/
theorem settle_of_none_deferred (h : s.composer.deferred = none) :
    settle s = settleWork (settleRender (settleBanks s)) := by
  have hd : takeDeferred (settleBanks s) = settleBanks s := takeDeferred_of_none h
  rw [settle, hd]

theorem settle_scrubKept (h : s.composer.deferred = none) (hn : NoProgramWaits s) :
    ScrubKept s (settle s) := by
  have hs : (settleRender (settleBanks s)).store = s.store :=
    settleRender_keeps (ps := [.render, .composer, .driver])
      (settleBanks_keeps (KeepsBut.refl _ s) (by simp)) (by simp) .store (by decide)
  have hw : NoProgramWaits (settleRender (settleBanks s)) := by
    rw [NoProgramWaits, hs]
    exact hn
  rw [settle_of_none_deferred h]
  exact (ScrubKept.of_store hs).trans (settleWork_scrubKept hw)

theorem settle_zoneWaits {z : Nat} (h : s.composer.deferred = none)
    (hz : z ∈ s.composer.buildSet) : ZoneWaits z (settle s).composer := by
  obtain ⟨g, p, hc⟩ := settleRender_composer (settleBanks s)
  have hb : z ∈ (settleRender (settleBanks s)).composer.buildSet := by
    rw [hc]
    exact hz
  rw [settle_of_none_deferred h, settleWork, settleStore_composer]
  exact settleComposer_zoneWaits hb

end Settling

/-! ## BUILD's block in numbers (R32 to R34) -/

/-- Row `a` of a matrix. -/
def rowAt (m : Mat3) : Nat → Row3
  | 0 => m.r0
  | 1 => m.r1
  | _ => m.r2

/-- Entry `b` of a row. -/
def entryAt (r : Row3) : Nat → Int
  | 0 => r.x0
  | 1 => r.x1
  | _ => r.x2

/-- R33: row `a` of the record times column `b` of the target, before saturation. -/
def rawEntry (m t : Mat3) (a b : Nat) : Int :=
  (entryAt (rowAt m a) 0 * entryAt (rowAt t 0) b + entryAt (rowAt m a) 1 * entryAt (rowAt t 1) b +
    entryAt (rowAt m a) 2 * entryAt (rowAt t 2) b + 8192) / 16384

/-- R33, R34: the entries of a pixel's matrix. -/
theorem productOf_entry (m t : Mat3) {a b : Nat} (ha : a < 3) (hb : b < 3) :
    entryAt (rowAt (productOf m t).1 a) b = saturated16 (rawEntry m t a b) := by
  interval_cases a <;> interval_cases b <;> rfl

theorem saturated16_ne_iff (v : Int) : saturated16 v ≠ v ↔ v < -32768 ∨ 32767 < v := by
  unfold saturated16
  split_ifs <;> omega

/-- R34: the coefficients that saturated are those that saturation changed. -/
theorem productOf_count (m t : Mat3) :
    (productOf m t).2 =
      ((List.range 9).filter fun n => decide
        (saturated16 (rawEntry m t (n / 3) (n % 3)) ≠ rawEntry m t (n / 3) (n % 3))).length := by
  have hlist : (productOf m t).2 =
      (((List.range 9).map fun n => rawEntry m t (n / 3) (n % 3)).filter fun v =>
        decide (v < -32768 ∨ 32767 < v)).length := rfl
  rw [hlist, List.filter_map, List.length_map]
  refine congrArg List.length (List.filter_congr fun n _ => ?_)
  simp only [Function.comp_apply, saturated16_ne_iff]

/-- The entry that a block adds for its record `r`. -/
theorem getElem?_blockComputed (u : State) (read : BlockRead) (f : Filling) {r : Nat}
    (hr : r < 64) :
    (blockComputed u read f).matrices[f.matrices.length + r]? =
      some ((8 * (read.block / (u.width / 8)) + r / 8) * u.width +
          (8 * (read.block % (u.width / 8)) + r % 8),
        (productOf (if read.state = .valid then recordAt r read.content.data else f.fallback)
          f.target).1) := by
  unfold blockComputed
  dsimp only
  rw [List.getElem?_append_right (by omega), Nat.add_sub_cancel_left, List.getElem?_map,
    List.getElem?_range hr, Option.map_some]

/-! ## SCRUB's check (R50, R51) -/

theorem scrubFails_iff (i : Nat) (b : BlockState) (c : Stored) :
    scrubFails ⟨i, b, c⟩ = true ↔
      (b = .valid ∧ checkBlock c ≠ .valid) ∨ (b = .blank ∧ checkBlock c ≠ .blank) := by
  cases b <;> simp [scrubFails]

/-- What SCRUB makes of a block read. -/
theorem absorbRead_scrub {u : State} {level left : Nat} {point : Bool}
    (hr : u.composer.running = some ⟨level, .scrub left point⟩) (read : BlockRead) :
    absorbRead read u = absorbScrub level left read u := by
  rw [absorbRead, hr]

section Scrub

variable {u : State} {read : BlockRead} {level left : Nat}

/-- R50: the pointer goes on, whatever the check finds; no request is placed. -/
theorem absorbScrub_always :
    (absorbScrub level left read u).store.scrubPointer =
        (if u.store.scrubPointer + 1 < u.blockCount then u.store.scrubPointer + 1 else 0) ∧
      (absorbScrub level left read u).composer.deferred = u.composer.deferred ∧
      (absorbScrub level left read u).store.waiting = u.store.waiting := by
  unfold absorbScrub
  rw [advanceScrub_eq]
  cases scrubFails read <;> exact ⟨rfl, rfl, rfl⟩

/-- R51: a check that fails. -/
theorem absorbScrub_failed (hf : scrubFails read = true)
    (hi : read.block < u.store.blockStates.length) :
    (absorbScrub level left read u).blockState read.block = .invalid ∧
      (absorbScrub level left read u).store.scrubFailures =
        min 65535 (u.store.scrubFailures + 1) ∧
      (u.zoneOfBlock read.block < 16 →
        u.zoneOfBlock read.block ∈ (absorbScrub level left read u).composer.buildSet) := by
  unfold absorbScrub
  rw [if_pos hf]
  refine ⟨blockState_setBlockState_same hi .invalid, rfl, fun hz => ?_⟩
  exact List.mem_filter.mpr ⟨List.mem_range.mpr hz, by simp⟩

/-- A check that passes changes no block. -/
theorem absorbScrub_passed (hf : scrubFails read = false) :
    (absorbScrub level left read u).store.blockStates = u.store.blockStates ∧
      (absorbScrub level left read u).store.scrubFailures = u.store.scrubFailures := by
  unfold absorbScrub
  rw [if_neg (Bool.eq_false_iff.mp hf)]
  exact ⟨rfl, rfl⟩

end Scrub

/-- Settles O42: the row's own rule by `exec_blockReadDone_of_stopped` and
`exec_blockReadDone_of_running`; a stopped composer keeps the read, BUILD's block is
`blockComputed`, and what follows SCRUB's check in the step leaves what it found. -/
theorem blockReadsReachTheirJob : Obligations.BlockReadsReachTheirJob := by
  intro i cells s hp content read freed htable
  refine ⟨fun hs => ?_, fun hs => ?_, fun level f hs hr hf => ?_,
    fun level left hs hlen hi hw hd hr hb => ?_⟩
  · have hstop : (freed.setComposer
        { s.composer with deferred := some read }).composerStopped = true := hs
    obtain ⟨hdeferred, hrunning⟩ := settle_composer_of_stopped hstop
    refine .intro (exec_blockReadDone_of_stopped htable hp hs cells) ⟨.intro rfl, hdeferred,
      hrunning, ?_, fun hcalm hw => settle_of_calm hstop (hcalm.of_store_composer _ rfl) hw⟩
    exact settle_keeps_of_stopped hstop (setComposer_keeps _ (setStore_keeps _ (KeepsBut.refl _ s)
      (by decide)) (by decide)) (by simp)
  · exact .intro (exec_blockReadDone_of_running htable hp hs cells)
      (.intro (absorbed_absorbRead read freed))
  · intro g record row entry raw held
    refine ⟨rfl, ?_, fun r hr => ⟨?_, fun a ha b hb => ?_⟩, ?_, rfl, fun hz => zoneBlocks_eq s hz⟩
    · show (f.matrices ++ _).length = _
      rw [List.length_append, List.length_map, List.length_range]
    · rw [getElem?_blockComputed s read f hr]
      rfl
    · rw [getElem?_blockComputed s read f hr]
      exact congrArg some (productOf_entry (record r) f.target ha hb)
    · show f.saturated + _ = _
      refine congrArg (f.saturated + ·) (congrArg List.sum (List.map_congr_left fun r _ => ?_))
      exact productOf_count (record r) f.target
  · intro fails next zone
    have hrun : freed.composer.running = some ⟨level, .scrub left false⟩ := hr
    have hblock : i < freed.store.blockStates.length := by
      rw [show freed.store.blockStates.length = 256 from hlen]
      exact hi.trans_le (blockCount_le s)
    obtain ⟨hpointer, hdeferred, hwaiting⟩ :=
      absorbScrub_always (u := freed) (read := read) (level := level) (left := left)
    have hnone := hdeferred.trans hd
    have hquiet : NoProgramWaits (absorbScrub level left read freed) := by
      rw [NoProgramWaits, hwaiting, show freed.store.waiting = Waiting.none from hw]
      exact ⟨rfl, rfl, rfl⟩
    obtain ⟨hstates, hfailures, hpointer'⟩ := settle_scrubKept hnone hquiet
    have he := (exec_blockReadDone_of_running htable hp hs cells).trans
      (congrArg (fun u => Host.Outcome.next (settle u)) (absorbRead_scrub hrun read))
    refine .intro he ⟨fun hf => ?_, fun hf => ?_, hpointer'.trans hpointer, ?_⟩
    · obtain ⟨hinvalid, hcount, hjoin⟩ := absorbScrub_failed (level := level) (left := left)
        ((scrubFails_iff i (s.blockState i) content).mpr hf) hblock
      exact ⟨(congrArg (·.getD i .blank) hstates).trans hinvalid, hfailures.trans hcount,
        fun hz => settle_zoneWaits hnone (hjoin hz)⟩
    · have hpass := Bool.eq_false_iff.mpr fun h =>
        hf ((scrubFails_iff i (s.blockState i) content).mp h)
      obtain ⟨hsame, hcount⟩ :=
        absorbScrub_passed (u := freed) (level := level) (left := left) hpass
      exact ⟨congrArg (·.getD i .blank) (hstates.trans hsame), hfailures.trans hcount⟩
    · exact settle_keeps (absorbScrub_keeps _ _ _ (setStore_keeps _ (KeepsBut.refl _ s) (by decide))
        (by simp)) (by simp)

end Sys2Proof.Machine
end

section
/-! What non-volatile storage keeps (R39, R49): a POWER reset and a loss of power keep the stored
items alone, and an item whose write a reset cut short reads with its open mark. -/

namespace Sys2Proof.Machine

/-! ## The stored items alone (R39, R175, R176) -/

/-- A state that has kept nothing but the stored items, with its chip. -/
def storeKept (c : Chip) (s : State) : State :=
  { State.reset with
    chip := c
    store :=
      { Store.reset with
        slots := s.store.slots, identity := s.store.identity, drift := s.store.drift }
    freeDraws := s.freeDraws
    pending := s.pending }

/-- Where no write is in force, a POWER reset keeps the items as they stand. -/
theorem coldReset_of_noWrite (pins : StrapPins) {s : State} (h : NoWriteGrant s) :
    coldReset pins s =
      storeKept { Chip.reset with pinLow := s.chip.pinLow, straps := pins } s := by
  unfold coldReset
  rw [abandonGrant_of_noWrite h]
  rfl

/-- The phase and the pin that a command sets before or behind the reset stand in its chip. -/
theorem setPhase_storeKept (p : Phase) (c : Chip) (s : State) :
    setPhase p (storeKept c s) = storeKept { c with phase := p } s := rfl

/-- Settles O4: each command is one POWER reset, `coldReset_of_noWrite`, with the pin's level and
the phase it gives. -/
theorem powerKeepsOnlyTheStore : Obligations.PowerKeepsOnlyTheStore := by
  intro pins s h kept chip
  refine ⟨fun hpin => ?_, fun hpin => ?_, fun hphase => ?_, ?_⟩
  · have he : exec (.powerOn pins) s = .next (coldReset pins s) :=
      congrArg Host.Outcome.next (if_neg (Bool.eq_false_iff.mp hpin))
    rw [he, coldReset_of_noWrite pins h, hpin]
    rfl
  · have he : exec (.powerOn pins) s =
        .next (setPhase .poweringUp (coldReset ⟨0, 0, false⟩ s)) :=
      congrArg Host.Outcome.next (if_pos hpin)
    rw [he, coldReset_of_noWrite _ h, setPhase_storeKept, hpin]
    rfl
  · have he : exec (.resetPinRelease pins) s = .next (coldReset pins (setPinLow false s)) := by
      simp only [exec, execResetPinRelease, setPinLow, setChip_chip, hphase]
    have hn : NoWriteGrant (setPinLow false s) := h
    rw [he, coldReset_of_noWrite pins hn]
    rfl
  · have he : exec .powerLoss s = .next (setPhase .off (coldReset ⟨0, 0, false⟩ s)) := rfl
    rw [he, coldReset_of_noWrite _ h, setPhase_storeKept]
    rfl

/-! ## An open mark (R40, R41, R44) -/

theorem checkBlock_of_openMark {c : Stored} (h : c.openMark = true) : checkBlock c = .invalid :=
  if_pos h

theorem identityValid_of_openMark {c : Stored} (h : c.openMark = true) :
    identityValid c = false := by
  unfold identityValid
  rw [h]
  rfl

theorem driftValid_of_openMark {c : Stored} (h : c.openMark = true) : driftValid c = false := by
  unfold driftValid
  dsimp only
  rw [h]
  rfl

/-! ## An abandoned write (R49) -/

/-- What the items read is a matter of the items alone. -/
theorem AbandonedReads.congr {s t u : State} (h : AbandonedReads s t)
    (hslots : u.store.slots = t.store.slots) (hidentity : u.store.identity = t.store.identity)
    (hdrift : u.store.drift = t.store.drift) : AbandonedReads s u := by
  unfold AbandonedReads State.slot at *
  rw [hslots, hidentity, hdrift]
  exact h

/-- The abandonment leaves the open mark in the item that was written. -/
theorem abandonGrant_reads (s : State) : AbandonedReads s (abandonGrant s) := by
  refine ⟨fun who p hp => ?_, fun fs hp => ?_, fun m hp => ?_⟩
  · have hmark : abandonedItem s.freeDraws 1152 ≠ erasedBlock := fun he =>
      Bool.noConfusion (congrArg Stored.openMark he)
    have hslot : (abandonGrant s).slot p.block = abandonedItem s.freeDraws 1152 := by
      unfold abandonGrant
      rw [hp]
      exact Table.get_put_of_ne erasedBlock s.store.slots p.block hmark
    rw [hslot]
    exact checkBlock_of_openMark rfl
  · have hitem : (abandonGrant s).store.identity = abandonedItem s.freeDraws 184 := by
      unfold abandonGrant
      rw [hp]
      rfl
    rw [hitem]
    exact identityValid_of_openMark rfl
  · have hitem : (abandonGrant s).store.drift = abandonedItem s.freeDraws 321 := by
      unfold abandonGrant
      rw [hp]
      rfl
    rw [hitem]
    exact driftValid_of_openMark rfl

/-- A POWER reset keeps the items that the abandonment left. -/
theorem coldReset_reads (pins : StrapPins) (s : State) : AbandonedReads s (coldReset pins s) :=
  (abandonGrant_reads s).congr rfl rfl rfl

/-- So does the clearing of a warm reset. -/
theorem clearWarm_reads (s : State) : AbandonedReads s (clearWarm s) :=
  (abandonGrant_reads s).congr rfl rfl rfl

/-- A part that is held in a reset, or powers up with its pin low, is reset at the release. -/
theorem resetPinRelease_reads (pins : StrapPins) {s : State}
    (hp : s.chip.phase = .held ∨ s.chip.phase = .poweringUp) :
    Leads (.resetPinRelease pins) s (AbandonedReads s) := by
  rcases hp with hp | hp
  · have he : exec (.resetPinRelease pins) s =
        .next (latchStraps pins (warmReset .pin (setPinLow false s))) := by
      simp only [exec, execResetPinRelease, setPinLow, setChip_chip, hp]
    exact .intro he ((clearWarm_reads (setPinLow false s)).congr rfl rfl rfl)
  · have he : exec (.resetPinRelease pins) s = .next (coldReset pins (setPinLow false s)) := by
      simp only [exec, execResetPinRelease, setPinLow, setChip_chip, hp]
    exact .intro he (coldReset_reads pins (setPinLow false s))

/-- Settles O5: every one of these commands begins with the abandonment of the grant in force
(`abandonGrant_reads`) and keeps the items it leaves. -/
theorem abandonedWriteChecksInvalid : Obligations.AbandonedWriteChecksInvalid := by
  refine fun s => ⟨fun pins => ?_, ?_, fun hl => ?_, fun pins => resetPinRelease_reads pins,
    fun c hc hl => ?_⟩
  · refine .intro rfl ?_
    split_ifs
    · exact (coldReset_reads ⟨0, 0, false⟩ s).congr rfl rfl rfl
    · exact coldReset_reads pins s
  · exact .intro rfl ((coldReset_reads ⟨0, 0, false⟩ s).congr rfl rfl rfl)
  · have he : exec .resetPinDrivenLow s = .next (setPhase .held (clearWarm (setPinLow true s))) :=
      congrArg Host.Outcome.next (if_pos hl)
    exact .intro he ((clearWarm_reads (setPinLow true s)).congr rfl rfl rfl)
  · have he : exec (.warmReset c) s = .next (warmReset (resetCauseOf c) s) :=
      congrArg Host.Outcome.next (if_pos ⟨hl, hc⟩)
    exact .intro he ((clearWarm_reads s).congr rfl rfl rfl)

end Sys2Proof.Machine
end

section
/-! The SETs of the phase table and of a dark policy (R17, R56, R180): their layouts read back, the
lock at CLOSE, and what each new value does. -/

namespace Sys2Proof.Machine

/-! ## The layouts (R189) -/

theorem requesterOfCode_code (r : Requester) :
    requesterOfCode (BitVec.ofNat 8 (Requester.code r)).toNat = some r := by cases r <;> rfl

/-- The body of a SET of the phase table. -/
def phaseTableBody (p : List Requester) : List Byte :=
  2 :: 0 :: p.map fun r => BitVec.ofNat 8 (Requester.code r)

theorem mapM_requesterOfCode (p : List Requester) :
    (p.map fun r => BitVec.ofNat 8 (Requester.code r)).mapM
      (fun b => requesterOfCode b.toNat) = some p := by
  induction p with
  | nil => rfl
  | cons r p ih =>
    rw [List.map_cons, List.mapM_cons, requesterOfCode_code, ih]
    rfl

theorem parseSet_phaseTable {p : List Requester} (h : p.length = 16) :
    parseSet (phaseTableBody p) = some (.phaseTable p) := by
  have hset : leNat (slice 0 1 (phaseTableBody p)) = 2 := rfl
  have hindex : leNat (slice 1 1 (phaseTableBody p)) = 0 := rfl
  have hlen : (phaseTableBody p).length = 18 := by simp [phaseTableBody, h]
  have hrest : (phaseTableBody p).drop 2 =
      p.map fun r => BitVec.ofNat 8 (Requester.code r) := rfl
  unfold parseSet
  simp only [hset, hindex, hlen, hrest, mapM_requesterOfCode]
  rfl

theorem parseSet_darkPolicy (b : Fin 16) (w : U32) :
    parseSet (setBody 10 (BitVec.ofNat 8 b.val) w) = some (.darkPolicy b.val w.toInt) := by
  have hb : (BitVec.ofNat 8 b.val).toNat = b.val := by
    rw [BitVec.toNat_ofNat, Nat.mod_eq_of_lt (by omega)]
  rw [parseSet_body _ _ _ (by decide), hb]
  exact if_pos (Nat.le_of_lt_succ b.isLt)

/-! ## The answer of a SET -/

section Answers

variable {α : Type} {v : Via α} {s : State}

/-- The answer joins a link port or the service line. -/
theorem notMem_answerPart (v : Via α) {p : Part}
    (h : p ≠ .linkA ∧ p ≠ .linkB ∧ p ≠ .service) : p ∉ [answerPart v] := by
  obtain ⟨ha, hb, hs⟩ := h
  have hn := answerPart_notMem v (ps := [p])
    ⟨by simpa using ha.symm, by simpa using hb.symm, by simpa using hs.symm⟩
  simpa [eq_comm] using hn

/-- The lock is the same where the owner acts. -/
theorem isClosed_handledAt_iff (v : Via α) (s : State) :
    (handledAt v s).isClosed = true ↔ s.chip.config = .closed := by
  unfold State.isClosed
  rw [(handledAt_keeps v s).chip_eq (notMem_answerPart v (by decide))]
  exact beq_iff_eq

variable {layout : α → List Byte} {a : α} {op : SetOp} {mine : Request → Bool}
  {req : α → Option Request} {r : Result}

/-- A SET whose owner leaves `u` ends with its answer. -/
theorem set_answers {ps : List Part} {u : State} (h : Asks v kindSet layout a s)
    (hparse : parseSet (layout a) = some op) (hreq : req a = some (.set op))
    (hmine : mine (.set op) = true) (hperform : performSet op (handledAt v s) = acted r u)
    (hk : KeepsBut ps (handledAt v s) u)
    (hps : .authority ∉ ps ∧ .chip ∉ ps ∧ .linkA ∉ ps ∧ .linkB ∉ ps ∧ .service ∉ ps) :
    Answered v kindSet r s (requestStep v mine kindSet req s) ∧
      KeepsBut [answerPart v] u (requestStep v mine kindSet req s) := by
  obtain ⟨hauth, hchip, hlinks⟩ := hps
  have hacted : actedAt v (.set op) s = acted r u := hperform
  have hrequest : parseRequest kindSet (layout a) = some (.set op) := by
    rw [parseRequest_set, hparse, Option.map_some]
  obtain ⟨hanswer, hkeep⟩ := requestStep_answers h hrequest hreq hmine
    (by rw [hacted]; exact hk) ⟨hauth, hchip, answerPart_notMem v hlinks⟩
  rw [hacted] at hanswer hkeep
  exact ⟨hanswer, hkeep⟩

/-- A SET that its owner refuses changes nothing but its answer's part. -/
theorem set_refused (h : Asks v kindSet layout a s)
    (hparse : parseSet (layout a) = some op) (hreq : req a = some (.set op))
    (hmine : mine (.set op) = true)
    (hperform : performSet op (handledAt v s) = acted r (handledAt v s)) :
    Answered v kindSet r s (requestStep v mine kindSet req s) ∧
      KeepsBut [answerPart v] s (requestStep v mine kindSet req s) := by
  obtain ⟨hanswer, hkeep⟩ := set_answers (ps := []) h hparse hreq hmine hperform
    (KeepsBut.refl _ _) (by simp)
  exact ⟨hanswer, (handledAt_keeps v s).trans hkeep⟩

end Answers

/-! ## The phase table (R56) -/

theorem namesAll_iff (p : List Requester) :
    namesAll p = true ↔
      ∀ r ∈ [Requester.linkA, .linkB, .service, .composer, .driftSave], r ∈ p := by
  simp [namesAll]

/-- A table taken replaces the one in use and sets the pointer to the first phase. -/
theorem setPhaseTable_taken {v : Via (List Requester)} {p : List Requester} {s : State}
    (hl : p.length = 16) (h : Asks v kindSet phaseTableBody p s)
    (hperform : performSet (.phaseTable p) (handledAt v s) = acted .done
      ((handledAt v s).setStore
        { (handledAt v s).store with phaseTable := p, phasePointer := 0 })) :
    Leads (.setPhaseTable v) s fun t =>
      t.store = { s.store with phaseTable := p, phasePointer := 0 } ∧
      Answered v kindSet .done s t ∧ KeepsBut [.store, answerPart v] s t := by
  have hat := handledAt_keeps v s
  obtain ⟨hanswer, hkeep⟩ := set_answers (ps := [.store]) (mine := Request.isPhaseTable)
    (req := fun t : List Requester =>
      if t.length = 16 then some (.set (.phaseTable t)) else none)
    h (parseSet_phaseTable hl) (if_pos hl) rfl hperform
    (setStore_keeps _ (KeepsBut.refl _ _) (by simp)) (by decide)
  refine .intro rfl ⟨?_, hanswer, ?_⟩
  · rw [← hat .store (notMem_answerPart v (by decide))]
    exact hkeep .store (notMem_answerPart v (by decide))
  · exact (setStore_keeps _ (hat.mono (by simp)) (by simp)).trans (hkeep.mono (by simp))

/-! ## A bank's dark policy (R17) -/

/-- The banks once bank `b` has taken the policy: each stands as its state asks. -/
theorem setBankPolicy_banks (b : Nat) (p : DarkPolicy) (s : State) :
    (setBankPolicy b p s).driver.banks =
      (setAt s.driver.banks b fun k => { k with policy := p }).map (bankAfter s.chip.power) :=
  (banksFollow_settleBanks (s.setDriver
    { s.driver with banks := setAt s.driver.banks b fun k => { k with policy := p } })).1

/-- The bank named takes the policy. -/
theorem setBankPolicy_named {b : Nat} {s : State} {k : Bank} (hk : s.driver.banks[b]? = some k)
    (p : DarkPolicy) :
    (setBankPolicy b p s).driver.banks[b]? =
      some (bankAfter s.chip.power { k with policy := p }) := by
  rw [setBankPolicy_banks, List.getElem?_map, getElem?_setAt_same, hk]
  rfl

/-- In a state whose banks stand as their states ask, no other bank moves. -/
theorem setBankPolicy_other {b j : Nat} {s : State} (hs : settleBanks s = s) (hj : j ≠ b)
    (p : DarkPolicy) : (setBankPolicy b p s).driver.banks[j]? = s.driver.banks[j]? := by
  have hsame : s.driver.banks.map (bankAfter s.chip.power) = s.driver.banks := by
    have hb := (banksFollow_settleBanks s).1
    rw [hs] at hb
    exact hb.symm
  rw [setBankPolicy_banks, List.getElem?_map, getElem?_setAt_other _ hj, ← List.getElem?_map, hsame]

/-- While OPEN no bank shows delivered rows. -/
theorem settleBanks_rows_of_open {s : State} (ho : s.chip.config = .opened) :
    (settleBanks s).driver.rows = [] := by
  refine List.filter_eq_nil_iff.mpr fun e _ => ?_
  rw [carries_of_open (s := primeBanks s) _ ho]
  decide

/-- A policy set while OPEN changes only the banks. -/
theorem setBankPolicy_driver {s : State} (ho : s.chip.config = .opened)
    (hs : settleBanks s = s) (b : Nat) (p : DarkPolicy) :
    (setBankPolicy b p s).driver =
      { s.driver with banks := (setBankPolicy b p s).driver.banks } := by
  have hrows : s.driver.rows = [] := by
    rw [← hs]
    exact settleBanks_rows_of_open ho
  have hnew : (setBankPolicy b p s).driver.rows = [] := settleBanks_rows_of_open ho
  have hrest : (setBankPolicy b p s).driver =
      { s.driver with
        banks := (setBankPolicy b p s).driver.banks
        rows := (setBankPolicy b p s).driver.rows } := rfl
  rw [hnew, ← hrows] at hrest
  exact hrest

/-- The banks do not see the port that the message came by. -/
theorem setBankPolicy_handledAt {α : Type} (v : Via α) (b : Nat) (p : DarkPolicy) (s : State) :
    (setBankPolicy b p (handledAt v s)).driver = (setBankPolicy b p s).driver := by
  cases v with
  | port l => cases l <;> rfl
  | tool _ _ => rfl

theorem policyOfCode_eq (v : Int) :
    policyOfCode v =
      if v ≠ 0 ∧ v ≠ 1 then none else some (if v = 0 then .park else .float) := by
  unfold policyOfCode
  split_ifs <;> first | rfl | omega

theorem setDarkPolicy_of_policy {b : Nat} {v : Int} {s : State} {p : DarkPolicy}
    (hopen : ¬s.isClosed = true) (hp : policyOfCode v = some p) :
    setDarkPolicy b v s = acted .done (setBankPolicy b p s) := by
  unfold setDarkPolicy
  rw [if_neg hopen, hp]

theorem setDarkPolicy_of_none {b : Nat} {v : Int} {s : State}
    (hopen : ¬s.isClosed = true) (hp : policyOfCode v = none) :
    setDarkPolicy b v s = acted .refusedBad s := by
  unfold setDarkPolicy
  rw [if_neg hopen, hp]

/-- A policy taken: the bank named follows it, and no other moves where the banks stood as their
states ask. -/
theorem setDarkPolicy_taken {v : Via (Fin 16 × U32)} {b : Fin 16} {w : U32} {s : State}
    {p : DarkPolicy}
    (h : Asks v kindSet (fun q => setBody 10 (BitVec.ofNat 8 q.1.val) q.2) (b, w) s)
    (hopen : s.chip.config = .opened)
    (hperform : performSet (.darkPolicy b.val w.toInt) (handledAt v s) =
      acted .done (setBankPolicy b.val p (handledAt v s))) :
    Leads (.setDarkPolicy v) s fun t =>
      (∀ k, s.driver.banks[b.val]? = some k → t.driver.banks[b.val]? = some
        (bankAfter s.chip.power { k with policy := p })) ∧
      (settleBanks s = s →
        (∀ j, j ≠ b.val → t.driver.banks[j]? = s.driver.banks[j]?) ∧
        t.driver = { s.driver with banks := t.driver.banks }) ∧
      Answered v kindSet .done s t ∧ KeepsBut [.driver, answerPart v] s t := by
  obtain ⟨hanswer, hkeep⟩ := set_answers (ps := [.driver]) (mine := Request.isDarkPolicy)
    (req := fun q => some (.set (.darkPolicy q.1.val (signed32 q.2))))
    h (parseSet_darkPolicy b w) rfl rfl hperform
    (setBankPolicy_keeps _ _ (KeepsBut.refl _ _) (by simp)) (by decide)
  have hdriver := (hkeep.driver_eq (notMem_answerPart v (by decide))).trans
    (setBankPolicy_handledAt v b.val p s)
  refine .intro rfl ⟨fun k hk => ?_, fun hs => ⟨fun j hj => ?_, ?_⟩, hanswer, ?_⟩
  · rw [hdriver]
    exact setBankPolicy_named hk p
  · rw [hdriver]
    exact setBankPolicy_other hs hj p
  · rw [hdriver]
    exact setBankPolicy_driver hopen hs b.val p
  · exact (setBankPolicy_keeps _ _ ((handledAt_keeps v s).mono (by simp)) (by simp)).trans
      (hkeep.mono (by simp))

/-- Settles O32: CLOSED, the owner refuses before it looks at the value; OPEN, `namesAll` and
`policyOfCode` tell what is refused from what is taken. -/
theorem tablesLockedAtClose : Obligations.TablesLockedAtClose := by
  refine ⟨fun v p s hl h => ?_, fun v b w s h => ?_⟩
  · have hparse := parseSet_phaseTable hl
    split_ifs with hc hn
    · exact .intro rfl (set_refused h hparse (if_pos hl) rfl
        (if_pos ((isClosed_handledAt_iff v s).mpr hc)))
    · exact setPhaseTable_taken hl h ((if_neg (mt (isClosed_handledAt_iff v s).mp hc)).trans
        (if_pos ((namesAll_iff p).mpr hn)))
    · exact .intro rfl (set_refused h hparse (if_pos hl) rfl
        ((if_neg (mt (isClosed_handledAt_iff v s).mp hc)).trans
          (if_neg (mt (namesAll_iff p).mp hn))))
  · have hparse := parseSet_darkPolicy b w
    by_cases hc : s.chip.config = .closed
    · rw [if_pos hc]
      exact .intro rfl (set_refused h hparse rfl rfl
        (if_pos ((isClosed_handledAt_iff v s).mpr hc)))
    · have hopen : s.chip.config = .opened := by
        cases hcfg : s.chip.config with
        | opened => rfl
        | closed => exact absurd hcfg hc
      have hlock := mt (isClosed_handledAt_iff v s).mp hc
      have hpolicy := policyOfCode_eq w.toInt
      rw [if_neg hc]
      by_cases hn : w.toInt ≠ 0 ∧ w.toInt ≠ 1
      · rw [if_pos hn] at hpolicy ⊢
        exact .intro rfl (set_refused h hparse rfl rfl (setDarkPolicy_of_none hlock hpolicy))
      · rw [if_neg hn] at hpolicy ⊢
        exact setDarkPolicy_taken h hopen (setDarkPolicy_of_policy hlock hpolicy)

end Sys2Proof.Machine
end

section
/-! The end of a block program (R26, R47, R54, R154, R161, R170): what the slot reads back, what its
requester is told, and what of the requester waits next. -/

namespace Sys2Proof.Machine

/-! ## The completion on a link (R154, R161) -/

section Completion

variable {l : Link} {s : State}

/-- R161: with nothing outstanding the head of the bulk queue, if there is one, is requested. -/
theorem requestHead_of_none (h : (s.link l).outstanding = .none) :
    requestHead l s =
      (setWaiting (nextProgram l (s.link l).bulk s.store.waiting) s).setLink l
        { s.link l with
          outstanding := if (s.link l).bulk = [] then .none else .current } := by
  unfold requestHead
  dsimp only
  rw [h]
  cases hb : (s.link l).bulk with
  | nil =>
    have hsame : ({ s.link l with bulk := [], outstanding := .none } : LinkPort) = s.link l := by
      rw [← hb, ← h]
    dsimp only
    rw [if_pos rfl, hsame]
    cases l <;> rfl
  | cons e rest => cases l <;> rfl

/-- The head of the bulk queue is answered, its credit returned, and the next one requested. -/
theorem completeLink_current {e : BulkEntry} {rest : List BulkEntry} (ok : Bool)
    (ho : (s.link l).outstanding = .current) (hb : (s.link l).bulk = e :: rest) :
    completeLink l ok s =
      (setWaiting (nextProgram l rest s.store.waiting) s).setLink l
        { s.link l with
          bulk := rest, outstanding := if rest = [] then .none else .current
          credits := (s.link l).credits + 1
          sends := (s.link l).sends ++
            [.answer .bulk e.tag kindBlock (if ok = true then .done else .failed) [],
              .credit 1] } := by
  have hsends : ∀ a b : Outgoing, (s.link l).sends ++ [a, b] = (s.link l).sends ++ [a] ++ [b] :=
    fun a b => by rw [List.append_assoc]; rfl
  rw [hsends]
  unfold completeLink
  dsimp only
  rw [ho, hb]
  dsimp only
  rw [requestHead_of_none (by cases l <;> rfl)]
  cases l <;> rfl

/-- After a DOWN nothing is answered; what the link has queued since it is READY again is
requested. -/
theorem completeLink_orphaned {b : Nat} (ok : Bool)
    (ho : (s.link l).outstanding = .orphaned b) :
    let queued := if (s.link l).state = .ready then (s.link l).bulk else []
    completeLink l ok s =
      (setWaiting (nextProgram l queued s.store.waiting) s).setLink l
        { s.link l with outstanding := if queued = [] then .none else .current } := by
  intro queued
  unfold completeLink queued
  dsimp only
  rw [ho]
  dsimp only
  by_cases hr : (s.link l).state = .ready
  · rw [if_pos hr, if_pos hr, requestHead_of_none (by cases l <;> rfl)]
    cases l <;> rfl
  · rw [if_neg hr, if_neg hr]
    cases l <;> rfl

/-! ## The completion on the service line (R167, R169, R170) -/

theorem answerLater_eq (a : ServiceAnswer) (s : State) :
    answerLater a s = s.setService (queueAnswer a s.service) := by
  unfold answerLater State.serviceFull queueAnswer
  by_cases h : s.service.sends.length < 8
  · rw [if_neg (by simpa using h), if_pos h]
    rfl
  · rw [if_pos (by simpa using h), if_neg h]
    rfl

/-- The line once its tool has been told how the program ended, or the answer dropped. -/
def toldCompletion (o : ServiceOutstanding) (r : Result) (v : ServiceLine) : ServiceLine :=
  if o.dropped = true then { v with answerDrops := min 65535 (v.answerDrops + 1) }
  else queueAnswer ⟨o.tag, o.kind, r, [], false⟩ v

/-- The answer does not see the hold. -/
theorem toldCompletion_hold (o : ServiceOutstanding) (r : Result) (h : Option HeldProgram)
    (v : ServiceLine) :
    toldCompletion o r { v with hold := h } = { toldCompletion o r v with hold := h } := by
  unfold toldCompletion queueAnswer
  dsimp only
  split_ifs <;> rfl

theorem completeService_eq {o : ServiceOutstanding} (ok : Bool)
    (ho : s.service.outstanding = some o) :
    completeService ok s = releaseHold (s.setService
      (toldCompletion o (if ok = true then .done else .failed)
        { s.service with outstanding := none })) := by
  unfold completeService
  rw [ho]
  dsimp only
  rw [answerLater_eq]
  unfold toldCompletion
  split_ifs <;> rfl

theorem releaseHold_of_none (h : s.service.hold = none) : releaseHold s = s := by
  unfold releaseHold
  rw [h]

/-- R170: an IDENTITY held since before a CLOSE is answered in its place. -/
theorem releaseHold_of_refused {h : HeldProgram} (hh : s.service.hold = some h)
    (hr : holdRefused s = true) :
    releaseHold s = s.setService
      (queueAnswer ⟨h.tag, kindIdentity, .refusedLocked, [], false⟩
        { s.service with hold := none }) := by
  obtain ⟨tag, program⟩ := h
  unfold holdRefused at hr
  rw [hh] at hr
  unfold releaseHold
  rw [hh]
  cases program with
  | block p => exact Bool.noConfusion hr
  | identity fields =>
    have hc : (s.setService { s.service with hold := none }).isClosed = true :=
      beq_iff_eq.mpr (of_decide_eq_true hr)
    dsimp only
    rw [if_pos hc, answerLater_eq]
    rfl

/-- R170: what the hold has kept is placed, and is the program outstanding. -/
theorem releaseHold_of_placed {h : HeldProgram} (hh : s.service.hold = some h)
    (hr : holdRefused s = false) :
    releaseHold s =
      (setWaiting { s.store.waiting with service := some h.program } s).setService
        { s.service with hold := none, outstanding := some ⟨h.tag, h.program.kind, false⟩ } := by
  obtain ⟨tag, program⟩ := h
  unfold holdRefused at hr
  rw [hh] at hr
  unfold releaseHold
  rw [hh]
  cases program with
  | block p => rfl
  | identity fields =>
    have hc : ¬(s.setService { s.service with hold := none }).isClosed = true := fun hc =>
      of_decide_eq_false hr (beq_iff_eq.mp hc)
    dsimp only
    rw [if_neg hc]
    rfl

/-- The completion changes the service line as `ServiceCompleted` says, and of the rest only what
waits at the arbiter. -/
theorem completeService_completes {o : ServiceOutstanding} (ok : Bool)
    (ho : s.service.outstanding = some o) :
    ∃ v, completeService ok s =
        (setWaiting (heldProgram s s.store.waiting) s).setService v ∧
      ServiceCompleted o (if ok = true then .done else .failed) s
        ((setWaiting (heldProgram s s.store.waiting) s).setService v) := by
  rw [completeService_eq ok ho]
  generalize (if ok = true then Result.done else Result.failed) = r
  have hgone := toldCompletion_hold o r none { s.service with outstanding := none }
  have hhold : (toldCompletion o r { s.service with outstanding := none }).hold =
      s.service.hold := by
    unfold toldCompletion queueAnswer
    split_ifs <;> rfl
  have hrefused : holdRefused (s.setService
      (toldCompletion o r { s.service with outstanding := none })) = holdRefused s := by
    unfold holdRefused
    rw [setService_service, setService_chip, hhold]
  unfold ServiceCompleted heldProgram
  cases hh : s.service.hold with
  | none =>
    have hsame : ({ s.service with outstanding := none } : ServiceLine) =
        { s.service with outstanding := none, hold := none } := by rw [← hh]
    exact ⟨_, releaseHold_of_none (hhold.trans hh), congrArg (toldCompletion o r) hsame⟩
  | some h =>
    cases hr : holdRefused s with
    | true =>
      exact ⟨_, releaseHold_of_refused (hhold.trans hh) (hrefused.trans hr),
        congrArg (queueAnswer ⟨h.tag, kindIdentity, .refusedLocked, [], false⟩) hgone.symm⟩
    | false =>
      exact ⟨_, releaseHold_of_placed (hhold.trans hh) (hrefused.trans hr),
        congrArg (fun v : ServiceLine =>
          { v with outstanding := some ⟨h.tag, h.program.kind, false⟩ }) hgone.symm⟩

/-- The same of a state that the program's end has led to from `s`. -/
theorem completeService_ended {o : ServiceOutstanding} {u : State} (ok : Bool)
    (hk : KeepsBut [.store, .composer] s u) (hw : u.store.waiting = s.store.waiting)
    (ho : s.service.outstanding = some o) :
    ∃ v, completeService ok u =
        (setWaiting (heldProgram s s.store.waiting) u).setService v ∧
      ServiceCompleted o (if ok = true then .done else .failed) s
        ((setWaiting (heldProgram s s.store.waiting) u).setService v) := by
  have hservice : u.service = s.service := hk .service (by decide)
  have hchip : u.chip = s.chip := hk.chip_eq (by decide)
  have hrefused : holdRefused u = holdRefused s := by
    unfold holdRefused
    rw [hservice, hchip]
  have hheld : heldProgram u u.store.waiting = heldProgram s s.store.waiting := by
    unfold heldProgram
    rw [hrefused, hservice, hw]
  obtain ⟨v, htold, hdone⟩ := completeService_completes (s := u) ok (by rw [hservice]; exact ho)
  rw [hheld] at htold hdone
  unfold ServiceCompleted at hdone
  rw [hrefused, hservice] at hdone
  exact ⟨v, htold, hdone⟩

/-- Where none is held, the completion places nothing. -/
theorem heldProgram_of_none (h : s.service.hold = none) (w : Waiting) : heldProgram s w = w := by
  unfold heldProgram
  rw [h]

end Completion

/-! ## The work behind a completion (R54, R114) -/

/-- Where no decision is due and nothing waits, nothing follows. -/
theorem settleWork_of_idle {u : State} (hw : u.store.waiting = Waiting.none)
    (hn : NoDecision u) : settleWork u = u := by
  rw [settleWork, settleComposer_of_noDecision hn,
    settleStore_of_no_winner (winningPhase_of_nothing hw)]

/-! ## The block (R26, R47) -/

theorem readBackValid_iff (c : Stored) :
    readBackValid c = true ↔ c.openMark = false ∧ crc16 c.data = c.crc := by
  simp [readBackValid, crcMatches]

/-- The state once the block stands as read back and the port is free, before its requester is
told. -/
def blockEnded (p : BlockProgram) (content : Stored) (s : State) : State :=
  setPort .free (joinBuild [s.zoneOfBlock p.block] (countProgramFailure (readBackValid content)
    (setBlockState p.block (if readBackValid content = true then .valid else .invalid)
      (setSlot p.block content s))))

theorem exec_blockProgramDone {who : Requester} {p : BlockProgram} {s : State}
    (hp : s.store.port = .granted (.program who p)) (cells : Option Stored) :
    exec (.blockProgramDone cells) s = .next (settleWork
      (reportProgram who (readBackValid (cells.getD ⟨p.records, p.crc, false⟩))
        (blockEnded p (cells.getD ⟨p.records, p.crc, false⟩) s))) := by
  show Host.Outcome.next (blockProgramDone cells s) = _
  rw [blockProgramDone, hp]
  unfold endBlockProgram blockEnded countProgramFailure
  dsimp only
  split_ifs <;> rfl

theorem countProgramFailure_store (ok : Bool) (s : State) :
    (countProgramFailure ok s).store =
      { s.store with
        programFailures :=
          if ok = true then s.store.programFailures
          else min 65535 (s.store.programFailures + 1) } := by
  unfold countProgramFailure
  split_ifs <;> rfl

theorem countProgramFailure_composer (ok : Bool) (s : State) :
    (countProgramFailure ok s).composer = s.composer :=
  countProgramFailure_keeps ok (KeepsBut.refl [.store] s) (by simp) .composer (by decide)

/-- What the end of a program does to the store. -/
theorem blockEnded_store (p : BlockProgram) (content : Stored) (s : State) :
    (blockEnded p content s).store =
      { s.store with
        port := .free, slots := Table.put erasedBlock s.store.slots p.block content
        blockStates := (setBlockState p.block
          (if readBackValid content = true then .valid else .invalid) s).store.blockStates
        programFailures :=
          if readBackValid content = true then s.store.programFailures
          else min 65535 (s.store.programFailures + 1) } := by
  unfold blockEnded setPort joinBuild
  dsimp only [setStore_store, setComposer_store]
  rw [countProgramFailure_store]
  rfl

/-- The zone of the block joins the build set. -/
theorem blockEnded_composer (p : BlockProgram) (content : Stored) (s : State) :
    (blockEnded p content s).composer =
      { s.composer with
        buildSet := (List.range 16).filter fun z =>
          decide (z ∈ s.composer.buildSet ∨ z = s.zoneOfBlock p.block) } := by
  have hset : ((List.range 16).filter fun z =>
        decide (z ∈ s.composer.buildSet ∨ z = s.zoneOfBlock p.block)) =
      (List.range 16).filter fun z =>
        [s.zoneOfBlock p.block].contains z || s.composer.buildSet.contains z := by
    rw [joined_eq]
    exact List.filter_congr fun z _ => decide_eq_decide.mpr or_comm
  rw [hset]
  unfold blockEnded setPort joinBuild
  dsimp only [setStore_composer, setComposer_composer]
  rw [countProgramFailure_composer]
  rfl

theorem blockEnded_keeps (p : BlockProgram) (content : Stored) (s : State) :
    KeepsBut [.store, .composer] s (blockEnded p content s) :=
  setPort_keeps _ (joinBuild_keeps _ (countProgramFailure_keeps _ (setBlockState_keeps _ _
    (setSlot_keeps _ _ (KeepsBut.refl _ s) (by simp)) (by simp)) (by simp)) (by simp)) (by simp)

/-- The store and the composer of `u` once the program of `p` has ended in `s` with the read-back
`content`, where `w` waits at the arbiter. -/
def ProgramStored (p : BlockProgram) (content : Stored) (w : Waiting) (s u : State) : Prop :=
  let ok := content.openMark = false ∧ crc16 content.data = content.crc
  u.slot p.block = content ∧ u.blockState p.block = (if ok then .valid else .invalid) ∧
    (∀ j, j ≠ p.block → u.blockState j = s.blockState j ∧ u.slot j = s.slot j) ∧
    u.store =
      { s.store with
        port := .free, waiting := w, slots := u.store.slots
        blockStates := u.store.blockStates
        programFailures :=
          if ok then s.store.programFailures else min 65535 (s.store.programFailures + 1) } ∧
    u.composer =
      { s.composer with
        buildSet := (List.range 16).filter fun z =>
          decide (z ∈ s.composer.buildSet ∨ z = s.zoneOfBlock p.block) }

/-- What the requester is told changes of the store only what waits. -/
theorem programStored_of_ended {p : BlockProgram} {content : Stored} {w : Waiting} {s u : State}
    (htable : TableLaw s) (hblock : p.block < s.store.blockStates.length)
    (hs : u.store = { (blockEnded p content s).store with waiting := w })
    (hc : u.composer = (blockEnded p content s).composer) : ProgramStored p content w s u := by
  rw [blockEnded_store] at hs
  rw [blockEnded_composer] at hc
  simp only [readBackValid_iff] at hs
  refine ⟨?_, ?_, fun j hj => ⟨?_, ?_⟩, ?_, hc⟩
  · rw [State.slot, hs]
    exact Table.get_put_same erasedBlock htable.2.2 p.block content
  · rw [State.blockState, hs]
    exact blockState_setBlockState_same hblock _
  · rw [State.blockState, hs]
    exact blockState_setBlockState_of_ne hj _ s
  · rw [State.slot, hs]
    exact Table.get_put_other erasedBlock _ hj content
  · rw [hs]

/-! ## The command -/

section Commands

variable {p : BlockProgram} {cells : Option Stored} {s : State}

/-- The requester of a link. -/
def linkRequester : Link → Requester
  | .a => .linkA
  | .b => .linkB

theorem reportProgram_link (l : Link) (ok : Bool) (u : State) :
    reportProgram (linkRequester l) ok u = completeLink l ok u := by cases l <;> rfl

theorem KeepsBut.link_eq {ps : List Part} {t : State} {l : Link} (h : KeepsBut ps s t)
    (hl : linkPart l ∉ ps) : t.link l = s.link l := by
  cases l
  · exact h .linkA hl
  · exact h .linkB hl

theorem blockEnded_waiting (p : BlockProgram) (content : Stored) (s : State) :
    (blockEnded p content s).store.waiting = s.store.waiting := by rw [blockEnded_store]

/-- A link's program has ended: `queue` is what the link has still queued, and `v` its port. -/
theorem blockProgramDone_link {l : Link} {queue : List BulkEntry} {v : LinkPort}
    (hp : s.store.port = .granted (.program (linkRequester l) p)) (htable : TableLaw s)
    (hblock : p.block < s.store.blockStates.length) {content : Stored}
    (hcontent : cells.getD ⟨p.records, p.crc, false⟩ = content)
    (hcomplete : completeLink l (readBackValid content) (blockEnded p content s) =
      (setWaiting (nextProgram l queue (blockEnded p content s).store.waiting)
        (blockEnded p content s)).setLink l v) :
    Leads (.blockProgramDone cells) s fun t => ∃ u,
      ProgramStored p content (nextProgram l queue s.store.waiting) s u ∧ u.link l = v ∧
      KeepsBut [.store, .composer, linkPart l] s u ∧ WorkFollows u t ∧
      (s.store.waiting = Waiting.none → queue = [] → NoDecision u → t = u) := by
  have he := exec_blockProgramDone hp cells
  rw [hcontent, reportProgram_link, hcomplete, blockEnded_waiting] at he
  refine .intro he ⟨_, programStored_of_ended htable hblock ?_ ?_, setLink_link_same _ l v, ?_,
    workFollows_settleWork _, ?_⟩
  · rw [setLink_store]
    rfl
  · rw [setLink_composer]
    rfl
  · exact (setWaiting_keeps _ ((blockEnded_keeps p content s).mono (by simp)) (by simp)).trans
      ((setLink_keepsBut l v _).mono (by simp))
  · rintro hw rfl hn
    exact settleWork_of_idle (by rw [setLink_store]; exact hw) hn

/-- The tool's program has ended. -/
theorem blockProgramDone_service {o : ServiceOutstanding}
    (hp : s.store.port = .granted (.program .service p)) (htable : TableLaw s)
    (hblock : p.block < s.store.blockStates.length) {content : Stored}
    (hcontent : cells.getD ⟨p.records, p.crc, false⟩ = content)
    (ho : s.service.outstanding = some o) :
    Leads (.blockProgramDone cells) s fun t => ∃ u,
      ProgramStored p content (heldProgram s s.store.waiting) s u ∧
      ServiceCompleted o (if readBackValid content = true then .done else .failed) s u ∧
      KeepsBut [.store, .composer, .service] s u ∧ WorkFollows u t ∧
      (s.store.waiting = Waiting.none → s.service.hold = none → NoDecision u → t = u) := by
  have hk := blockEnded_keeps p content s
  obtain ⟨v, htold, hdone⟩ := completeService_ended (readBackValid content) hk
    (blockEnded_waiting p content s) ho
  have he := exec_blockProgramDone hp cells
  rw [hcontent, reportProgram, htold] at he
  let told := (setWaiting (heldProgram s s.store.waiting) (blockEnded p content s)).setService v
  refine .intro he ⟨told, programStored_of_ended htable hblock rfl rfl, hdone, ?_,
    workFollows_settleWork _, fun hw hh hn => settleWork_of_idle ?_ hn⟩
  · exact setService_keeps _ (setWaiting_keeps _ (hk.mono (by simp)) (by simp)) (by simp)
  · exact (heldProgram_of_none hh _).trans hw

end Commands

/-- Settles O43: the block by `blockEnded`; a link's completion is `completeLink_current` or
`completeLink_orphaned`, the tool's `completeService_ended`. -/
theorem blockProgramsEnd : Obligations.BlockProgramsEnd := by
  intro who p cells s hp htable hlen hblock content ok zone stored
  have hlt : p.block < s.store.blockStates.length := by
    rw [hlen]
    exact hblock.trans_le (blockCount_le s)
  have hresult : (if readBackValid content = true then Result.done else .failed) =
      if ok then .done else .failed := if_congr (readBackValid_iff content) rfl rfl
  have hlink := fun l => (blockEnded_keeps p content s).link_eq (l := l) (by cases l <;> decide)
  refine ⟨fun l e rest hwho ho hb => ?_, fun l b hwho ho => ?_, fun o hwho ho => ?_⟩
  · obtain rfl : who = linkRequester l := hwho.trans (by cases l <;> rfl)
    have hc := completeLink_current (s := blockEnded p content s) (e := e) (rest := rest)
      (readBackValid content) (by rw [hlink l]; exact ho) (by rw [hlink l]; exact hb)
    rw [hlink l, hresult] at hc
    exact blockProgramDone_link hp htable hlt rfl hc
  · intro queued
    obtain rfl : who = linkRequester l := hwho.trans (by cases l <;> rfl)
    have hc := completeLink_orphaned (s := blockEnded p content s) (readBackValid content)
      (by rw [hlink l]; exact ho)
    rw [hlink l] at hc
    exact blockProgramDone_link hp htable hlt rfl hc
  · subst hwho
    have hs := blockProgramDone_service (cells := cells) hp htable hlt rfl ho
    rw [hresult] at hs
    exact hs

end Sys2Proof.Machine
end

section
/-! The ends of an identity program and of a drift save (R42, R43, R45, R170, R183, R184, R186): the
record as it is read back, and, behind a marked save, the rest or the leaving of it. -/

namespace Sys2Proof.Machine

/-! ## The identity program (R42, R43) -/

section Identity

variable {fields : List Byte} {content : Stored} {s : State}

theorem joinAll_composer (s : State) :
    (joinAll s).composer = { s.composer with buildSet := List.range 16 } := by
  have hall : ((List.range 16).filter fun z =>
      (List.range 16).contains z || s.composer.buildSet.contains z) = List.range 16 :=
    List.filter_eq_self.mpr fun z hz => by simp only [List.contains_iff_mem.mpr hz, Bool.true_or]
  exact congrArg (fun b => { s.composer with buildSet := b }) hall

/-- The state once the record stands as read back and the port is free, before the tool is told. -/
def identityEnded (content : Stored) (s : State) : State :=
  setPort .free (joinAll (countProgramFailure (identityValid content)
    (loadIdentity (s.setStore { s.store with identity := content }))))

theorem exec_identityProgramDone (hp : s.store.port = .granted (.identity fields))
    (cells : Option Stored) :
    exec (.identityProgramDone cells) s = .next (settleWork
      (completeService (identityValid (cells.getD ⟨fields, crc16 fields, false⟩))
        (identityEnded (cells.getD ⟨fields, crc16 fields, false⟩) s))) := by
  show Host.Outcome.next (identityProgramDone cells s) = _
  rw [identityProgramDone, hp]
  rfl

/-- What the end of the program does to the store. -/
theorem identityEnded_store (content : Stored) (s : State) :
    (identityEnded content s).store =
      { s.store with
        port := .free, identity := content, identityValid := identityValid content
        constants :=
          if identityValid content = true then readIdentity content.data else Constants.default
        programFailures :=
          if identityValid content = true then s.store.programFailures
          else min 65535 (s.store.programFailures + 1) } := by
  unfold identityEnded setPort joinAll joinBuild
  dsimp only [setStore_store, setComposer_store]
  rw [countProgramFailure_store]
  rfl

theorem identityEnded_composer (content : Stored) (s : State) :
    (identityEnded content s).composer = { s.composer with buildSet := List.range 16 } := by
  refine (joinAll_composer _).trans ?_
  rw [countProgramFailure_composer]
  rfl

theorem identityEnded_keeps (content : Stored) (s : State) :
    KeepsBut [.store, .composer] s (identityEnded content s) :=
  setPort_keeps _ (joinAll_keeps (countProgramFailure_keeps _ (loadIdentity_keeps
    (setStore_keeps _ (KeepsBut.refl _ s) (by simp)) (by simp)) (by simp)) (by simp)) (by simp)

/-- The program has ended, and the tool has been told. -/
theorem identityProgramDone_ends {cells : Option Stored} {o : ServiceOutstanding}
    (hp : s.store.port = .granted (.identity fields)) (ho : s.service.outstanding = some o)
    (hcontent : cells.getD ⟨fields, crc16 fields, false⟩ = content) :
    Leads (.identityProgramDone cells) s fun t => ∃ u,
      u.store =
        { (identityEnded content s).store with waiting := heldProgram s s.store.waiting } ∧
      u.composer = (identityEnded content s).composer ∧
      ServiceCompleted o (if identityValid content = true then .done else .failed) s u ∧
      KeepsBut [.store, .composer, .service] s u ∧ WorkFollows u t ∧
      (s.store.waiting = Waiting.none → s.service.hold = none → NoDecision u → t = u) := by
  have hk := identityEnded_keeps content s
  obtain ⟨v, htold, hdone⟩ := completeService_ended (identityValid content) hk
    (by rw [identityEnded_store]) ho
  have he := exec_identityProgramDone hp cells
  rw [hcontent, htold] at he
  let told := (setWaiting (heldProgram s s.store.waiting) (identityEnded content s)).setService v
  refine .intro he ⟨told, rfl, rfl, hdone, ?_, workFollows_settleWork _,
    fun hw hh hn => settleWork_of_idle ?_ hn⟩
  · exact setService_keeps _ (setWaiting_keeps _ (hk.mono (by simp)) (by simp)) (by simp)
  · exact (heldProgram_of_none hh _).trans hw

end Identity

/-! ## The drift save (R45) -/

section Drift

variable {mark : Bool} {content : Stored} {s : State}

/-- The state once the record stands as read back and the port is free. -/
def driftEnded (content : Stored) (s : State) : State :=
  s.setStore
    { s.store with
      drift := content, driftValid := driftValid content, port := .free
      saveFailures :=
        if driftValid content then s.store.saveFailures
        else min 65535 (s.store.saveFailures + 1) }

theorem driftEnded_keeps (content : Stored) (s : State) :
    KeepsBut [.store] s (driftEnded content s) :=
  setStore_keeps _ (KeepsBut.refl _ s) (by simp)

theorem exec_driftSaveDone (hp : s.store.port = .granted (.save mark)) (cells : Option Stored) :
    let ended := driftEnded (cells.getD { s.store.drift with openMark := false }) s
    exec (.driftSaveDone cells) s = .next (conclude [] s (settle
      (if mark ∧ s.chip.power = .restingEntry then enterRest ended else ended))) := by
  show Host.Outcome.next (driftSaveDone cells s) = _
  rw [driftSaveDone, hp]
  rfl

/-- Where the banks are calm, no decision is due and nothing waits, nothing follows. -/
theorem settle_of_idle {u : State} (hc : Calm u) (hw : u.store.waiting = Waiting.none)
    (hn : NoDecision u) : settle u = u := by
  obtain ⟨hbanks, hforce⟩ := hc
  unfold settle
  rw [hbanks, takeDeferred_of_none hn.deferred, settleRender_of_nothing hforce,
    settleWork_of_idle hw hn]

/-- A save without the mark, or one whose mark has lost its occasion, ends with its record. -/
theorem driftSaveDone_plain {cells : Option Stored}
    (hp : s.store.port = .granted (.save mark))
    (hm : mark = false ∨ s.chip.power ≠ .restingEntry)
    (hcontent : cells.getD { s.store.drift with openMark := false } = content) :
    Leads (.driftSaveDone cells) s fun t => ∃ u,
      u.store = (driftEnded content s).store ∧ KeepsBut [.store] s u ∧ Settles u t ∧
      (s.store.waiting = Waiting.none → Calm s → NoDecision s → t = u) := by
  have he := exec_driftSaveDone hp cells
  dsimp only at he
  have hplain : ¬(mark = true ∧ s.chip.power = .restingEntry) := fun h =>
    hm.elim (fun hf => Bool.noConfusion (hf.symm.trans h.1)) fun hf => hf h.2
  have hsettle : KeepsBut [.driver, .composer, .store, .render, .thermal, .wear] s
      (settle (driftEnded content s)) :=
    settle_keeps ((driftEnded_keeps content s).mono (by simp)) (by simp)
  rw [hcontent, if_neg hplain, conclude_of_kept hsettle (by decide) (by decide)] at he
  refine .intro he ⟨_, rfl, driftEnded_keeps content s, settles_settle _, fun hw hc hn => ?_⟩
  have hcalm : Calm (driftEnded content s) :=
    hc.of_store_composer (driftEnded content s).store (c := s.composer) rfl
  exact settle_of_idle hcalm hw (hn.congr rfl rfl rfl)

/-! ## The rest behind a marked save (R183, R184, R186) -/

/-- A change of the power state alone is a report's one cause (R147). -/
theorem causesOf_power {d : State} (ha : d.authority = s.authority)
    (hp : d.chip.power ≠ s.chip.power) : causesOf [] s d = [.power] := by
  simp [causesOf, ha, hp.symm]

/-- R15: in REST the lanes carry 0 or nothing. -/
theorem carries_of_rest (h : s.chip.power = .rest) (b : Nat) :
    s.carries b = .zero ∨ s.carries b = .nothing := by
  have hdark : darkHeld s.chip.power (s.bank b) = true := by
    rw [h]
    rfl
  unfold State.carries
  dsimp only
  rw [if_pos hdark]
  split_ifs
  · exact .inl rfl
  · exact .inl rfl
  · cases (s.bank b).policy
    · exact .inl rfl
    · exact .inr rfl

/-- The state once the record stands and the pilot emitters are off. -/
def driftDimmed (content : Stored) (s : State) : State :=
  setPilotDrive Rgb.zero (driftEnded content s)

theorem driftDimmed_keeps (content : Stored) (s : State) :
    KeepsBut [.store, .driver] s (driftDimmed content s) :=
  setPilotDrive_keeps _ ((driftEnded_keeps content s).mono (by simp)) (by simp)

theorem enterRest_driftEnded_of_none (content : Stored) (h : s.chip.held = .none) :
    enterRest (driftEnded content s) = stayInRest (driftDimmed content s) := by
  have hheld : (driftEnded content s).chip.held = .none := h
  unfold enterRest
  rw [hheld]
  rfl

theorem enterRest_driftEnded_of_held (content : Stored) {p : PowerState}
    (h : s.chip.held = .light ∧ p = .run ∨ s.chip.held = .dark ∧ p = .dark) :
    enterRest (driftEnded content s) = leaveRest p (driftDimmed content s) := by
  have hsame : (driftEnded content s).chip.held = s.chip.held := rfl
  unfold enterRest
  rw [hsame]
  rcases h with ⟨h, rfl⟩ | ⟨h, rfl⟩
  · rw [h]
    rfl
  · rw [h]
    rfl

/-- A marked save's end leads into the rest, or past it where a command is held. -/
theorem exec_driftSaveDone_marked {cells : Option Stored}
    (hp : s.store.port = .granted (.save true)) (hr : s.chip.power = .restingEntry)
    (hcontent : cells.getD { s.store.drift with openMark := false } = content) :
    exec (.driftSaveDone cells) s =
      .next (conclude [] s (settle (enterRest (driftEnded content s)))) := by
  have he := exec_driftSaveDone hp cells
  dsimp only at he
  rw [hcontent, if_pos ⟨rfl, hr⟩] at he
  exact he

/-- What the marked save's step changes does not touch the authority. -/
theorem settle_authority {ps : List Part} {u : State} (hk : KeepsBut ps s u)
    (hp : .authority ∉ ps) : (settle u).authority = s.authority :=
  (settle_keeps (KeepsBut.refl [.driver, .render, .composer, .store, .thermal, .wear] u)
    (by simp) .authority (by decide)).trans (hk .authority hp)

theorem settle_chip (u : State) : (settle u).chip = u.chip :=
  settle_keeps (KeepsBut.refl [.driver, .render, .composer, .store, .thermal, .wear] u)
    (by simp) .chip (by decide)

/-- R183, R184: with no command held the part rests. -/
theorem driftSaveDone_rests {cells : Option Stored}
    (hp : s.store.port = .granted (.save true)) (hr : s.chip.power = .restingEntry)
    (hcontent : cells.getD { s.store.drift with openMark := false } = content)
    (hheld : s.chip.held = .none) :
    LeadsReporting (.driftSaveDone cells) s [.power] fun d =>
      d.chip = { s.chip with power := .rest, restWake := s.settings.restWakeInterval } ∧
      d.timebaseRuns = false ∧ d.composerStopped = true ∧
      (∀ b < 16, d.carries b = .zero ∨ d.carries b = .nothing) ∧
      Settles ((driftDimmed content s).setChip d.chip) d ∧
      (Calm s → s.store.waiting = Waiting.none →
        BanksFollow (driftDimmed content s) d ∧
          KeepsBut [.chip, .driver] (driftDimmed content s) d) := by
  have he := exec_driftSaveDone_marked hp hr hcontent
  rw [enterRest_driftEnded_of_none content hheld] at he
  generalize hw : driftDimmed content s = w at he ⊢
  have hchip : (settle (stayInRest w)).chip =
      { s.chip with power := .rest, restWake := s.settings.restWakeInterval } := by
    rw [settle_chip, ← hw]
    rfl
  have hauthority : (settle (stayInRest w)).authority = s.authority :=
    settle_authority (ps := [.store, .driver, .chip])
      (stayInRest_keeps (hw ▸ (driftDimmed_keeps content s).mono (by simp)) (by simp)) (by decide)
  have hpower : (settle (stayInRest w)).chip.power = .rest := by rw [hchip]
  have hstopped : (stayInRest w).composerStopped = true := Bool.or_true _
  refine .intro he (causesOf_power hauthority (by rw [hpower, hr]; decide))
    ⟨hchip, ?_, ?_, fun b _ => carries_of_rest hpower b, ?_, fun hcalm hnone => ?_⟩
  · unfold State.timebaseRuns
    rw [hpower]
    exact Bool.and_false _
  · unfold State.composerStopped
    rw [hpower]
    exact Bool.or_true _
  · rw [settle_chip]
    exact settles_settle (stayInRest w)
  · have hforce : (∀ z, s.composer.staging ≠ .staged z) ∧ s.render.pendingGain = none :=
      hcalm.2.resolve_left (by simp [State.isRendering, hr])
    have hidle : settle (stayInRest w) = settleBanks (stayInRest w) := by
      rw [settle_of_stopped hstopped, settleRender_of_nothing (.inr (by rw [← hw]; exact hforce)),
        settleStore_of_no_winner (winningPhase_of_nothing (by rw [← hw]; exact hnone))]
    rw [hidle]
    exact ⟨banksFollow_settleBanks (stayInRest w),
      settleBanks_keeps (stayInRest_keeps (KeepsBut.refl _ w) (by simp)) (by simp)⟩

/-- R186: with a command held the part leaves the rest in the same step. -/
theorem driftSaveDone_leaves {cells : Option Stored} {p : PowerState}
    (hp : s.store.port = .granted (.save true)) (hr : s.chip.power = .restingEntry)
    (hcontent : cells.getD { s.store.drift with openMark := false } = content)
    (hheld : s.chip.held = .light ∧ p = .run ∨ s.chip.held = .dark ∧ p = .dark) :
    LeadsReporting (.driftSaveDone cells) s [.power] fun d =>
      LeavesRest p (driftDimmed content s) d := by
  have he := exec_driftSaveDone_marked hp hr hcontent
  rw [enterRest_driftEnded_of_held content hheld] at he
  have hpower : p ≠ s.chip.power := by
    rw [hr]
    rcases hheld with ⟨-, rfl⟩ | ⟨-, rfl⟩ <;> decide
  have hauthority : (settle (leaveRest p (driftDimmed content s))).authority = s.authority :=
    settle_authority (ps := [.store, .driver, .chip, .composer])
      (leaveRest_keeps p ((driftDimmed_keeps content s).mono (by simp)) (by simp)) (by decide)
  exact .intro he (causesOf_power hauthority (by rw [settle_chip]; exact hpower))
    (leavesRest_leaveRest p _)

end Drift

/-- Settles O44: the identity program by `identityEnded` and `completeService_ended`; the drift save
by its mark and by the command that is held. -/
theorem identityAndDriftEnd : Obligations.IdentityAndDriftEnd := by
  refine ⟨fun fields cells o s hp ho => ?_, fun mark cells s hp => ?_⟩
  · intro content ok
    have hends := identityProgramDone_ends (cells := cells) hp ho rfl
    rw [identityEnded_store, identityEnded_composer] at hends
    exact hends
  · intro content stored
    refine ⟨fun hm => driftSaveDone_plain hp hm rfl, ?_⟩
    rintro rfl hr dimmed
    have hdimmed : dimmed (driftDimmed content s) := ⟨rfl, rfl, driftDimmed_keeps content s⟩
    refine ⟨fun hh => ?_, fun p hh => ?_⟩
    · obtain ⟨d, t, he, ⟨hchip, hbase, hstop, hcarries, hsettles, hcalm⟩, hreport⟩ :=
        driftSaveDone_rests (cells := cells) hp hr rfl hh
      exact ⟨d, t, he, ⟨hchip, hbase, hstop, hcarries, driftDimmed content s, hdimmed, hsettles,
        hcalm⟩, hreport⟩
    · obtain ⟨d, t, he, hleaves, hreport⟩ := driftSaveDone_leaves (cells := cells) hp hr rfl hh
      exact ⟨d, t, he, ⟨driftDimmed content s, hdimmed, hleaves⟩, hreport⟩

end Sys2Proof.Machine
end

section
/-! Start-up (R40, R41, R42, R44, R52, R177): what the checks of a block and of the two records are,
where the records' fields lie, and the state that the checks' end leaves with its START round. -/

namespace Sys2Proof.Machine

/-! ## The checks of an item (R40, R41, R44) -/

theorem allErased_iff (c : Stored) :
    allErased c = true ↔ (∀ b ∈ c.data, b = 0xFF) ∧ c.crc = 0xFFFF := by
  simp [allErased]

theorem crcMatches_iff (c : Stored) : crcMatches c = true ↔ crc16 c.data = c.crc := beq_iff_eq

theorem checkBlock_eq (c : Stored) :
    checkBlock c =
      if c.openMark = true then .invalid
      else if (∀ b ∈ c.data, b = 0xFF) ∧ c.crc = 0xFFFF then .blank
      else if crc16 c.data = c.crc then .valid else .invalid := by
  unfold checkBlock
  simp only [allErased_iff, crcMatches_iff]

/-- What holds of the three emitters' fields, written out. -/
theorem forall_lt_three (P : Nat → Prop) : (∀ e < 3, P e) ↔ P 0 ∧ P 1 ∧ P 2 := by
  refine ⟨fun h => ⟨h 0 (by decide), h 1 (by decide), h 2 (by decide)⟩, ?_⟩
  rintro ⟨h0, h1, h2⟩ e he
  interval_cases e
  · exact h0
  · exact h1
  · exact h2

/-- R41: a wear table in its range has its values bounded and its hours rising. -/
theorem WearTable.inRange_iff (t : WearTable) :
    WearTable.inRange t = true ↔
      (∀ e ∈ t, e.2 ≤ 98304) ∧ t.IsChain fun a b => a.1 < b.1 := by
  induction t with
  | nil => simp [WearTable.inRange]
  | cons a t ih =>
    obtain ⟨h0, v0⟩ := a
    cases t with
    | nil => simp [WearTable.inRange]
    | cons b t =>
      obtain ⟨h1, v1⟩ := b
      rw [WearTable.inRange, Bool.and_eq_true, Bool.and_eq_true, ih, List.isChain_cons_cons,
        decide_eq_true_eq, decide_eq_true_eq]
      simp only [List.forall_mem_cons]
      tauto

/-- The same of the table that an identity record holds. -/
theorem inRange_getWearTable (e : Nat) (bs : List Byte) :
    WearTable.inRange (getWearTable e bs) = true ↔
      (∀ i < 8, leNat (slice (18 + 48 * e + 6 * i) 4 bs) ≤ 98304) ∧
      ∀ i < 7, leNat (slice (16 + 48 * e + 6 * i) 2 bs) <
        leNat (slice (22 + 48 * e + 6 * i) 2 bs) := by
  have hnext : ∀ i, 16 + 48 * e + 6 * (i + 1) = 22 + 48 * e + 6 * i := fun i => by omega
  rw [WearTable.inRange_iff, getWearTable, List.isChain_map, List.isChain_range]
  simp only [List.forall_mem_map, List.mem_range, getBreakpoint, getU16, getU32,
    Nat.succ_eq_add_one, hnext]

/-- R41: the ranges of the identity record's fields, emitter by emitter. -/
theorem identityInRange_iff (bs : List Byte) :
    identityInRange bs = true ↔
      -640 ≤ leInt (slice 8 2 bs) ∧ leInt (slice 8 2 bs) ≤ 2000 ∧
      ∀ e < 3, leNat (slice (10 + 2 * e) 2 bs) ≤ 1023 ∧
        WearTable.inRange (getWearTable e bs) = true := by
  rw [forall_lt_three]
  unfold identityInRange
  simp only [Bool.and_eq_true, decide_eq_true_eq]
  simp only [readIdentity, getS16, getU16]
  tauto

theorem identityValid_iff (c : Stored) :
    let u (off n : Nat) : Nat := leNat (slice off n c.data)
    let tRef := leInt (slice 8 2 c.data)
    identityValid c = true ↔
      c.openMark = false ∧ ¬((∀ b ∈ c.data, b = 0xFF) ∧ c.crc = 0xFFFF) ∧
      crc16 c.data = c.crc ∧ -640 ≤ tRef ∧ tRef ≤ 2000 ∧
      (∀ e < 3, u (10 + 2 * e) 2 ≤ 1023 ∧
        (∀ i < 8, u (18 + 48 * e + 6 * i) 4 ≤ 98304) ∧
        ∀ i < 7, u (16 + 48 * e + 6 * i) 2 < u (22 + 48 * e + 6 * i) 2) := by
  intro u tRef
  unfold identityValid
  rw [Bool.and_eq_true, Bool.and_eq_true, Bool.and_eq_true, Bool.not_eq_true', Bool.not_eq_true',
    identityInRange_iff, crcMatches_iff, ← Bool.not_eq_true (allErased c), allErased_iff]
  simp only [inRange_getWearTable, and_assoc]
  rfl

theorem kappaInRange_iff (k : Nat) : kappaInRange k = true ↔ 49152 ≤ k ∧ k ≤ 81920 := by
  simp [kappaInRange]

theorem driftValid_iff (c : Stored) :
    driftValid c = true ↔
      c.openMark = false ∧ crc16 c.data = c.crc ∧
      ∀ e < 3, 49152 ≤ leNat (slice (306 + 4 * e) 4 c.data) ∧
        leNat (slice (306 + 4 * e) 4 c.data) ≤ 81920 := by
  rw [forall_lt_three]
  unfold driftValid
  simp only [Bool.and_eq_true, Bool.not_eq_true', crcMatches_iff, kappaInRange_iff, driftKappa,
    getU32, and_assoc]

/-! ## The records' fields (chapter 13) -/

theorem slice_drop (k off n : Nat) (bs : List Byte) :
    slice off n (bs.drop k) = slice (k + off) n bs := by
  unfold slice
  rw [List.drop_drop]

theorem readIdentity_fields (bs : List Byte) :
    let c := readIdentity bs
    c.serial = slice 0 8 bs ∧ c.tRef = leInt (slice 8 2 bs) ∧
    c.fallback = recordAt 0 (bs.drop 166) ∧
    ∀ e,
      Rgb.get c.beta e = leNat (slice (10 + 2 * Emitter.index e) 2 bs) ∧
      Rgb.get c.ref e = leNat (slice (160 + 2 * Emitter.index e) 2 bs) ∧
      ∀ i < 8, (Rgb.get c.tables e)[i]? = some
        (leNat (slice (16 + 48 * Emitter.index e + 6 * i) 2 bs),
          leNat (slice (18 + 48 * Emitter.index e + 6 * i) 4 bs)) := by
  have htable : ∀ e i, i < 8 → (getWearTable e bs)[i]? = some (getBreakpoint e i bs) :=
    fun e i hi => by
      rw [getWearTable, List.getElem?_map, List.getElem?_range hi, Option.map_some]
  refine ⟨rfl, rfl, ?_, fun e => ⟨?_, ?_, fun i hi => ?_⟩⟩
  · unfold recordAt
    simp only [slice_drop]
    rfl
  · cases e <;> rfl
  · cases e <;> rfl
  · cases e
    · exact htable 0 i hi
    · exact htable 1 i hi
    · exact htable 2 i hi

/-- The counters of a zone or of the pilot emitters in the drift record. -/
theorem get_getWear (off : Nat) (bs : List Byte) (e : Emitter) :
    Rgb.get (getWear off bs) e = leNat (slice (off + 6 * Emitter.index e) 6 bs) := by
  cases e <;> rfl

/-! ## What the checks leave (R42, R44, R52, R177) -/

section Checks

variable {f : StoreFindings} {s : State}

/-- The store behind the checks. -/
def checkedStore (f : StoreFindings) (s : State) : Store :=
  let identity := f.identity.getD s.store.identity
  let drift := f.drift.getD s.store.drift
  let slots := Table.putAll erasedBlock s.store.slots f.slots
  { s.store with
    identity := identity, identityValid := identityValid identity
    constants :=
      if identityValid identity = true then readIdentity identity.data else Constants.default
    slots := slots
    blockStates := s.store.blockStates.zipIdx.map fun e =>
      if e.2 < s.blockCount then checkBlock (Table.get erasedBlock slots e.2) else e.1
    drift := drift
    driftValid := if s.chip.coldStart = true then driftValid drift else s.store.driftValid
    driftReset := if s.chip.coldStart = true then !driftValid drift else s.store.driftReset }

/-- R177: a cold start-up loads the drift record and clears the render table. -/
theorem runChecks_of_cold (h : s.chip.coldStart = true) :
    runChecks f s = checkBlocks (clearTable (loadDrift (loadIdentity (applyFindings f s)))) := by
  have hc : (loadIdentity (applyFindings f s)).chip.coldStart = true := h
  unfold runChecks
  dsimp only
  rw [if_pos hc]

theorem runChecks_of_warm (h : s.chip.coldStart = false) :
    runChecks f s = checkBlocks (loadIdentity (applyFindings f s)) := by
  have hc : ¬(loadIdentity (applyFindings f s)).chip.coldStart = true := Bool.eq_false_iff.mp h
  unfold runChecks
  dsimp only
  rw [if_neg hc]

theorem checkedState_store (f : StoreFindings) (s : State) :
    (checkedState f s).store = { checkedStore f s with port := .free } := by
  unfold checkedState checkedStore
  cases hc : s.chip.coldStart with
  | true =>
    rw [runChecks_of_cold hc]
    rfl
  | false =>
    rw [runChecks_of_warm hc]
    rfl

/-- The state of each block in use is that of its check. -/
theorem getD_checkedStore (hlen : s.store.blockStates.length = 256) (i : Nat) :
    (checkedStore f s).blockStates.getD i .blank =
      if i < s.blockCount then checkBlock (Table.get erasedBlock (checkedStore f s).slots i)
      else s.blockState i := by
  have hcount : s.blockCount ≤ s.store.blockStates.length := hlen ▸ blockCount_le s
  simp only [State.blockState, checkedStore, List.getD_eq_getElem?_getD, List.getElem?_map,
    List.getElem?_zipIdx, Nat.zero_add]
  cases hg : s.store.blockStates[i]? with
  | none =>
    have hi := List.getElem?_eq_none_iff.mp hg
    rw [if_neg (by omega)]
    rfl
  | some b => rfl

theorem checkedState_render_cold (h : s.chip.coldStart = true) :
    (checkedState f s).render =
      { s.render with table := [], zones := List.replicate 16 ⟨false, 0, 0, 0⟩ } := by
  unfold checkedState
  rw [runChecks_of_cold h]
  rfl

theorem checkedState_warm (h : s.chip.coldStart = false) :
    (checkedState f s).render = s.render ∧ (checkedState f s).wear = s.wear := by
  unfold checkedState
  rw [runChecks_of_warm h]
  exact ⟨rfl, rfl⟩

/-- R44: the live values of the wear unit from a drift record. -/
def wearFrom (c : Stored) (w : Wear) : Wear :=
  if driftValid c = true then
    { w with
      zones := (List.range 16).map fun z => getWear (18 * z) c.data
      pilot := getWear 288 c.data
      kappa := driftKappa c.data
      trim := ⟨getS8 318 c.data, getS8 319 c.data, getS8 320 c.data⟩ }
  else
    { w with
      zones := List.replicate 16 ⟨0, 0, 0⟩, pilot := ⟨0, 0, 0⟩
      kappa := ⟨65536, 65536, 65536⟩, trim := ⟨0, 0, 0⟩ }

theorem checkedState_wear_cold (h : s.chip.coldStart = true) :
    (checkedState f s).wear = wearFrom (f.drift.getD s.store.drift) s.wear := by
  unfold checkedState
  rw [runChecks_of_cold h]
  rfl

/-- The fields of a valid record, at their offsets. -/
theorem wearFrom_of_valid {c : Stored} (h : driftValid c = true) (w : Wear) :
    (∀ z < 16, ∀ e, Rgb.get ((wearFrom c w).zones.getD z Rgb.zero) e =
      leNat (slice (6 * (3 * z + Emitter.index e)) 6 c.data)) ∧
    ∀ e,
      Rgb.get (wearFrom c w).pilot e = leNat (slice (288 + 6 * Emitter.index e) 6 c.data) ∧
      Rgb.get (wearFrom c w).kappa e = leNat (slice (306 + 4 * Emitter.index e) 4 c.data) ∧
      Rgb.get (wearFrom c w).trim e = leInt (slice (318 + Emitter.index e) 1 c.data) := by
  unfold wearFrom
  rw [if_pos h]
  refine ⟨fun z hz e => ?_, fun e => ⟨get_getWear 288 c.data e, ?_, ?_⟩⟩
  · have hoff : 18 * z + 6 * Emitter.index e = 6 * (3 * z + Emitter.index e) := by omega
    rw [List.getD_eq_getElem?_getD, List.getElem?_map, List.getElem?_range hz, Option.map_some,
      Option.getD_some, get_getWear, hoff]
  · cases e <;> rfl
  · cases e <;> rfl

theorem wearFrom_of_invalid {c : Stored} (h : driftValid c = false) (w : Wear) :
    wearFrom c w =
      { w with
        zones := List.replicate 16 ⟨0, 0, 0⟩, pilot := ⟨0, 0, 0⟩
        kappa := ⟨65536, 65536, 65536⟩, trim := ⟨0, 0, 0⟩ } :=
  if_neg (Bool.eq_false_iff.mp h)

theorem wearFrom_rest (c : Stored) (w : Wear) :
    wearFrom c w =
      { w with
        zones := (wearFrom c w).zones, pilot := (wearFrom c w).pilot
        kappa := (wearFrom c w).kappa, trim := (wearFrom c w).trim } := by
  unfold wearFrom
  split_ifs <;> rfl

end Checks

/-! ## The START round and the end of the step (R68, R123, R177) -/

/-- The first request of a round that opens on an idle bus is in flight, the others queue. -/
theorem openedRound_sensors (m : RoundMark) {u : State} (hr : u.thermal.round = none)
    (hb : BusIdle u) (hp : u.present ≠ []) :
    RoundPlaced u.present u (startNext (joinRound m u)) := by
  obtain ⟨q, rest, hq⟩ := List.exists_cons_of_ne_nil hp
  have hmem : q ∈ u.settings.sensorMap := by
    have hm : q ∈ u.present := hq ▸ List.mem_cons_self
    simpa using (List.mem_filter.mp hm).2
  have hj := joinRound_of_idle m hr hb hp
  have hn := startNext_of_present (s := joinRound m u) (e := ⟨.temp q, [.thermal]⟩)
    (rest := rest.map fun q => ⟨.temp q, [.thermal]⟩) (by rw [hj]; exact hb.2)
    (by rw [hj, hq]; rfl) (absentFor_of_mem (by rw [hj]; exact hmem))
  refine ⟨q, rest, hq, ?_⟩
  rw [hn, hj]
  rfl

/-- Banks that park and are ACTIVE, with no delivered row, stand as every state asks. -/
theorem settleBanks_of_parked {v : State}
    (hb : ∀ b ∈ v.driver.banks, b.policy = .park ∧ b.priming = .active ∧ b.timer = 0)
    (hr : v.driver.rows = []) : settleBanks v = v := by
  have hsame : ∀ b ∈ v.driver.banks, b.primed (darkHeld v.chip.power b) = b := fun b hm => by
    obtain ⟨hpark, hactive, htimer⟩ := hb b hm
    rw [primed_eq_bankAfter, bankAfter, if_pos hpark, ← hactive, ← htimer]
  have hprime : primeBanks v = v := by
    unfold primeBanks
    rw [List.map_congr_left hsame, List.map_id']
    rfl
  unfold settleBanks forgetRows
  rw [hprime, hr, List.filter_nil, ← hr]
  rfl

/-- Where start-up finds the part as a reset leaves it, nothing follows the round's opening. -/
theorem exec_startupChecksDone_of_reset (f : StoreFindings) {s : State}
    (hp : s.chip.phase = .checking) (ho : s.chip.config = .opened)
    (hc : s.composer = Composer.reset) (hw : s.store.waiting = Waiting.none)
    (hr : s.thermal.round = none) (hb : BusIdle s) (hm : s.present ≠ [])
    (hg : s.render.pendingGain = none) (hrows : s.driver.rows = [])
    (hbanks : ∀ b ∈ s.driver.banks, b.policy = .park ∧ b.priming = .active ∧ b.timer = 0) :
    Leads (.startupChecksDone f) s fun t =>
      KeepsBut [.sensors, .thermal] (checkedState f s) t ∧
      t.thermal = { s.thermal with round := some ⟨s.present, false, false, true⟩ } ∧
      RoundPlaced s.present s t := by
  have hk := checkedState_keeps f s
  have hthermal : (checkedState f s).thermal = s.thermal := hk .thermal (by decide)
  have hsensors : (checkedState f s).sensors = s.sensors := hk .sensors (by decide)
  have hpresent : (checkedState f s).present = s.present := by
    unfold State.present
    rw [hk .settings (by decide)]
  have hidle : BusIdle (checkedState f s) := by
    unfold BusIdle
    rw [hsensors]
    exact hb
  obtain ⟨hopen, hround⟩ := openedRound_frame .start (u := checkedState f s)
    (by rw [hthermal]; exact hr) hidle (by rw [hpresent]; exact hm)
  have hplaced := openedRound_sensors .start (u := checkedState f s)
    (by rw [hthermal]; exact hr) hidle (by rw [hpresent]; exact hm)
  have he := exec_startupChecksDone f hp
  generalize startNext (joinRound .start (checkedState f s)) = v at hopen hround hplaced he
  have hchip : v.chip = (checkedState f s).chip := hopen.chip_eq (by decide)
  have hphase : v.chip.phase = .polling := by rw [hchip]; rfl
  have hconfig : v.chip.config = .opened := by
    rw [hchip, ← ho, ← (runChecks_keeps f s).chip_eq (by decide)]
    rfl
  have hdriver : v.driver = s.driver :=
    (hopen.driver_eq (by decide)).trans (hk.driver_eq (by decide))
  have hstaging : v.composer.staging = .empty := by
    rw [hopen .composer (by decide), checkedState_composer, hc]
    rfl
  have hgain : v.render.pendingGain = none := by
    rw [hopen.render_eq (by decide), checkedState_pendingGain, hg]
  have hcalm : Calm v := by
    refine ⟨settleBanks_of_parked (by rw [hdriver]; exact hbanks) (by rw [hdriver]; exact hrows),
      .inr ⟨fun z => ?_, hgain⟩⟩
    rw [hstaging]
    exact Staging.noConfusion
  have hstopped : v.composerStopped = true := by
    simp [State.composerStopped, State.started, hphase]
  have hnone : v.store.waiting = Waiting.none := by
    rw [hopen .store (by decide), checkedState_store]
    exact hw
  rw [settle_of_calm hstopped hcalm hnone,
    conclude_of_kept hopen (by decide) (by decide)] at he
  rw [hthermal, hpresent] at hround
  unfold RoundPlaced at hplaced ⊢
  rw [hsensors, hpresent] at hplaced
  exact .intro he ⟨hopen, hround, hplaced⟩

/-- What the drift record gives at a cold start-up. -/
theorem coldChecks {f : StoreFindings} {s t : State} (hcold : s.chip.coldStart = true)
    (hk : KeepsBut [.sensors, .thermal] (checkedState f s) t) :
    t.store.driftValid = driftValid t.store.drift ∧
      t.store.driftReset = !driftValid t.store.drift ∧
      t.render = { s.render with table := [], zones := List.replicate 16 ⟨false, 0, 0, 0⟩ } ∧
      t.wear = wearFrom t.store.drift s.wear := by
  have hstore := (hk .store (by decide)).trans (checkedState_store f s)
  have hwear := (hk .wear (by decide)).trans (checkedState_wear_cold hcold)
  rw [hstore]
  exact ⟨if_pos hcold, if_pos hcold,
    (hk.render_eq (by decide)).trans (checkedState_render_cold hcold), hwear⟩

/-- A warm start-up leaves what the drift record and the render table gave before. -/
theorem warmChecks {f : StoreFindings} {s t : State} (hwarm : s.chip.coldStart = false)
    (hk : KeepsBut [.sensors, .thermal] (checkedState f s) t) :
    t.store.driftValid = s.store.driftValid ∧ t.store.driftReset = s.store.driftReset ∧
      t.render = s.render ∧ t.wear = s.wear := by
  have hstore := (hk .store (by decide)).trans (checkedState_store f s)
  have hno : ¬s.chip.coldStart = true := Bool.eq_false_iff.mp hwarm
  obtain ⟨hrender, hwear⟩ := checkedState_warm (f := f) hwarm
  rw [hstore]
  exact ⟨if_neg hno, if_neg hno, (hk.render_eq (by decide)).trans hrender,
    (hk .wear (by decide)).trans hwear⟩

/-- Settles O7: the step by `exec_startupChecksDone_of_reset`, with the store of `checkedStore` and
the wear unit of `wearFrom`; the checks and the fields by their own lemmas. -/
theorem startupChecksAndRound : Obligations.StartupChecksAndRound := by
  refine ⟨fun f s hp ho hrun hc hw hlen hr hb hset hg hrows hbanks => ?_, checkBlock_eq,
    identityValid_iff, driftValid_iff, readIdentity_fields⟩
  have hpresent : s.present = [0, 1, 2, 3] := by
    unfold State.present
    rw [hset]
    rfl
  obtain ⟨t, he, hk, hthermal, hround⟩ := exec_startupChecksDone_of_reset f hp ho hc hw hr hb
    (by rw [hpresent]; exact List.cons_ne_nil _ _) hg hrows hbanks
  rw [hpresent] at hthermal hround
  have hstore := (hk .store (by decide)).trans (checkedState_store f s)
  have hchip : t.chip = { s.chip with phase := .polling } := by
    rw [hk.chip_eq (by decide), ← (runChecks_keeps f s).chip_eq (by decide)]
    rfl
  have hcomposer : t.composer = { s.composer with buildSet := List.range 16 } := by
    rw [hk .composer (by decide), ← runChecks_keeps f s .composer (by decide)]
    exact joinAll_composer (runChecks f s)
  refine .intro he ⟨hchip, ?_, ?_, ?_, ?_, fun i => ?_, ?_, fun hcold => ?_,
    fun hwarm => warmChecks hwarm hk, ?_, hcomposer, hthermal, hround,
    ((checkedState_keeps f s).mono (by simp)).trans (hk.mono (by simp))⟩
  · rw [hstore]
    rfl
  · rw [hstore]
    rfl
  · rw [hstore]
    rfl
  · rw [hstore]
    rfl
  · rw [State.blockState, State.slot, hstore]
    exact getD_checkedStore hlen i
  · rw [hstore]
    rfl
  · obtain ⟨hvalid, hreset, hrender, hwear⟩ := coldChecks hcold hk
    rw [hwear]
    refine ⟨hvalid, hreset, hrender, fun h => wearFrom_of_valid h s.wear, fun h => ?_,
      wearFrom_rest _ _⟩
    rw [wearFrom_of_invalid h]
    exact ⟨rfl, rfl, rfl, rfl⟩
  · rw [hstore]
    rfl

end Sys2Proof.Machine
end

section
/-! What the end of a step can change of the thermal estimator and of the wear unit: a load take
clears the tick count and the sample mark and moves the clear marks on (R63, R74), and nothing else
that follows in a step touches either. -/

namespace Sys2Proof.Machine

-- One proof after the other: side by side their threads want too much memory.
set_option Elab.async false

/-- From `s` to `t` the estimator and the wear unit change by load takes alone. -/
def ChangedByTakes (s t : State) : Prop :=
  t.thermal =
      { s.thermal with
        ticks := t.thermal.ticks, sampleAfterTake := t.thermal.sampleAfterTake } ∧
    t.wear = { s.wear with clearMarks := t.wear.clearMarks }

section Takes

variable {s t u : State}

theorem KeepsBut.changedByTakes {ps : List Part} (k : KeepsBut ps s t)
    (hp : .thermal ∉ ps ∧ .wear ∉ ps := by decide) : ChangedByTakes s t := by
  have ht : t.thermal = s.thermal := k .thermal hp.1
  have hw : t.wear = s.wear := k .wear hp.2
  unfold ChangedByTakes
  rw [ht, hw]
  exact ⟨rfl, rfl⟩

theorem ChangedByTakes.refl (s : State) : ChangedByTakes s s := ⟨rfl, rfl⟩

theorem ChangedByTakes.trans (h : ChangedByTakes s t) (k : ChangedByTakes t u) :
    ChangedByTakes s u := by
  obtain ⟨ht, hw⟩ := h
  obtain ⟨kt, kw⟩ := k
  rw [ht] at kt
  rw [hw] at kw
  exact ⟨kt, kw⟩

theorem ChangedByTakes.temps (h : ChangedByTakes s t) : t.thermal.temps = s.thermal.temps :=
  (congrArg Thermal.temps h.1).trans rfl

theorem startJob_changedByTakes (k : JobKind) (s : State) : ChangedByTakes s (startJob k s) := by
  cases k with
  | gain => exact ⟨rfl, rfl⟩
  | thermal => exact ⟨rfl, rfl⟩
  | build =>
    exact (takeZone_keeps (ps := [.composer, .store])
      (setRunning_keeps _ (KeepsBut.refl _ s) (by simp)) (by simp)).changedByTakes
  | scrub => exact ⟨rfl, rfl⟩

theorem takeDecision_changedByTakes (s : State) : ChangedByTakes s (takeDecision s) := by
  unfold takeDecision
  split
  · exact .refl s
  · exact startJob_changedByTakes _ s
  · exact ⟨rfl, rfl⟩
  · split_ifs
    · exact startJob_changedByTakes _ s
    · exact ⟨rfl, rfl⟩

theorem decideAtPoint_changedByTakes (level left : Nat) (s : State) :
    ChangedByTakes s (decideAtPoint level left s) := by
  unfold decideAtPoint
  split
  · split_ifs
    · exact startJob_changedByTakes _ (pushScrub level left s)
    · exact ⟨rfl, rfl⟩
  · exact ⟨rfl, rfl⟩

theorem settleComposer_changedByTakes (s : State) : ChangedByTakes s (settleComposer s) := by
  unfold settleComposer
  split_ifs
  · exact .refl s
  · split
    · exact takeDecision_changedByTakes s
    · exact decideAtPoint_changedByTakes _ _ s
    · exact .refl s

theorem settleWork_changedByTakes (s : State) : ChangedByTakes s (settleWork s) :=
  (settleComposer_changedByTakes s).trans
    (settleStore_keeps (ps := [.store]) (KeepsBut.refl _ _) (by simp)).changedByTakes

theorem settle_changedByTakes (s : State) : ChangedByTakes s (settle s) := by
  have hk : KeepsBut [.driver, .composer, .store, .render] s
      (settleRender (takeDeferred (settleBanks s))) :=
    settleRender_keeps (takeDeferred_keeps (settleBanks_keeps (KeepsBut.refl _ s) (by simp))
      (by simp)) (by simp)
  exact hk.changedByTakes.trans (settleWork_changedByTakes _)

end Takes

end Sys2Proof.Machine
end

section
/-! The law of the temperatures (R58): a round's end sets the zone temperatures to assigned sensor
temperatures (R68, R69), which are held readings, their mean or the assumed ambient (R59); a THERMAL
job's end steps and clamps them (R66); a reading is held only within its range (R124). -/

namespace Sys2Proof.Machine

-- One proof after the other: side by side their threads want too much memory.
set_option Elab.async false

/-! ## Assigned sensor temperatures (R59) -/

/-- The mean, rounded down, of temperatures in range. -/
theorem mean_inTempRange {l : List Int} (hl : l ≠ []) (h : ∀ v ∈ l, inTempRange v) :
    inTempRange (l.sum / (l.length : Int)) := by
  have hpos : (0 : Int) < (l.length : Int) := by exact_mod_cast List.length_pos_iff.mpr hl
  have hlow : l.length • (-640 : Int) ≤ l.sum := List.card_nsmul_le_sum l _ fun v hv => (h v hv).1
  have hhigh : l.sum ≤ l.length • (2000 : Int) := List.sum_le_card_nsmul l _ fun v hv => (h v hv).2
  simp only [nsmul_eq_mul] at hlow hhigh
  refine ⟨Int.le_ediv_of_mul_le hpos (by linarith), Int.ediv_le_of_le_mul hpos (by linarith)⟩

section TemperatureLaw

variable {s t : State}

/-- A sensor's held reading; a sensor without one reads 0 here. -/
theorem heldReading_inTempRange (h : TemperatureLaw s) (q : Nat) :
    inTempRange ((s.tempRecord q).reading.getD 0) := by
  obtain ⟨-, hreadings, -⟩ := h
  have hzero : inTempRange 0 := by unfold inTempRange; omega
  unfold State.tempRecord
  rw [List.getD_eq_getElem?_getD]
  cases hr : s.sensors.temps[q]? with
  | none => exact hzero
  | some r =>
    rw [Option.getD_some]
    cases hv : r.reading with
    | none => exact hzero
    | some v => exact hreadings r (List.mem_of_getElem? hr) v hv

theorem sensed_inTempRange (h : TemperatureLaw s) (z : Nat) : inTempRange (s.sensed z).1 := by
  unfold State.sensed
  dsimp only
  split_ifs with hq hu
  · exact heldReading_inTempRange h _
  · exact h.2.2
  · rw [← List.length_map (f := fun q => (s.tempRecord q).reading.getD 0)]
    refine mean_inTempRange (by simpa using hu) fun v hv => ?_
    obtain ⟨q, -, rfl⟩ := List.mem_map.mp hv
    exact heldReading_inTempRange h q

/-! ## The law and the parts it speaks of -/

theorem TemperatureLaw.congr (h : TemperatureLaw s) (ht : t.thermal.temps = s.thermal.temps)
    (hs : t.sensors.temps = s.sensors.temps)
    (ha : t.settings.assumedAmbient = s.settings.assumedAmbient) : TemperatureLaw t := by
  unfold TemperatureLaw
  rw [ht, hs, ha]
  exact h

/-- The law speaks of the estimator, the sensor bus and the settings alone. -/
theorem TemperatureLaw.frame {ps : List Part} (h : TemperatureLaw s) (k : KeepsBut ps s t)
    (hp : .thermal ∉ ps ∧ .sensors ∉ ps ∧ .settings ∉ ps := by decide) : TemperatureLaw t := by
  obtain ⟨hthermal, hsensors, hsettings⟩ := hp
  exact h.congr (congrArg Thermal.temps (k .thermal hthermal))
    (congrArg Sensors.temps (k .sensors hsensors))
    (congrArg Settings.assumedAmbient (k .settings hsettings))

theorem TemperatureLaw.ite (p : Prop) [Decidable p] (hs : TemperatureLaw s)
    (ht : TemperatureLaw t) : TemperatureLaw (if p then s else t) := by
  split_ifs
  · exact hs
  · exact ht

/-- New zone temperatures, all in range. -/
theorem TemperatureLaw.of_temps (h : TemperatureLaw s) {v : Thermal}
    (hv : ∀ x ∈ v.temps, inTempRange x) : TemperatureLaw (s.setThermal v) := ⟨hv, h.2⟩

/-- New sensor records, whose readings are all in range. -/
theorem TemperatureLaw.of_records (h : TemperatureLaw s) {v : Sensors}
    (hv : ∀ r ∈ v.temps, ∀ x ∈ r.reading, inTempRange x) : TemperatureLaw (s.setSensors v) :=
  ⟨h.1, hv, h.2.2⟩

theorem temperatureLaw_reset : TemperatureLaw State.reset := by
  refine ⟨fun x hx => ?_, fun r hr x hx => ?_, by unfold inTempRange; decide⟩
  · rw [List.eq_of_mem_replicate (show x ∈ List.replicate 16 400 from hx)]
    unfold inTempRange
    decide
  · rw [List.eq_of_mem_replicate (show r ∈ List.replicate 4 ⟨0, none⟩ from hr)] at hx
    exact nomatch hx

/-! ## What follows inside a step -/

theorem settleWork_temperatureLaw (h : TemperatureLaw s) : TemperatureLaw (settleWork s) := by
  have hk : KeepsBut [.composer, .store, .driver, .thermal, .wear] s (settleWork s) :=
    settleWork_keeps (KeepsBut.refl _ s) (by simp)
  exact h.congr (settleWork_changedByTakes s).temps
    (congrArg Sensors.temps (hk .sensors (by decide)))
    (congrArg Settings.assumedAmbient (hk .settings (by decide)))

theorem settle_temperatureLaw (h : TemperatureLaw s) : TemperatureLaw (settle s) := by
  have hk : KeepsBut [.composer, .store, .driver, .thermal, .wear, .render] s (settle s) :=
    settle_keeps (KeepsBut.refl _ s) (by simp)
  exact h.congr (settle_changedByTakes s).temps
    (congrArg Sensors.temps (hk .sensors (by decide)))
    (congrArg Settings.assumedAmbient (hk .settings (by decide)))

theorem conclude_temperatureLaw (extra : List Cause) (before : State) (h : TemperatureLaw s) :
    TemperatureLaw (conclude extra before s) :=
  h.frame (conclude_keeps (ps := [.linkA, .linkB, .authority, .render]) extra before
    (KeepsBut.refl _ s) (by simp))

/-- The end of a step that may report. -/
theorem concludeSettle_temperatureLaw (extra : List Cause) (before : State)
    (h : TemperatureLaw s) : TemperatureLaw (conclude extra before (settle s)) :=
  conclude_temperatureLaw extra before (settle_temperatureLaw h)

/-! ## Rounds (R60 to R62, R68, R69) -/

theorem senseZones_temperatureLaw (h : TemperatureLaw s) : TemperatureLaw (senseZones s) :=
  h.of_temps fun x hx => by
    obtain ⟨z, -, rfl⟩ := List.mem_map.mp hx
    exact sensed_inTempRange h z

theorem endStartRound_temperatureLaw (h : TemperatureLaw s) :
    TemperatureLaw (endStartRound s) := by
  have hs : TemperatureLaw (if s.chip.coldStart then senseZones s else s) :=
    .ite _ (senseZones_temperatureLaw h) h
  exact hs.frame (setChip_keeps (ps := [.chip]) _ (KeepsBut.refl _ _) (by decide))

theorem endSampleRound_temperatureLaw (h : TemperatureLaw s) :
    TemperatureLaw (endSampleRound s) := by
  have hs := senseZones_temperatureLaw h
  refine TemperatureLaw.frame (ps := [.chip, .driver, .composer]) ?_
    (sampleReported_keeps (KeepsBut.refl _ _) (by simp))
  exact hs.of_temps hs.1

theorem endRound_temperatureLaw (r : Round) (h : TemperatureLaw s) :
    TemperatureLaw (endRound r s) := by
  have hround : TemperatureLaw (setRound none s) := h
  have hstart := TemperatureLaw.ite r.start (endStartRound_temperatureLaw hround) hround
  have hsample := TemperatureLaw.ite r.sample (endSampleRound_temperatureLaw hstart) hstart
  exact .ite r.thermal (hsample.frame (requestThermal_keeps (ps := [.composer])
    (KeepsBut.refl _ _) (by simp))) hsample

/-- A request placed touches no record (R122). -/
theorem placeSensor_temps (r : SensorRequest) (u : SensorUser) (s : State) :
    (placeSensor r u s).sensors.temps = s.sensors.temps := by
  unfold placeSensor
  dsimp only
  split
  · split_ifs <;> rfl
  · split_ifs <;> rfl

theorem placeSensor_temperatureLaw (r : SensorRequest) (u : SensorUser) (h : TemperatureLaw s) :
    TemperatureLaw (placeSensor r u s) := by
  have hk : KeepsBut [.sensors] s (placeSensor r u s) :=
    placeSensor_keeps r u (KeepsBut.refl _ s) (by simp)
  exact h.congr (congrArg Thermal.temps (hk .thermal (by decide))) (placeSensor_temps r u s)
    (congrArg Settings.assumedAmbient (hk .settings (by decide)))

theorem placeSensors_temperatureLaw (qs : List Nat) (h : TemperatureLaw s) :
    TemperatureLaw (qs.foldl (fun s q => placeSensor (.temp q) .thermal s) s) := by
  induction qs generalizing s with
  | nil => exact h
  | cons q qs ih => exact ih (placeSensor_temperatureLaw _ _ h)

theorem joinRound_temperatureLaw (m : RoundMark) (h : TemperatureLaw s) :
    TemperatureLaw (joinRound m s) := by
  unfold joinRound openRound
  split
  · exact h
  · exact .ite _ (endRound_temperatureLaw _ h)
      (placeSensors_temperatureLaw (s := setRound _ s) _ h)

/-! ## The sensor bus (R123 to R128) -/

/-- A good completion of a temperature sensor brings a temperature in range. -/
def Completion.fits : SensorRequest → Completion → Prop
  | .temp _, .good v => inTempRange v
  | .temp _, .bad | .temp _, .missed | .light _, _ => True

/-- R124: a value out of range is no good completion. -/
theorem classify_fits (r : SensorRequest) (f : SensorFrame) :
    Completion.fits r (classify r f) := by
  cases r with
  | light e => trivial
  | temp q =>
    unfold classify
    dsimp only
    split_ifs with hf hv
    · trivial
    · trivial
    · show inTempRange _
      unfold inTempRange
      omega

theorem missed_fits (r : SensorRequest) : Completion.fits r .missed := by cases r <;> trivial

/-- R127: a record holds its reading, or that of a good completion. -/
theorem recordCompletion_temperatureLaw {r : SensorRequest} {c : Completion}
    (hc : Completion.fits r c) (h : TemperatureLaw s) :
    TemperatureLaw (recordCompletion r c s) := by
  have hold := h.2.1
  refine h.of_records fun d hd x hx => ?_
  cases r with
  | light e => exact hold d hd x hx
  | temp q =>
    rcases mem_setAt hd with hd | ⟨a, ha, rfl⟩
    · exact hold d hd x hx
    · cases c with
      | good v =>
        cases hx
        exact hc
      | bad => exact hold a ha x hx
      | missed => exact hold a ha x hx

theorem tempCompletion_temperatureLaw (q : Nat) (h : TemperatureLaw s) :
    TemperatureLaw (tempCompletion q s) := by
  unfold tempCompletion
  split
  · exact .ite _ (.ite _ (endRound_temperatureLaw _ h) h) h
  · exact h

theorem deliverTo_temperatureLaw (r : SensorRequest) (c : Completion) (u : SensorUser)
    (h : TemperatureLaw s) : TemperatureLaw (deliverTo r c u s) := by
  unfold deliverTo
  split
  · exact tempCompletion_temperatureLaw _ h
  · exact h.frame (lightCompletion_keeps (ps := [.wear, .composer, .driver]) _ _
      (KeepsBut.refl _ s) (by simp))
  · exact h
  · exact h

theorem deliver_temperatureLaw (r : SensorRequest) (c : Completion) (us : List SensorUser)
    (h : TemperatureLaw s) : TemperatureLaw (deliver r c us s) := by
  unfold deliver
  induction us generalizing s with
  | nil => exact h
  | cons u us ih => exact ih (deliverTo_temperatureLaw r c u h)

theorem startTransactions_temperatureLaw (n : Nat) (h : TemperatureLaw s) :
    TemperatureLaw (startTransactions n s) := by
  induction n generalizing s with
  | zero => exact h
  | succ n ih =>
    unfold startTransactions
    split
    · exact h
    · exact h
    · exact .ite _ (ih (deliver_temperatureLaw (s := s.setSensors _) _ _ _ h)) h

theorem startNext_temperatureLaw (h : TemperatureLaw s) : TemperatureLaw (startNext s) :=
  startTransactions_temperatureLaw _ h

/-- A round joined or opened, and the transaction that then starts. -/
theorem startJoined_temperatureLaw (m : RoundMark) (h : TemperatureLaw s) :
    TemperatureLaw (startNext (joinRound m s)) :=
  startNext_temperatureLaw (joinRound_temperatureLaw m h)

theorem endTransaction_temperatureLaw (tr : Transaction) {c : Completion}
    (hc : Completion.fits tr.request c) (h : TemperatureLaw s) :
    TemperatureLaw (endTransaction tr c s) :=
  startNext_temperatureLaw (deliver_temperatureLaw _ _ _
    (recordCompletion_temperatureLaw (s := s.setSensors _) hc h))

theorem sensorResponse_temperatureLaw (f : SensorFrame) (h : TemperatureLaw s) :
    TemperatureLaw (sensorResponse f s) := by
  refine .ite _ ?_ h
  split
  · exact .ite _ (endTransaction_temperatureLaw _ (classify_fits _ f) h) h
  · exact h

theorem sensorDeadline_temperatureLaw (h : TemperatureLaw s) :
    TemperatureLaw (sensorDeadline s) := by
  unfold sensorDeadline
  split
  · exact endTransaction_temperatureLaw _ (missed_fits _) h
  · exact h

/-! ## The THERMAL job (R66) -/

/-- R66: every step is clamped. -/
theorem stepsTemp_inTempRange (k : Nat) (e : Int) (n : Nat) {now : Int} (h : inTempRange now) :
    inTempRange (stepsTemp k e n now) := by
  induction n generalizing now with
  | zero => exact h
  | succ n ih => exact ih (clampInt_mem (by decide) _)

theorem endThermal_temperatureLaw (k : LoadTake) (h : TemperatureLaw s) :
    TemperatureLaw (endThermal k s) := by
  refine ⟨fun x hx => ?_, h.2⟩
  have hx : x ∈ if s.thermal.sampleAfterTake then s.thermal.temps
      else s.thermal.temps.zipIdx.map fun e => k.tempAfter s.zonePixels e.2 e.1 := hx
  split_ifs at hx
  · exact h.1 x hx
  · obtain ⟨e, he, rfl⟩ := List.mem_map.mp hx
    exact stepsTemp_inTempRange _ _ _ (h.1 _ (List.fst_mem_of_mem_zipIdx he))

/-! ## The links -/

theorem setLink_temperatureLaw (l : Link) (v : LinkPort) (h : TemperatureLaw s) :
    TemperatureLaw (s.setLink l v) :=
  h.frame (setLink_keeps (ps := [.linkA, .linkB]) l v (KeepsBut.refl _ s) (by decide) (by decide))

theorem passFrameHead_temperatureLaw (l : Link) (body : List Byte) (h : TemperatureLaw s) :
    TemperatureLaw (passFrameHead l body s) := by
  have hc : TemperatureLaw (if sequenceGap (s.link l).lastSequence (getU16 0 body) then
      setCounts l (fun k => { k with sequenceGaps := inc32 k.sequenceGaps }) s else s) :=
    .ite _ (setLink_temperatureLaw l _ h) h
  exact concludeSettle_temperatureLaw _ _ ((setLink_temperatureLaw l _ hc).frame
    (takeFrameHead_keeps (ps := [.linkA, .linkB, .authority, .composer, .render, .driver]) l
      (KeepsBut.refl _ _) (by simp)))

theorem passRow_temperatureLaw (l : Link) (body : List Byte) (h : TemperatureLaw s) :
    TemperatureLaw (passRow l body s) := by
  rcases passRow_cases l body s with hk | ⟨y, pixels, he⟩
  · exact h.frame hk
  · exact he ▸ h

theorem receive_temperatureLaw (l : Link) (kind : Byte) (u : LinkUnit) (h : TemperatureLaw s) :
    TemperatureLaw (receive l kind u s) := by
  rcases receive_cases l kind u s with hk | ⟨-, he⟩ | ⟨-, he⟩
  · exact h.frame hk
  · exact he ▸ passFrameHead_temperatureLaw l u.body h
  · exact he ▸ passRow_temperatureLaw l u.body h

/-! ## Requests -/

/-- R150: of the settings a new hold time changes itself alone. -/
theorem applyHoldTime_temperatureLaw (v : Nat) (h : TemperatureLaw s) :
    TemperatureLaw (applyHoldTime v s) := by
  have stale : ∀ (l : Link) (p : Prop) [Decidable p] {u : State}, TemperatureLaw u →
      TemperatureLaw (if p then becomeStale l u else u) := fun l p _ u hu =>
    .ite p (hu.frame (becomeStale_keeps (ps := [.linkA, .linkB, .authority]) l (KeepsBut.refl _ u)
      (by simp))) hu
  have expiry : ∀ (l : Link) (p : Prop) [Decidable p] {u : State}, TemperatureLaw u →
      TemperatureLaw (if p then holdExpiry l u else u) := fun l p _ u hu =>
    .ite p (hu.frame (holdExpiry_keeps (ps := [.authority, .composer]) l (KeepsBut.refl _ u)
      (by simp))) hu
  exact expiry .b _ (expiry .a _ (stale .b _ (stale .a _ (u := s.setSettings _) h)))

/-- R129: a record stays or is emptied. -/
theorem remapSensors_temperatureLaw (map : List Nat) (h : TemperatureLaw s) :
    TemperatureLaw (remapSensors map s) := by
  refine ⟨h.1, fun d hd x hx => ?_, h.2.2⟩
  obtain ⟨e, he, rfl⟩ := List.mem_map.mp hd
  split_ifs at hx
  · exact h.2.1 _ (List.fst_mem_of_mem_zipIdx he) x hx
  · exact nomatch hx

theorem applySetting_temperatureLaw (x : Setting) (v : Int)
    (hv : x = .assumedAmbient → inTempRange v) (h : TemperatureLaw s) :
    TemperatureLaw (applySetting x v s) := by
  cases x with
  | holdTime => exact settle_temperatureLaw (applyHoldTime_temperatureLaw _ h)
  | blankAfter =>
    exact settle_temperatureLaw (.ite _ (s := blank (s.setSettings _)) (t := s.setSettings _) h h)
  | sensorMap => exact remapSensors_temperatureLaw _ h
  | assumedAmbient => exact ⟨h.1, h.2.1, hv rfl⟩
  | _ => exact h

/-- R180: the assumed ambient is brought into range. -/
theorem brought_assumedAmbient (v : Int) : inTempRange (Setting.brought .assumedAmbient v) :=
  clampInt_mem (by decide) v

theorem performSet_temperatureLaw (op : SetOp) (h : TemperatureLaw s) :
    TemperatureLaw (performSet op s).state := by
  cases op with
  | jobLevel k v =>
    unfold performSet setJobLevel
    dsimp only
    split_ifs
    · exact h
    · exact h
    · exact settleWork_temperatureLaw (s := s.setComposer _) h
  | phaseTable t =>
    unfold performSet setPhaseTable
    dsimp only
    split_ifs <;> exact h
  | darkPolicy b v =>
    unfold performSet setDarkPolicy
    dsimp only
    split_ifs
    · exact h
    · split <;> exact h
  | value x v =>
    have hset : TemperatureLaw (applySetting x (x.brought v) s) :=
      applySetting_temperatureLaw x _ (fun hx => by rw [hx]; exact brought_assumedAmbient v) h
    unfold performSet setValue
    dsimp only
    split_ifs
    · exact h
    · exact h
    · exact hset
    · exact hset

theorem powerCommand_temperatureLaw (o : Origin) {f : State → State}
    (hf : KeepsBut [.chip, .store, .wear, .composer] s (f s)) (h : TemperatureLaw s) :
    TemperatureLaw (powerCommand o f s).state := by
  unfold powerCommand
  split_ifs
  · exact settle_temperatureLaw (h.frame hf)
  · exact h

/-- The owner's rule of a request that links and tool share. -/
theorem perform_temperatureLaw (o : Origin) (r : Request) (h : TemperatureLaw s) :
    TemperatureLaw (perform o r s).state := by
  have hk : KeepsBut [.chip, .store, .wear, .composer] s s := KeepsBut.refl _ s
  cases r with
  | wall r =>
    cases o with
    | link l =>
      exact settleWork_temperatureLaw (h.frame (storeRecord_keeps
        (ps := [.linkA, .linkB, .authority, .composer]) l _ (KeepsBut.refl _ s) (by simp)))
    | tool => exact h
  | take =>
    cases o with
    | link l =>
      unfold perform performTake takeCommand
      dsimp only
      split_ifs <;> exact h
    | tool => exact h
  | dark => exact powerCommand_temperatureLaw o (commandDark_keeps hk (by simp)) h
  | light => exact powerCommand_temperatureLaw o (commandLight_keeps hk (by simp)) h
  | rest => exact powerCommand_temperatureLaw o (commandRest_keeps hk (by simp)) h
  | rebuild zs =>
    unfold perform performRebuild
    dsimp only
    split_ifs
    · exact h
    · exact settleWork_temperatureLaw (s := joinBuild zs s) h
  | query q => exact h
  | set op => exact performSet_temperatureLaw op h
  | close => exact .ite _ h (settle_temperatureLaw (s := s.setChip _) h)
  | reset => exact h

theorem performTool_temperatureLaw (tag : Byte) (r : ToolRequest) (h : TemperatureLaw s) :
    TemperatureLaw (performTool tag r s).state := by
  have hk : KeepsBut [.wear, .store, .composer] s s := KeepsBut.refl _ s
  cases r with
  | shared r => exact perform_temperatureLaw .tool r h
  | block p =>
    unfold performTool toolBlock
    dsimp only
    split_ifs
    · exact h.frame (offerProgram_keeps _ _ s)
    · exact h
  | identity fields =>
    unfold performTool toolIdentity
    dsimp only
    split_ifs
    · exact h
    · exact h.frame (offerProgram_keeps _ _ s)
    · exact h
  | trim codes => exact settleWork_temperatureLaw (h.frame (setTrims_keeps codes hk (by simp)))
  | wearClear z => exact settleWork_temperatureLaw (h.frame (clearWear_keeps z hk (by simp)))
  | bank es => exact h.frame (setBankModes_keeps es (KeepsBut.refl _ s))
  | latch b v => exact h

theorem handlePrompt_temperatureLaw (l : Link) (m : Message) (rest : List Message) (r : Request)
    (h : TemperatureLaw s) : TemperatureLaw (handlePrompt l m rest r s) :=
  (perform_temperatureLaw (.link l) r (setLink_temperatureLaw l _ h)).frame
    (handlePrompt_keeps l m rest r s)

theorem handleFrame_temperatureLaw (tag kind : Byte) (req : Option ToolRequest)
    (h : TemperatureLaw s) : TemperatureLaw (handleFrame tag kind req s) := by
  rcases handleFrame_cases tag kind req s with hk | ⟨r, -, he⟩
  · exact h.frame hk
  · rw [he]
    exact (performTool_temperatureLaw tag r h).frame (answerTool_keeps _ _ _ _)

theorem promptStep_temperatureLaw (l : Link) (mine : Request → Bool) (h : TemperatureLaw s) :
    TemperatureLaw (promptStep l mine s) := by
  rcases promptStep_cases l mine s with he | ⟨m, rest, r, he⟩
  · exact he.symm ▸ h
  · exact he ▸ conclude_temperatureLaw _ _ (handlePrompt_temperatureLaw l m rest r h)

theorem toolStep_temperatureLaw (tag kind : Byte) (req : Option ToolRequest)
    (h : TemperatureLaw s) : TemperatureLaw (toolStep tag kind req s) := by
  rcases toolStep_cases tag kind req s with he | he
  · exact he.symm ▸ h
  · exact he ▸ conclude_temperatureLaw _ _ (handleFrame_temperatureLaw tag kind req h)

theorem requestStep_temperatureLaw {α : Type} (v : Via α) (mine : Request → Bool) (kind : Byte)
    (req : α → Option Request) (h : TemperatureLaw s) :
    TemperatureLaw (requestStep v mine kind req s) := by
  cases v with
  | port l => exact promptStep_temperatureLaw l mine h
  | tool tag a => exact toolStep_temperatureLaw tag kind _ h

/-! ## Service frames -/

theorem endFrame_temperatureLaw (buf : List Byte) (h : TemperatureLaw s) :
    TemperatureLaw (endFrame buf s) :=
  .ite _ (conclude_temperatureLaw _ _
    (handleFrame_temperatureLaw (s := setReceiving none s) _ _ _ h)) h

theorem receiveByte_temperatureLaw (b : LineByte) (h : TemperatureLaw s) :
    TemperatureLaw (receiveByte b s) := by
  have hi : TemperatureLaw (s.setService { s.service with idle := 0 }) := h
  unfold receiveByte
  dsimp only
  split
  · exact .ite _ hi hi
  · exact .ite _ hi (.ite _ hi (.ite _ (endFrame_temperatureLaw _ hi) hi))

theorem receiveBytes_temperatureLaw (bytes : List LineByte) (h : TemperatureLaw s) :
    TemperatureLaw (bytes.foldl (fun s b => receiveByte b s) s) := by
  induction bytes generalizing s with
  | nil => exact h
  | cons b bytes ih => exact ih (receiveByte_temperatureLaw b h)

/-! ## Resets and start-up (R58, R121, R175, R177) -/

theorem coldReset_temperatureLaw (pins : StrapPins) (s : State) :
    TemperatureLaw (coldReset pins s) := temperatureLaw_reset

/-- A warm reset keeps the temperatures and the readings, and sets the ambient to its default. -/
theorem clearWarm_temperatureLaw (h : TemperatureLaw s) : TemperatureLaw (clearWarm s) := by
  obtain ⟨htemps, hreadings, -⟩ := h.frame (abandonGrant_keeps s)
  refine ⟨htemps, fun d hd x hx => ?_, temperatureLaw_reset.2.2⟩
  obtain ⟨e, he, rfl⟩ := List.mem_map.mp hd
  split_ifs at hx
  · exact hreadings _ (List.fst_mem_of_mem_zipIdx he) x hx
  · exact nomatch hx

theorem resetPinRelease_temperatureLaw (pins : StrapPins) (h : TemperatureLaw s) :
    Leads (.resetPinRelease pins) s TemperatureLaw := by
  refine .intro rfl ?_
  split
  · exact coldReset_temperatureLaw _ _
  · exact clearWarm_temperatureLaw (s := setPinLow false s) h
  all_goals exact h

theorem startupChecksDone_temperatureLaw (f : StoreFindings) (h : TemperatureLaw s) :
    TemperatureLaw (startupChecksDone f s) :=
  .ite _ (concludeSettle_temperatureLaw _ _ (startJoined_temperatureLaw (s := checkedState f s) _
    (h.frame (checkedState_keeps f s)))) h

/-! ## Ticks and expiries -/

theorem onTick_temperatureLaw {f : State → State} (hf : TemperatureLaw (f s))
    (h : TemperatureLaw s) : TemperatureLaw (onTick f s) := .ite _ hf h

theorem thermalTick_temperatureLaw (h : TemperatureLaw s) : TemperatureLaw (thermalTick s) :=
  concludeSettle_temperatureLaw _ _
    (startJoined_temperatureLaw (s := (s.setTimebase _).setThermal _) _ h)

theorem pilotTick_temperatureLaw (h : TemperatureLaw s) : TemperatureLaw (pilotTick s) :=
  settleWork_temperatureLaw (h.frame (startSequence_keeps
    (ps := [.wear, .composer, .driver, .timebase]) (setTimebase_keeps _ (KeepsBut.refl _ s)
      (by decide)) (by simp)))

theorem scrubTick_temperatureLaw (h : TemperatureLaw s) : TemperatureLaw (scrubTick s) :=
  settleWork_temperatureLaw (.ite _ (s := s.setTimebase _) h h)

theorem driftSaveTick_temperatureLaw (h : TemperatureLaw s) : TemperatureLaw (driftSaveTick s) :=
  h.frame (settleStore_keeps (ps := [.timebase, .store]) (requestSave_keeps _ (setTimebase_keeps _
    (KeepsBut.refl _ s) (by decide)) (by simp)) (by simp))

theorem restWakeExpiry_temperatureLaw (h : TemperatureLaw s) :
    TemperatureLaw (restWakeExpiry s) :=
  .ite _ (concludeSettle_temperatureLaw _ _
    (startJoined_temperatureLaw (s := clearLoad (s.setChip _)) _ h)) h

theorem settleTimerExpiry_temperatureLaw (h : TemperatureLaw s) :
    TemperatureLaw (settleTimerExpiry s) := by
  unfold settleTimerExpiry
  split
  · exact settle_temperatureLaw (startNext_temperatureLaw
      (placeSensor_temperatureLaw (s := s.setWear _) _ _ h))
  all_goals exact h

theorem ageExpiry_temperatureLaw (l : Link) (h : TemperatureLaw s) :
    TemperatureLaw (ageExpiry l s) :=
  .ite _ (concludeSettle_temperatureLaw _ _ ((setLink_temperatureLaw l _ h).frame
    (linkStale_keeps (ps := [.linkA, .linkB, .authority, .composer]) l (KeepsBut.refl _ _)
      (by simp)))) h

theorem blankAfterExpiry_temperatureLaw (h : TemperatureLaw s) :
    TemperatureLaw (blankAfterExpiry s) :=
  .ite _ (concludeSettle_temperatureLaw (s := blank s) _ _ h) h

theorem linkDown_temperatureLaw (l : Link) (h : TemperatureLaw s) :
    TemperatureLaw (linkDown l s) := by
  have hl : TemperatureLaw (s.setLink l (s.link l).dropped) := setLink_temperatureLaw l _ h
  have hdown : TemperatureLaw (goDown l s) :=
    settle_temperatureLaw ((TemperatureLaw.ite _ (s := dueReset _ _) hl hl).frame
      (authorityDown_keeps (ps := [.linkA, .linkB, .authority, .composer]) l (KeepsBut.refl _ _)
        (by simp)))
  unfold linkDown
  split_ifs
  · exact h
  · split
    · exact h
    · exact setLink_temperatureLaw l _ h
    · exact conclude_temperatureLaw _ _ hdown
    · exact conclude_temperatureLaw _ _ hdown

theorem answerSent_temperatureLaw (who : Sender) (h : TemperatureLaw s) :
    Leads (.answerSent who) s TemperatureLaw := by
  cases who with
  | link l =>
    exact .intro rfl (.ite _ (h.frame (linkSent_keeps (ps := [.linkA, .linkB, .chip]) l
      (KeepsBut.refl _ s) (by simp))) h)
  | service =>
    exact .intro rfl (.ite _ (h.frame (serviceSent_keeps (ps := [.service, .chip])
      (KeepsBut.refl _ s) (by simp))) h)

theorem sync_temperatureLaw (low : Nat) (h : TemperatureLaw s) : TemperatureLaw (sync low s) :=
  .ite _ (.ite _ (concludeSettle_temperatureLaw _ _ (h.frame (reportSync_keeps
    (ps := [.chip, .composer, .service]) (setService_keeps _ (KeepsBut.refl _ s) (by simp))
    (by simp)))) h) h

/-! ## The ends of grants and jobs (R43, R45, R47, R55, R67, R99) -/

theorem onSensor_temperatureLaw {f : State → State} (hf : TemperatureLaw (f s))
    (h : TemperatureLaw s) : TemperatureLaw (onSensor f s) :=
  .ite _ (concludeSettle_temperatureLaw _ _ hf) h

theorem blockReadDone_temperatureLaw (cells : Option Stored) (h : TemperatureLaw s) :
    TemperatureLaw (blockReadDone cells s) := by
  unfold blockReadDone
  split
  · exact settle_temperatureLaw (h.frame (endBlockRead_keeps _ cells s))
  all_goals exact h

theorem programEnded_temperatureLaw {u : State} (who : Requester) (ok : Bool)
    (h : TemperatureLaw u) : TemperatureLaw (settleWork (reportProgram who ok u)) :=
  settleWork_temperatureLaw (h.frame (reportProgram_keeps
    (ps := [.linkA, .linkB, .store, .service]) who ok (KeepsBut.refl _ u) (by simp)))

theorem countProgramFailure_temperatureLaw (ok : Bool) (h : TemperatureLaw s) :
    TemperatureLaw (countProgramFailure ok s) := .ite _ h h

theorem blockProgramDone_temperatureLaw (cells : Option Stored) (h : TemperatureLaw s) :
    TemperatureLaw (blockProgramDone cells s) := by
  unfold blockProgramDone
  split
  · exact programEnded_temperatureLaw (u := setPort .free (joinBuild _ _)) _ _
      (countProgramFailure_temperatureLaw (s := setBlockState _ _ (setSlot _ _ s)) _ h)
  all_goals exact h

theorem identityProgramDone_temperatureLaw (cells : Option Stored) (h : TemperatureLaw s) :
    TemperatureLaw (identityProgramDone cells s) := by
  unfold identityProgramDone
  split
  · exact programEnded_temperatureLaw (u := setPort .free (joinAll _)) .service _
      (countProgramFailure_temperatureLaw (s := loadIdentity (s.setStore _)) _ h)
  all_goals exact h

theorem driftSaveDone_temperatureLaw (cells : Option Stored) (h : TemperatureLaw s) :
    TemperatureLaw (driftSaveDone cells s) := by
  unfold driftSaveDone
  split
  · exact concludeSettle_temperatureLaw _ _ (.ite _ (h.frame (enterRest_keeps
      (ps := [.chip, .driver, .composer, .store]) (setStore_keeps _ (KeepsBut.refl _ s)
        (by decide)) (by simp))) h)
  all_goals exact h

theorem thermalJobEnd_temperatureLaw (h : TemperatureLaw s) : TemperatureLaw (thermalJobEnd s) := by
  unfold thermalJobEnd
  split
  · exact .ite _ h (settleWork_temperatureLaw (endThermal_temperatureLaw _ h))
  all_goals exact h

theorem gainEnd_temperatureLaw (h : TemperatureLaw s) : TemperatureLaw (gainEnd s) := by
  unfold gainEnd
  split
  · exact .ite _ h (concludeSettle_temperatureLaw (s := endGain _ s) _ _ h)
  all_goals exact h

/-! ## Every step -/

/-- Every command keeps the law. -/
theorem leads_temperatureLaw (h : TemperatureLaw s) : ∀ c, Leads c s TemperatureLaw
  | .powerOn pins =>
    .intro rfl (.ite _ (coldReset_temperatureLaw ⟨0, 0, false⟩ s) (coldReset_temperatureLaw pins s))
  | .resetPinRelease pins => resetPinRelease_temperatureLaw pins h
  | .warmReset _ => .intro rfl (.ite _ (clearWarm_temperatureLaw h) h)
  | .startupChecksDone f => .intro rfl (startupChecksDone_temperatureLaw f h)
  | .loadSample =>
    .intro rfl (h.frame (millisecond_keeps
      (ps := [.timebase, .authority, .linkA, .linkB, .wear, .driver]) (KeepsBut.refl _ s)
      (by simp)))
  | .thermalTick => .intro rfl (onTick_temperatureLaw (thermalTick_temperatureLaw h) h)
  | .pilotTick => .intro rfl (onTick_temperatureLaw (pilotTick_temperatureLaw h) h)
  | .scrubTick => .intro rfl (onTick_temperatureLaw (scrubTick_temperatureLaw h) h)
  | .reportTick =>
    .intro rfl (onTick_temperatureLaw (conclude_temperatureLaw (s := s.setTimebase _) _ _ h) h)
  | .driftSaveTick => .intro rfl (onTick_temperatureLaw (driftSaveTick_temperatureLaw h) h)
  | .restWakeExpiry => .intro rfl (restWakeExpiry_temperatureLaw h)
  | .primingTimerExpiry _ => .intro rfl (.ite _ h h)
  | .settleTimerExpiry => .intro rfl (onTick_temperatureLaw (settleTimerExpiry_temperatureLaw h) h)
  | .linkStale l => .intro rfl (onTick_temperatureLaw (ageExpiry_temperatureLaw l h) h)
  | .blankAfterExpiry => .intro rfl (onTick_temperatureLaw (blankAfterExpiry_temperatureLaw h) h)
  | .creditResendTimer l =>
    .intro rfl (.ite _ (h.frame (offerCredits_keeps (ps := [.linkA, .linkB]) l (KeepsBut.refl _ s)
      (by simp))) h)
  | .signalDetected l => .intro rfl (.ite _ (setLink_temperatureLaw l _ h) h)
  | .symbolLock l =>
    .intro rfl (.ite _ (h.frame (offerCredits_keeps (ps := [.linkA, .linkB]) l
      (setLinkState_keeps l _ (KeepsBut.refl _ s) (by simp)) (by simp))) h)
  | .linkDown l => .intro rfl (linkDown_temperatureLaw l h)
  | .init l u | .frameHead l u | .row l u | .promptMessageArrival l _ u | .block (.port l u) =>
    .intro rfl (receive_temperatureLaw l _ u h)
  | .answerSent who => answerSent_temperatureLaw who h
  | .unknownKind l =>
    .intro rfl (h.frame (refusePrompt_keeps (ps := [.linkA, .linkB]) l (KeepsBut.refl _ s)
      (by simp)))
  | .block (.tool _ _) => .intro rfl (toolStep_temperatureLaw _ _ _ h)
  | .wall l | .take l => .intro rfl (promptStep_temperatureLaw l _ h)
  | .dark v | .light v | .rest v | .queryZoneStatus v | .queryStoreStatus v | .queryThermalState v
  | .queryWearState v | .queryGainState v | .queryComposerState v | .querySensorState v
  | .queryAuthorityState v | .queryLinkState v | .queryConfiguration v | .close v | .reset v
  | .rebuild v | .setJobLevel v | .setPhaseTable v | .setDarkPolicy v
  | .setHoldTime v | .setBlankAfter v | .setThermalInterval v | .setK v | .setRho v | .setFCap v
  | .setSensorMap v | .setAssumedAmbient v | .setPilotInterval v | .setScrubInterval v
  | .setReportInterval v | .setDriftSaveInterval v | .setRestWakeInterval v =>
    .intro rfl (requestStep_temperatureLaw v _ _ _ h)
  | .trim _ _ | .wearClear _ _ | .bank _ _ | .latch _ _ _ | .identity _ _ =>
    .intro rfl (toolStep_temperatureLaw _ _ _ h)
  | .sync low => .intro rfl (sync_temperatureLaw low h)
  | .serviceFrame bytes => .intro rfl (.ite _ (receiveBytes_temperatureLaw bytes h) h)
  | .serviceFrameTimeout => .intro rfl (.ite _ h h)
  | .serviceBreak _ =>
    .intro rfl (.ite _ (h.frame (returnToSync_keeps (ps := [.service, .chip])
      (KeepsBut.refl _ s) (by simp))) h)
  | .idle =>
    .intro rfl (.ite _ (h.frame (setService_keeps (ps := [.service, .chip]) _
      (returnToSync_keeps (KeepsBut.refl _ s) (by simp)) (by simp))) h)
  | .sensorResponse f =>
    .intro rfl (onSensor_temperatureLaw (sensorResponse_temperatureLaw f h) h)
  | .sensorDeadline => .intro rfl (onSensor_temperatureLaw (sensorDeadline_temperatureLaw h) h)
  | .blockReadDone cells => .intro rfl (blockReadDone_temperatureLaw cells h)
  | .blockProgramDone cells => .intro rfl (blockProgramDone_temperatureLaw cells h)
  | .identityProgramDone cells => .intro rfl (identityProgramDone_temperatureLaw cells h)
  | .driftSaveDone cells => .intro rfl (driftSaveDone_temperatureLaw cells h)
  | .thermalJobEnd => .intro rfl (thermalJobEnd_temperatureLaw h)
  | .gainEnd => .intro rfl (gainEnd_temperatureLaw h)
  | .resetPinDrivenLow => .intro rfl (.ite _ (clearWarm_temperatureLaw (s := setPinLow true s) h) h)
  | .powerLoss => .intro rfl (coldReset_temperatureLaw ⟨0, 0, false⟩ s)

end TemperatureLaw

/-- Settles O49: on the front command by `leads_temperatureLaw`; an idle second moves the wake
counter alone. -/
theorem temperatureLawIsKept : Obligations.TemperatureLawIsKept := by
  intro s t h hs
  cases hp : s.pending with
  | nil =>
    rw [step_nil hp] at hs
    cases hs
    exact .ite _ (s := s.setChip _) h h
  | cons c rest =>
    rw [step_cons hp] at hs
    exact (leads_temperatureLaw (s := s.setPending rest) h c).of_exec hs

end Sys2Proof.Machine
end

section
/-! The thermal update (R66): one step moves a temperature toward its equilibrium, by at least 1
while they are apart and by no more than what lies between them; so do any number of steps. -/

namespace Sys2Proof.Machine

-- One proof after the other: side by side their threads want too much memory.
set_option Elab.async false

section Steps

variable {k : Nat} {e t d : Int}

/-- R66: toward a higher equilibrium, with truncation. -/
theorem thermalStep_of_pos (hk : k ≤ 255) (hd : 0 < d) :
    1 ≤ thermalStep k d ∧ thermalStep k d ≤ d := by
  have hprod : 0 ≤ d * (k : Int) := by positivity
  have hle : d * (k : Int) ≤ d * 256 := Int.mul_le_mul_of_nonneg_left (by omega) hd.le
  have hpart : (d * (k : Int)).tdiv 256 = d * (k : Int) / 256 :=
    Int.tdiv_eq_ediv_of_nonneg hprod
  unfold thermalStep
  dsimp only
  rw [hpart]
  split_ifs <;> omega

/-- A step down mirrors the step up. -/
theorem thermalStep_neg (k : Nat) (d : Int) : thermalStep k (-d) = -thermalStep k d := by
  unfold thermalStep
  dsimp only
  rw [Int.neg_mul, Int.neg_tdiv]
  split_ifs <;> omega

theorem thermalStep_of_neg (hk : k ≤ 255) (hd : d < 0) :
    d ≤ thermalStep k d ∧ thermalStep k d ≤ -1 := by
  obtain ⟨hlow, hhigh⟩ := thermalStep_of_pos hk (d := -d) (by omega)
  rw [thermalStep_neg] at hlow hhigh
  omega

/-- One step up ends no higher than the equilibrium, and rises unless it is held at 2000. -/
theorem stepTemp_of_lt (hk : k ≤ 255) (hlow : -640 ≤ t) (h : t < e) :
    min 2000 (t + 1) ≤ stepTemp k e t ∧ stepTemp k e t ≤ e := by
  obtain ⟨hrise, hreach⟩ := thermalStep_of_pos hk (d := e - t) (by omega)
  unfold stepTemp clampInt
  omega

/-- One step down ends no lower than the equilibrium. -/
theorem stepTemp_of_gt (hk : k ≤ 255) (he : -640 ≤ e) (hhigh : t ≤ 2000) (h : e < t) :
    e ≤ stepTemp k e t ∧ stepTemp k e t ≤ t := by
  obtain ⟨hreach, hfall⟩ := thermalStep_of_neg hk (d := e - t) (by omega)
  unfold stepTemp clampInt
  omega

/-- At its equilibrium a temperature stays. -/
theorem stepTemp_self (hlow : -640 ≤ t) (hhigh : t ≤ 2000) : stepTemp k t t = t := by
  have hstep : thermalStep k (t - t) = 0 := by simp [thermalStep]
  rw [stepTemp, hstep, Int.add_zero]
  exact clampInt_of_mem hlow hhigh

/-- R66 as the rule words it: the move and its clamp. -/
theorem stepTemp_eq (k : Nat) (e t : Int) :
    stepTemp k e t =
      (let d := e - t
       let part := (d * k).tdiv 256
       let move : Int := if part ≠ 0 then part else if 0 < d then 1 else if d < 0 then -1 else 0
       if t + move < -640 then -640 else if 2000 < t + move then 2000 else t + move) :=
  clampInt_eq_ite (by decide) _

/-- Any number of steps toward an equilibrium not below. -/
theorem stepsTemp_of_le (hk : k ≤ 255) (n : Nat) (hlow : -640 ≤ t) (hhigh : t ≤ 2000)
    (h : t ≤ e) : t ≤ stepsTemp k e n t ∧ stepsTemp k e n t ≤ e := by
  induction n generalizing t with
  | zero => exact ⟨le_rfl, h⟩
  | succ n ih =>
    have hrange : -640 ≤ stepTemp k e t ∧ stepTemp k e t ≤ 2000 := clampInt_mem (by decide) _
    have hstep : t ≤ stepTemp k e t ∧ stepTemp k e t ≤ e := by
      rcases h.lt_or_eq with hlt | rfl
      · have hrise := stepTemp_of_lt hk hlow hlt
        omega
      · rw [stepTemp_self hlow hhigh]
        exact ⟨le_rfl, le_rfl⟩
    obtain ⟨hup, hend⟩ := ih hrange.1 hrange.2 hstep.2
    exact ⟨hstep.1.trans hup, hend⟩

/-- Any number of steps toward an equilibrium not above. -/
theorem stepsTemp_of_ge (hk : k ≤ 255) (n : Nat) (he : -640 ≤ e) (hhigh : t ≤ 2000)
    (h : e ≤ t) : e ≤ stepsTemp k e n t ∧ stepsTemp k e n t ≤ t := by
  induction n generalizing t with
  | zero => exact ⟨h, le_rfl⟩
  | succ n ih =>
    have hstep : e ≤ stepTemp k e t ∧ stepTemp k e t ≤ t := by
      rcases h.lt_or_eq with hlt | rfl
      · exact stepTemp_of_gt hk he hhigh hlt
      · rw [stepTemp_self he hhigh]
        exact ⟨le_rfl, le_rfl⟩
    obtain ⟨hend, hdown⟩ := ih (hstep.2.trans hhigh) hstep.1
    exact ⟨hend, hdown.trans hstep.2⟩

/-- An equilibrium of 2000 or more is climbed toward by 1 at least each step, up to 2000. -/
theorem stepsTemp_held (hk : k ≤ 255) (n : Nat) (he : 2000 ≤ e) (hlow : -640 ≤ t)
    (hhigh : t ≤ 2000) (h : 2000 ≤ t + n) : stepsTemp k e n t = 2000 := by
  induction n generalizing t with
  | zero =>
    rw [stepsTemp]
    omega
  | succ n ih =>
    have hrange : -640 ≤ stepTemp k e t ∧ stepTemp k e t ≤ 2000 := clampInt_mem (by decide) _
    have hclimb : min 2000 (t + 1) ≤ stepTemp k e t := by
      rcases (hhigh.trans he).lt_or_eq with hlt | rfl
      · exact (stepTemp_of_lt hk hlow hlt).1
      · rw [stepTemp_self hlow hhigh]
        omega
    exact ih hrange.1 hrange.2 (by omega)

end Steps

end Sys2Proof.Machine
end

section
/-! The end of a THERMAL job (R64 to R67, R74, R75): what it writes, the GAIN it requests, and what
the decision and the scan behind it leave of both. -/

namespace Sys2Proof.Machine

-- One proof after the other: side by side their threads want too much memory.
set_option Elab.async false

section Job

variable {s : State} {level : Nat} {taken : LoadTake}

theorem exec_thermalJobEnd (hs : s.composerStopped = false)
    (hr : s.composer.running = some ⟨level, .thermal taken⟩) :
    exec .thermalJobEnd s = .next (settleWork (endThermal taken s)) := by
  refine congrArg Host.Outcome.next ?_
  unfold thermalJobEnd
  rw [hr]
  exact if_neg (Bool.eq_false_iff.mp hs)

/-! ## The request for GAIN (R106, R114) -/

/-- A start takes GAIN's request away only to run it. -/
theorem startJob_gainWanted (k : JobKind) (hg : s.composer.gainPending = true) :
    (startJob k s).composer.gainPending = true ∨ (startJob k s).composer.runs .gain = true := by
  cases k with
  | gain => exact .inr rfl
  | build =>
    refine .inl ?_
    simp only [startJob, takeZone, requestBlock]
    split
    · split <;> exact hg
    · exact hg
  | _ => exact .inl hg

theorem takeDecision_gainWanted (hg : s.composer.gainPending = true) :
    (takeDecision s).composer.gainPending = true ∨
      (takeDecision s).composer.runs .gain = true := by
  unfold takeDecision
  split
  · exact .inl hg
  · exact startJob_gainWanted _ hg
  · exact .inl hg
  · split_ifs
    · exact startJob_gainWanted _ hg
    · exact .inl hg

/-- GAIN's request outlives the decision of a free composer, or GAIN runs. -/
theorem settleWork_gainWanted (hr : s.composer.running = none)
    (hg : s.composer.gainPending = true) :
    (settleWork s).composer.gainPending = true ∨ (settleWork s).composer.runs .gain = true := by
  rw [settleWork, settleStore_composer, settleComposer, hr]
  split_ifs
  · exact .inl hg
  · exact takeDecision_gainWanted hg

/-! ## Wear (R74, R75) -/

theorem get_zoneWearAfter (m : ClearMark) (w inc : Rgb Nat) (e : Emitter) :
    Rgb.get (zoneWearAfter m w inc) e =
      if m = .clear then min maxWear (Rgb.get w e + Rgb.get inc e) else Rgb.get w e := by
  cases m with
  | clear => exact Rgb.get_zip _ _ _ e
  | set => rfl
  | taken => rfl

theorem endThermal_zoneWear {z : Nat} {w : Rgb Nat} (hz : s.wear.zones[z]? = some w)
    (e : Emitter) :
    ((endThermal taken s).wear.zones[z]?.map fun u => Rgb.get u e) = some
      (if s.wear.clearMarks.getD z .clear = .clear then
        min maxWear (Rgb.get w e +
          Rgb.get (taken.load.getD z Rgb.zero) e * 4096 / (s.zonePixels * 65535))
      else Rgb.get w e) := by
  have hzones : (endThermal taken s).wear.zones[z]? = some
      (zoneWearAfter (s.wear.clearMarks.getD z .clear) w
        (wearIncrement s.zonePixels (taken.load.getD z Rgb.zero))) := by
    show (s.wear.zones.zipIdx.map _)[z]? = _
    rw [List.getElem?_map, List.getElem?_zipIdx, hz, Option.map_some, Option.map_some, zero_add]
    rfl
  rw [hzones, Option.map_some, get_zoneWearAfter, wearIncrement, Rgb.get_map]

theorem endThermal_pilotWear (e : Emitter) :
    Rgb.get (endThermal taken s).wear.pilot e =
      min maxWear (Rgb.get s.wear.pilot e + Rgb.get taken.pilotLoad e * 4096 / 65535) := by
  show Rgb.get (Rgb.zip (satAdd maxWear) s.wear.pilot (wearIncrement 1 taken.pilotLoad)) e = _
  rw [Rgb.get_zip, wearIncrement, Rgb.get_map, one_mul]
  rfl

end Job

/-! ## The statements -/

/-- Settles O45: `endThermal` writes, `settleWork` follows, and changes of the estimator and the
wear unit only what a load take does (`ChangedByTakes`). -/
theorem thermalJobEnds : Obligations.ThermalJobEnds := by
  intro level taken s hs hr
  obtain ⟨hthermal, hwear⟩ := settleWork_changedByTakes (endThermal taken s)
  have hk : KeepsBut [.thermal, .wear, .composer] s (endThermal taken s) :=
    endThermal_keeps taken (KeepsBut.refl _ s) (by simp)
  refine .intro (exec_thermalJobEnd hs hr) ⟨hthermal, fun z w hz e => ?_, fun e => ?_, ?_, ?_,
    settleWork_gainWanted rfl rfl, settleWork_keeps (hk.mono (by simp)) (by simp),
    endThermal taken s, workFollows_settleWork _, ?_, ?_, rfl, hk⟩
  · rw [hwear]
    exact endThermal_zoneWear hz e
  · rw [hwear]
    exact endThermal_pilotWear e
  · rw [hwear]
    rfl
  · rw [hwear]
    rfl
  · rw [hthermal]
    rfl
  · rw [hwear]
    rfl

/-- Settles O60: the job's end by `exec_thermalJobEnd`; one step by `stepTemp_eq`; any number of
them by `stepsTemp_of_le`, `stepsTemp_of_ge` and `stepsTemp_held`. -/
theorem thermalStepsNeverOvershoot : Obligations.ThermalStepsNeverOvershoot := by
  refine ⟨fun level taken s hs hr hsample => .intro (exec_thermalJobEnd hs hr) fun z now hz => ?_,
    fun k e t _ hk he hlow hhigh => ⟨rfl, fun n => ?_, fun n => ⟨?_, ?_, ?_, ?_⟩⟩⟩
  · rw [(settleWork_changedByTakes _).temps]
    show (if s.thermal.sampleAfterTake then _ else List.map _ _)[z]? = _
    rw [hsample, if_neg Bool.false_ne_true, List.getElem?_map, List.getElem?_zipIdx, hz,
      Option.map_some, Option.map_some, zero_add]
    rfl
  · rw [stepsTemp, stepTemp_eq]
  · exact stepsTemp_inTempRange k e n ⟨hlow, hhigh⟩
  · exact stepsTemp_of_le hk n hlow hhigh
  · exact stepsTemp_of_ge hk n he hhigh
  · exact fun h2000 hn => stepsTemp_held hk n h2000 hlow hhigh hn

end Sys2Proof.Machine
end

section
/-! The SETs of the thermal interval, of f_cap and of the sensor map (R70, R102, R129, R180): their
layout read back, the lock at CLOSE, and what each new value does at its owner. -/

namespace Sys2Proof.Machine

-- One proof after the other: side by side their threads want too much memory.
set_option Elab.async false

/-! ## A SET of a setting with an s32 value -/

section Value

variable {v : Via U32} {w : U32} {s : State} {n : Byte} {x : Setting}

/-- The number of a setting with an s32 value (chapter 12): `n` names `x`, and is none of the numbers
of the job levels, the phase table and the dark policies. -/
def NumberOf (n : Byte) (x : Setting) : Prop :=
  settingOfCode n.toNat = some x ∧ n.toNat ≠ 1 ∧ n.toNat ≠ 2 ∧ n.toNat ≠ 10

theorem numberOf_thermalInterval : NumberOf 5 .thermalInterval := by unfold NumberOf; decide

theorem numberOf_fCap : NumberOf 8 .fCap := by unfold NumberOf; decide

theorem numberOf_sensorMap : NumberOf 9 .sensorMap := by unfold NumberOf; decide

theorem parseSet_value (hn : NumberOf n x) (w : U32) :
    parseSet (setBody n 0 w) = some (.value x w.toInt) := by
  obtain ⟨hcode, h1, h2, h10⟩ := hn
  rw [parseSet_body n 0 w h2, if_neg h1, if_neg h10, if_pos (by rfl), hcode, Option.map_some]

/-- While CLOSED a locked setting is answered REFUSED_LOCKED. -/
theorem valueStep_closed (hn : NumberOf n x) (hx : x.locked = true)
    (hc : s.chip.config = .closed) (h : Asks v kindSet (setBody n 0) w s) :
    Answered v kindSet .refusedLocked s (valueStep x v s) ∧
      KeepsBut [answerPart v] s (valueStep x v s) :=
  set_refused h (parseSet_value hn w) rfl (beq_self_eq_true x)
    (if_pos ⟨(isClosed_handledAt_iff v s).mpr hc, .inl hx⟩)

/-- While OPEN a setting acts on its owner, brought into range; but a sensor map out of range is
refused (R129). -/
theorem valueStep_taken {ps : List Part} (hn : NumberOf n x) (hc : s.chip.config ≠ .closed)
    (hmap : ¬(x = .sensorMap ∧ (w.toInt < 0 ∨ 15 < w.toInt)))
    (h : Asks v kindSet (setBody n 0) w s)
    (hk : ∀ u, KeepsBut ps u (applySetting x (x.brought w.toInt) u))
    (hps : .authority ∉ ps ∧ .chip ∉ ps ∧ .linkA ∉ ps ∧ .linkB ∉ ps ∧ .service ∉ ps) :
    Answered v kindSet (if x.brought w.toInt = w.toInt then .done else .clamped) s
        (valueStep x v s) ∧
      KeepsBut [answerPart v] (applySetting x (x.brought w.toInt) (handledAt v s))
        (valueStep x v s) ∧
      KeepsBut (ps ++ [answerPart v]) s (valueStep x v s) := by
  have hopen : ¬(handledAt v s).isClosed = true := mt (isClosed_handledAt_iff v s).mp hc
  have hperform : performSet (.value x w.toInt) (handledAt v s) =
      acted (if x.brought w.toInt = w.toInt then .done else .clamped)
        (applySetting x (x.brought w.toInt) (handledAt v s)) := by
    show setValue x w.toInt (handledAt v s) = _
    rw [setValue, if_neg (fun hl => hopen hl.1), if_neg hmap]
  obtain ⟨hanswer, hkeep⟩ := set_answers (mine := Request.setsValue x)
    (req := fun w => some (.set (.value x (signed32 w)))) h (parseSet_value hn w) rfl
    (beq_self_eq_true x) hperform (hk _) hps
  refine ⟨hanswer, hkeep, (((handledAt_keeps v s).mono ?_).trans ((hk _).mono ?_)).trans
    (hkeep.mono ?_)⟩ <;> simp

end Value

section Owners

variable {v : Via U32} {w : U32} {s : State}

/-- The owner's fields where it acts are those of the state the request came to. -/
theorem handledAt_settings {α : Type} (v : Via α) (s : State) :
    (handledAt v s).settings = s.settings :=
  handledAt_keeps v s .settings (notMem_answerPart v (by decide))

theorem handledAt_render {α : Type} (v : Via α) (s : State) :
    (handledAt v s).render = s.render :=
  handledAt_keeps v s .render (notMem_answerPart v (by decide))

theorem handledAt_sensors {α : Type} (v : Via α) (s : State) :
    (handledAt v s).sensors = s.sensors :=
  handledAt_keeps v s .sensors (notMem_answerPart v (by decide))

/-! ## The thermal interval (R70) -/

theorem thermalIntervalFor_eq_iff (x : Int) :
    thermalIntervalFor x = x ↔ x ∈ [125, 250, 500, 1000] := by
  simp only [List.mem_cons, List.not_mem_nil, or_false]
  unfold thermalIntervalFor
  split_ifs <;> omega

theorem toNat_thermalIntervalFor (x : Int) :
    (thermalIntervalFor x).toNat =
      if 1000 ≤ x then 1000 else if 500 ≤ x then 500 else if 250 ≤ x then 250 else 125 := by
  unfold thermalIntervalFor
  split_ifs <;> rfl

theorem setThermalInterval_taken (hc : s.chip.config ≠ .closed)
    (h : Asks v kindSet (setBody 5 0) w s) :
    Leads (.setThermalInterval v) s fun t =>
      t.settings.thermalInterval =
        (if 1000 ≤ w.toInt then 1000 else if 500 ≤ w.toInt then 500
        else if 250 ≤ w.toInt then 250 else 125) ∧
      t.settings = { s.settings with thermalInterval := t.settings.thermalInterval } ∧
      Answered v kindSet
        (if w.toInt ∈ [125, 250, 500, 1000] then .done else .clamped) s t ∧
      KeepsBut [.settings, answerPart v] s t := by
  obtain ⟨hanswer, hkeep, hkept⟩ := valueStep_taken (ps := [.settings])
    numberOf_thermalInterval hc (by simp) h
    (fun u => setSettings_keeps _ (KeepsBut.refl _ u) (by simp)) (by decide)
  have hsettings : (valueStep .thermalInterval v s).settings =
      { s.settings with thermalInterval := (thermalIntervalFor w.toInt).toNat } := by
    rw [← handledAt_settings v s]
    exact hkeep .settings (notMem_answerPart v (by decide))
  refine .intro rfl ⟨?_, ?_, ?_, hkept⟩
  · rw [hsettings]
    exact toNat_thermalIntervalFor _
  · rw [hsettings]
  · simp only [Setting.brought, thermalIntervalFor_eq_iff] at hanswer
    exact hanswer

/-! ## f_cap (R102) -/

theorem setFCap_taken (hc : s.chip.config ≠ .closed) (h : Asks v kindSet (setBody 8 0) w s) :
    Leads (.setFCap v) s fun t =>
      (t.settings.fCap : Int) =
        (if w.toInt < 65536 then 65536 else if 131072 < w.toInt then 131072 else w.toInt) ∧
      t.settings = { s.settings with fCap := t.settings.fCap } ∧
      t.render =
        { s.render with
          applied := s.render.applied.map (Rgb.map fun f => min t.settings.fCap f)
          pendingGain :=
            s.render.pendingGain.map (List.map (Rgb.map fun f => min t.settings.fCap f)) } ∧
      Answered v kindSet
        (if 65536 ≤ w.toInt ∧ w.toInt ≤ 131072 then .done else .clamped) s t ∧
      KeepsBut [.settings, .render, answerPart v] s t := by
  obtain ⟨hanswer, hkeep, hkept⟩ := valueStep_taken (ps := [.settings, .render])
    numberOf_fCap hc (by simp) h
    (fun u => capGains_keeps _ (setSettings_keeps _ (KeepsBut.refl _ u) (by simp)) (by simp))
    (by decide)
  have hsettings : (valueStep .fCap v s).settings =
      { s.settings with fCap := (clampInt 65536 131072 w.toInt).toNat } := by
    rw [← handledAt_settings v s]
    exact hkeep .settings (notMem_answerPart v (by decide))
  have hrender : (valueStep .fCap v s).render =
      { s.render with
        applied := s.render.applied.map (Rgb.map (min (clampInt 65536 131072 w.toInt).toNat))
        pendingGain := s.render.pendingGain.map
          (List.map (Rgb.map (min (clampInt 65536 131072 w.toInt).toNat))) } := by
    rw [← handledAt_render v s]
    exact hkeep.render_eq (notMem_answerPart v (by decide))
  refine .intro rfl ⟨?_, ?_, ?_, ?_, hkept⟩
  · rw [hsettings, ← clampInt_eq_ite (by decide)]
    have hrange := clampInt_mem (lo := 65536) (hi := 131072) (by decide) w.toInt
    exact Int.toNat_of_nonneg (by omega)
  · rw [hsettings]
  · rw [hrender, hsettings]
  · have hin : clampInt 65536 131072 w.toInt = w.toInt ↔
        65536 ≤ w.toInt ∧ w.toInt ≤ 131072 := by
      unfold clampInt
      omega
    simp only [Setting.brought, hin] at hanswer
    exact hanswer

/-! ## The sensor map (R129) -/

/-- The mask's bits name the sensors. -/
theorem mem_mapOfMask {w : U32} (hw : 0 ≤ w.toInt) (q : Nat) :
    q ∈ mapOfMask w.toInt ↔ q < 4 ∧ w.getLsbD q = true := by
  have hnat : w.toInt.toNat = w.toNat := by
    rw [BitVec.toInt_eq_toNat_cond] at hw ⊢
    split_ifs at hw ⊢ <;> omega
  unfold mapOfMask
  rw [List.mem_filter, List.mem_range, hnat]
  rfl

/-- A record stays where its sensor neither leaves nor joins, and is emptied otherwise. -/
theorem tempRecord_remapSensors (map : List Nat) (s : State) (q : Nat) :
    (remapSensors map s).tempRecord q =
      if (q ∈ map ↔ q ∈ s.settings.sensorMap) then s.tempRecord q else ⟨0, none⟩ := by
  have hsame : (map.contains q == s.settings.sensorMap.contains q) = true ↔
      (q ∈ map ↔ q ∈ s.settings.sensorMap) := by
    rw [beq_iff_eq, Bool.eq_iff_iff, List.contains_iff_mem, List.contains_iff_mem]
  show (List.map _ s.sensors.temps.zipIdx).getD q _ = _
  unfold State.tempRecord
  rw [List.getD_eq_getElem?_getD, List.getD_eq_getElem?_getD, List.getElem?_map,
    List.getElem?_zipIdx]
  cases s.sensors.temps[q]? with
  | none => exact (ite_self _).symm
  | some r =>
    simp only [Option.map_some, Option.getD_some, zero_add, hsame]

theorem setSensorMap_taken (hc : s.chip.config ≠ .closed)
    (hw : ¬(w.toInt < 0 ∨ 15 < w.toInt)) (h : Asks v kindSet (setBody 9 0) w s) :
    Leads (.setSensorMap v) s fun t =>
      (∀ q, q ∈ t.settings.sensorMap ↔ q < 4 ∧ w.getLsbD q = true) ∧
      t.settings = { s.settings with sensorMap := t.settings.sensorMap } ∧
      (∀ q < 4, t.tempRecord q =
        if (q ∈ t.settings.sensorMap ↔ q ∈ s.settings.sensorMap) then s.tempRecord q
        else ⟨0, none⟩) ∧
      t.sensors = { s.sensors with temps := t.sensors.temps } ∧
      Answered v kindSet .done s t ∧ KeepsBut [.settings, .sensors, answerPart v] s t := by
  obtain ⟨hanswer, hkeep, hkept⟩ := valueStep_taken (ps := [.settings, .sensors])
    numberOf_sensorMap hc (fun hm => hw hm.2) h
    (fun u => remapSensors_keeps _ (KeepsBut.refl _ u) (by simp)) (by decide)
  have hsettings : (valueStep .sensorMap v s).settings =
      { s.settings with sensorMap := mapOfMask w.toInt } := by
    rw [← handledAt_settings v s]
    exact hkeep .settings (notMem_answerPart v (by decide))
  have hsensors : (valueStep .sensorMap v s).sensors =
      (remapSensors (mapOfMask w.toInt) s).sensors := by
    refine (hkeep .sensors (notMem_answerPart v (by decide))).trans ?_
    show (remapSensors (mapOfMask w.toInt) (handledAt v s)).sensors = _
    unfold remapSensors
    dsimp only
    rw [handledAt_settings, handledAt_sensors]
    rfl
  refine .intro rfl ⟨fun q => ?_, ?_, fun q _ => ?_, ?_, ?_, hkept⟩
  · rw [hsettings]
    exact mem_mapOfMask (by omega) q
  · rw [hsettings]
  · rw [hsettings, ← tempRecord_remapSensors]
    exact congrArg (fun n : Sensors => n.temps.getD q ⟨0, none⟩) hsensors
  · rw [hsensors]
    rfl
  · rw [if_pos (by rfl)] at hanswer
    exact hanswer

end Owners

/-- Settles O29: CLOSED, each is refused (`valueStep_closed`); OPEN, a mask out of range is refused
and every other value acts on its owner (`valueStep_taken`). -/
theorem ownersTakeTheirSettings : Obligations.OwnersTakeTheirSettings := by
  refine fun v w s => ⟨fun h => ?_, fun h => ?_, fun h => ?_⟩ <;>
    by_cases hc : s.chip.config = .closed
  · rw [if_pos hc]
    exact .intro rfl (valueStep_closed numberOf_thermalInterval rfl hc h)
  · rw [if_neg hc]
    exact setThermalInterval_taken hc h
  · rw [if_pos hc]
    exact .intro rfl (valueStep_closed numberOf_fCap rfl hc h)
  · rw [if_neg hc]
    exact setFCap_taken hc h
  · rw [if_pos hc]
    exact .intro rfl (valueStep_closed numberOf_sensorMap rfl hc h)
  · rw [if_neg hc]
    by_cases hw : w.toInt < 0 ∨ 15 < w.toInt
    · rw [if_pos hw]
      exact .intro rfl (set_refused h (parseSet_value numberOf_sensorMap w) rfl rfl
        ((if_neg fun hl => mt (isClosed_handledAt_iff v s).mp hc hl.1).trans
          (if_pos ⟨rfl, hw⟩)))
    · rw [if_neg hw]
      exact setSensorMap_taken hc hw h

end Sys2Proof.Machine
end

section
/-! The thermal tick's round (R60 to R62, R107): it joins the open round, or opens one on an idle
bus, behind a light transaction, or, with no sensor in the map, to its end at once. -/

namespace Sys2Proof.Machine

-- One proof after the other: side by side their threads want too much memory.
set_option Elab.async false

section Tick

variable {s t u : State}

/-! ## What keeps a state steady -/

/-- What the banks do is a matter of the chip, the authority and the driver. -/
theorem settleBanks_congr (hc : t.chip = s.chip) (ha : t.authority = s.authority)
    (hd : t.driver = s.driver) : settleBanks t = t.setDriver (settleBanks s).driver := by
  unfold settleBanks forgetRows primeBanks State.carries State.bank State.height
  simp only [setDriver_chip, setDriver_authority, setDriver_driver, hc, ha, hd]
  rfl

/-- The parts of the state that a thermal tick's round can move. -/
def tickParts : List Part := [.thermal, .timebase, .sensors, .composer]

/-- A steady state stays steady through a thermal tick's round, as long as no decision comes due and
nothing is staged. -/
theorem Steady.through_tick (h : Steady s) (k : KeepsBut tickParts s u) (hn : NoDecision u)
    (hst : u.composer.staging = s.composer.staging) : Steady u := by
  obtain ⟨_, hbanks, hforce, hseeks⟩ := h
  have hchip : u.chip = s.chip := k.chip_eq (by decide)
  have hauth : u.authority = s.authority := k.authority_eq (by decide)
  have hdriver : u.driver = s.driver := k.driver_eq (by decide)
  have hrender : u.render = s.render := k.render_eq (by decide)
  have hstore : u.store = s.store := k .store (by decide)
  refine ⟨hn, ?_, ?_, ?_⟩
  · rw [settleBanks_congr hchip hauth hdriver, hbanks, ← hdriver]
    rfl
  · rw [isRendering_congr hchip (by rw [hauth]), hst, hrender]
    exact hforce
  · rw [hstore]
    exact hseeks.imp_right fun hno r hr =>
      hno r (hr.congr hstore.symm (by rw [hchip]) (by rw [hchip]))

/-- So does one that leaves the composer alone. -/
theorem Steady.through_quiet_tick (h : Steady s) (k : KeepsBut tickParts s u)
    (hc : u.composer = s.composer) : Steady u := by
  have hchip : u.chip = s.chip := k.chip_eq (by decide)
  exact h.through_tick k (h.1.congr hc (by rw [hchip]) (by rw [hchip])) (by rw [hc])

/-! ## The tick's own rule (R60) -/

/-- The tick starts its interval again and is counted; the round is still to come. -/
def ticked (s : State) : State :=
  (s.setTimebase { s.timebase with thermal := s.settings.thermalInterval }).setThermal
    { s.thermal with ticks := min 255 (s.thermal.ticks + 1) }

theorem ticked_keeps (s : State) : KeepsBut [.thermal, .timebase] s (ticked s) :=
  setThermal_keeps _ (setTimebase_keeps _ (KeepsBut.refl _ s) (by decide)) (by decide)

/-- The tick has been counted and its round, if one stays open, is `r`. -/
def TickCounted (s : State) (r : Option Round) (u : State) : Prop :=
  u.thermal = { s.thermal with ticks := min 255 (s.thermal.ticks + 1), round := r } ∧
    u.timebase = { s.timebase with thermal := s.settings.thermalInterval }

/-- A tick whose round moves only the estimator, the bus and the composer gives no report. -/
theorem exec_thermalTick (hs : s.timebaseRuns = true)
    (hu : startNext (joinRound .thermal (ticked s)) = u) (k : KeepsBut tickParts (ticked s) u) :
    exec .thermalTick s = .next (settle u) := by
  have hsettle : KeepsBut ([.composer, .store, .driver, .thermal, .wear, .render] ++ tickParts)
      (ticked s) (settle u) :=
    settle_keeps (k.mono (List.subset_append_right _ _)) (List.subset_append_left _ _)
  have htick : onTick thermalTick s =
      conclude [] (ticked s) (settle (startNext (joinRound .thermal (ticked s)))) := if_pos hs
  calc exec .thermalTick s
      = .next (onTick thermalTick s) := rfl
    _ = .next (settle u) := by
      rw [htick, hu, conclude_of_kept hsettle (by decide) (by decide)]

/-- A tick whose round leaves the composer alone asks nothing of it. -/
theorem thermalTick_quiet {P : State → Prop} (hs : s.timebaseRuns = true)
    (hu : startNext (joinRound .thermal (ticked s)) = u)
    (k : KeepsBut [.thermal, .timebase, .sensors] (ticked s) u) (hp : P u) :
    Leads .thermalTick s (QuietFrom s P) := by
  have hk : KeepsBut [.thermal, .timebase, .sensors] s u :=
    ((ticked_keeps s).mono (by simp)).trans k
  exact .intro (exec_thermalTick hs hu (k.mono (by simp [tickParts])))
    (.intro hp fun hq =>
      hq.through_quiet_tick (hk.mono (by simp [tickParts])) (hk .composer (by decide)))

/-! ## The bus (R122, R123) -/

/-- While a transaction is in flight no entry starts. -/
theorem startNext_of_inFlight {tr : Transaction} (h : s.sensors.inFlight = some tr) :
    startNext s = s := by
  unfold startNext
  cases s.sensors.queue.length with
  | zero => rfl
  | succ n =>
    rw [startTransactions]
    simp only [h]

/-- With an empty queue there is no entry to start. -/
theorem startNext_of_empty (h : s.sensors.queue = []) : startNext s = s := by
  unfold startNext
  rw [h]
  rfl

/-- Behind another request in flight, a request that equals none in the queue joins its tail. -/
theorem placeSensor_behind {r : SensorRequest} {tr : Transaction} (w : SensorUser)
    (hi : s.sensors.inFlight = some tr) (hr : tr.request ≠ r)
    (hn : ∀ e ∈ s.sensors.queue, e.request ≠ r) :
    placeSensor r w s = setSensorQueue (s.sensors.queue ++ [⟨r, [w]⟩]) s := by
  have ha : (s.sensors.queue.any fun e => e.request == r) = false :=
    List.any_eq_false.mpr fun e he => by simpa using hn e he
  unfold placeSensor
  simp only [hi, if_neg hr, ha, Bool.false_eq_true, if_false]

/-- Behind a light transaction the requests of a round join the queue in their order. -/
theorem placeTemps_behind_light (qs : List Nat) {tr : Transaction} {e : Emitter}
    (hi : s.sensors.inFlight = some tr) (hl : tr.request = .light e)
    (hn : (s.sensors.queue.map QueuedRequest.request ++ qs.map SensorRequest.temp).Nodup) :
    qs.foldl (fun s q => placeSensor (.temp q) .thermal s) s =
      setSensorQueue (s.sensors.queue ++ qs.map fun q => ⟨.temp q, [.thermal]⟩) s := by
  induction qs generalizing s with
  | nil =>
    rw [List.map_nil, List.append_nil]
    rfl
  | cons q qs ih =>
    have hother : tr.request ≠ .temp q := by rw [hl]; exact SensorRequest.noConfusion
    have hnew : ∀ e ∈ s.sensors.queue, e.request ≠ .temp q := fun e he heq =>
      (List.nodup_append.mp hn).2.2 _ (List.mem_map_of_mem he) _ List.mem_cons_self heq
    rw [List.foldl_cons, placeSensor_behind .thermal hi hother hnew,
      ih (by exact hi) (by simpa [setSensorQueue] using hn)]
    simp only [setSensorQueue, setSensors_sensors, List.append_assoc, List.map_cons]
    rfl

/-! ## The round that the tick joins or opens (R60 to R62) -/

theorem joinRound_of_open {r : Round} (m : RoundMark) (h : s.thermal.round = some r) :
    joinRound m s = setRound (some (r.add m)) s := by
  unfold joinRound
  rw [h]

/-- A round that opens behind a light transaction queues its requests. -/
theorem joinRound_behind_light (m : RoundMark) {tr : Transaction} {e : Emitter}
    (hr : s.thermal.round = none) (hi : s.sensors.inFlight = some tr) (hl : tr.request = .light e)
    (hq : s.sensors.queue = []) (hp : s.present ≠ []) :
    joinRound m s =
      setSensorQueue (s.present.map fun q => ⟨.temp q, [.thermal]⟩)
        (setRound (some (Round.add m ⟨s.present, false, false, false⟩)) s) := by
  have hnodup : (s.present.map SensorRequest.temp).Nodup :=
    (List.nodup_range.filter _).map fun _ _ => SensorRequest.temp.inj
  have hqueue : ∀ r, (setRound r s).sensors.queue = [] := fun _ => hq
  unfold joinRound openRound
  rw [hr]
  simp only [List.isEmpty_iff, if_neg hp]
  rw [placeTemps_behind_light s.present (by exact hi) hl (by
    rw [hqueue, List.map_nil, List.nil_append]
    exact hnodup), hqueue, List.nil_append]

/-- A thermal round that opens with no sensor in the map ends at once and requests THERMAL. -/
theorem joinRound_thermal_of_absent (hr : s.thermal.round = none) (hp : s.present = []) :
    joinRound .thermal s = requestThermal (setRound none s) := by
  unfold joinRound openRound
  rw [hr]
  simp only [hp, List.isEmpty_nil, if_true]
  rfl

/-- A THERMAL request is pending behind one that stood, or where no THERMAL runs (R107). -/
theorem requestThermal_composer (s : State) :
    (requestThermal s).composer =
      { s.composer with
        thermalPending := s.composer.thermalPending || !s.composer.runs .thermal } := by
  unfold requestThermal
  cases h : s.composer.runs .thermal with
  | true => simp
  | false => simp

/-! ## The four cases -/

theorem thermalTick_joins {r : Round} (hs : s.timebaseRuns = true)
    (hr : s.thermal.round = some r) (hi : s.sensors.inFlight ≠ none) :
    Leads .thermalTick s (QuietFrom s fun u =>
      TickCounted s (some { r with thermal := true }) u ∧
        KeepsBut [.thermal, .timebase] s u) := by
  obtain ⟨tr, htr⟩ := Option.ne_none_iff_exists'.mp hi
  have hjoin : startNext (joinRound .thermal (ticked s)) =
      setRound (some { r with thermal := true }) (ticked s) := by
    rw [joinRound_of_open (s := ticked s) .thermal hr]
    exact startNext_of_inFlight htr
  refine thermalTick_quiet hs hjoin (setRound_keeps _ (KeepsBut.refl _ _) (by simp)) ⟨⟨rfl, rfl⟩, ?_⟩
  exact setRound_keeps _ (ticked_keeps s) (by simp)

theorem thermalTick_opens (hs : s.timebaseRuns = true) (hr : s.thermal.round = none)
    (hb : BusIdle s) (hp : s.present ≠ []) :
    Leads .thermalTick s (QuietFrom s fun u =>
      TickCounted s (some ⟨s.present, true, false, false⟩) u ∧ RoundPlaced s.present s u ∧
        KeepsBut [.thermal, .timebase, .sensors] s u) := by
  obtain ⟨hopen, hround⟩ := openedRound_frame .thermal (u := ticked s) hr hb hp
  have hplaced := openedRound_sensors .thermal (u := ticked s) hr hb hp
  have hk : KeepsBut [.thermal, .timebase, .sensors] (ticked s) _ := hopen.mono (by simp)
  exact thermalTick_quiet hs rfl hk ⟨⟨hround, hopen .timebase (by decide)⟩, hplaced,
    ((ticked_keeps s).mono (by simp)).trans hk⟩

theorem thermalTick_queues {tr : Transaction} {e : Emitter} (hs : s.timebaseRuns = true)
    (hr : s.thermal.round = none) (hi : s.sensors.inFlight = some tr) (hl : tr.request = .light e)
    (hq : s.sensors.queue = []) (hp : s.present ≠ []) :
    Leads .thermalTick s (QuietFrom s fun u =>
      TickCounted s (some ⟨s.present, true, false, false⟩) u ∧
        u.sensors = { s.sensors with queue := s.present.map fun p => ⟨.temp p, [.thermal]⟩ } ∧
        KeepsBut [.thermal, .timebase, .sensors] s u) := by
  have hjoin : startNext (joinRound .thermal (ticked s)) =
      setSensorQueue (s.present.map fun q => ⟨.temp q, [.thermal]⟩)
        (setRound (some ⟨s.present, true, false, false⟩) (ticked s)) := by
    rw [joinRound_behind_light (s := ticked s) .thermal hr hi hl hq hp]
    exact startNext_of_inFlight hi
  have hk : KeepsBut [.thermal, .timebase, .sensors] (ticked s)
      (setSensorQueue (s.present.map fun q => ⟨.temp q, [.thermal]⟩)
        (setRound (some ⟨s.present, true, false, false⟩) (ticked s))) :=
    setSensorQueue_keeps _ (setRound_keeps _ (KeepsBut.refl _ _) (by simp)) (by simp)
  exact thermalTick_quiet hs hjoin hk ⟨⟨rfl, rfl⟩, rfl, ((ticked_keeps s).mono (by simp)).trans hk⟩

/-- The state after the tick of a part with an empty sensor map. -/
theorem requestedTick_spec (s : State) :
    TickCounted s none (requestThermal (setRound none (ticked s))) ∧
      (requestThermal (setRound none (ticked s))).composer =
        { s.composer with
          thermalPending := s.composer.thermalPending || !s.composer.runs .thermal } ∧
      KeepsBut [.thermal, .timebase, .composer] s
        (requestThermal (setRound none (ticked s))) := by
  have hreq : KeepsBut [.composer] (setRound none (ticked s))
      (requestThermal (setRound none (ticked s))) :=
    requestThermal_keeps (KeepsBut.refl _ _) (by simp)
  have hround : KeepsBut [.thermal, .timebase] s (setRound none (ticked s)) :=
    setRound_keeps _ (ticked_keeps s) (by simp)
  exact ⟨⟨hreq .thermal (by decide), hreq .timebase (by decide)⟩,
    requestThermal_composer (setRound none (ticked s)),
    (hround.mono (by simp)).trans (hreq.mono (by simp))⟩

theorem thermalTick_requests (hs : s.timebaseRuns = true) (hr : s.thermal.round = none)
    (hb : BusIdle s) (hp : s.present = []) :
    Leads .thermalTick s (SettledFrom s fun u =>
      TickCounted s none u ∧
        u.composer =
          { s.composer with
            thermalPending := s.composer.thermalPending || !s.composer.runs .thermal } ∧
        KeepsBut [.thermal, .timebase, .composer] s u) := by
  have hspec := requestedTick_spec s
  have ⟨_, hcomposer, hk⟩ := hspec
  have hjoin : startNext (joinRound .thermal (ticked s)) =
      requestThermal (setRound none (ticked s)) := by
    rw [joinRound_thermal_of_absent (s := ticked s) hr hp]
    refine startNext_of_empty ?_
    rw [hk .sensors (by decide)]
    exact hb.1
  have hframe : KeepsBut tickParts (ticked s) (requestThermal (setRound none (ticked s))) :=
    requestThermal_keeps (setRound_keeps _ (KeepsBut.refl _ _) (by simp [tickParts]))
      (by simp [tickParts])
  refine .intro (exec_thermalTick hs hjoin hframe) (.intro hspec fun hq hbusy => ?_)
  have hchip := hk.chip_eq (by decide)
  have hbusy' : Busy (requestThermal (setRound none (ticked s))) := by
    unfold Busy State.composerStopped State.started
    rw [hcomposer, hchip]
    exact hbusy
  rw [settle_of_steady (hq.through_tick (hk.mono (by simp [tickParts])) (.inl hbusy')
    (by rw [hcomposer]))]
  exact hspec

end Tick

/-- Settles O9: the tick is counted; what the round then moves is one of four cases, and in each
nothing follows in a step from a steady state. -/
theorem thermalTickRound : Obligations.ThermalTickRound := by
  intro s hs
  exact ⟨fun _ hr hi => thermalTick_joins hs hr hi,
    fun hr hb hp => thermalTick_opens hs hr hb hp,
    fun _ _ hr hi hl hq hp => thermalTick_queues hs hr hi hl hq hp,
    fun hr hb hp => thermalTick_requests hs hr hb hp⟩

end Sys2Proof.Machine
end

section
/-! The drift values along a step: the wear counters and the κ of the three emitters (R73). The
counters move only at a THERMAL job's end, which adds to them (R74, R75), at a WEAR_CLEAR (R86), and
where a cold start-up or a POWER reset sets them (R44); a κ moves only at a light read's completion,
which clamps it (R80), and with the record that a cold start-up reads. -/

namespace Sys2Proof.Machine

-- One proof after the other: side by side their threads want too much memory.
set_option Elab.async false

/-! ## What a step may do to the drift values -/

/-- Counters that lay within 48 bits have grown, and still do. -/
def GrownFrom (w w' : Rgb Nat) : Prop :=
  ∀ e, Rgb.get w e ≤ maxWear → Rgb.get w e ≤ Rgb.get w' e ∧ Rgb.get w' e ≤ maxWear

/-- From `s` to `t` no wear counter has become less. -/
def CountersGrow (s t : State) : Prop :=
  (∀ (z : Nat) (w : Rgb Nat), s.wear.zones[z]? = some w →
    ∃ w', t.wear.zones[z]? = some w' ∧ GrownFrom w w') ∧ GrownFrom s.wear.pilot t.wear.pilot

/-- From `s` to `t` the law of κ stays, and the wear counters grow but where `lowers` holds. -/
def DriftHeld (lowers : Prop) (s t : State) : Prop :=
  (KappaLaw s → KappaLaw t) ∧ (¬lowers → CountersGrow s t)

theorem GrownFrom.refl (w : Rgb Nat) : GrownFrom w w := fun _ h => ⟨le_rfl, h⟩

theorem GrownFrom.trans {u v w : Rgb Nat} (h : GrownFrom u v) (k : GrownFrom v w) :
    GrownFrom u w := fun e hu =>
  have ⟨hle, hv⟩ := h e hu
  have ⟨kle, hw⟩ := k e hv
  ⟨hle.trans kle, hw⟩

/-- R74, R75: an increment that saturates at 48 bits. -/
theorem grownFrom_satAdd (w inc : Rgb Nat) : GrownFrom w (Rgb.zip (satAdd maxWear) w inc) :=
  fun e h => by
    rw [Rgb.get_zip]
    exact ⟨le_satAdd h _, satAdd_le _ _ _⟩

/-- R74: a marked zone receives no increment. -/
theorem grownFrom_zoneWearAfter (m : ClearMark) (w inc : Rgb Nat) :
    GrownFrom w (zoneWearAfter m w inc) := by
  cases m with
  | clear => exact grownFrom_satAdd w inc
  | set => exact .refl w
  | taken => exact .refl w

theorem CountersGrow.trans {s t u : State} (h : CountersGrow s t) (k : CountersGrow t u) :
    CountersGrow s u :=
  ⟨fun z w hz =>
    have ⟨_, ht, hw⟩ := h.1 z w hz
    have ⟨w', hu, kw⟩ := k.1 z _ ht
    ⟨w', hu, hw.trans kw⟩, h.2.trans k.2⟩

section Drift

variable {lowers : Prop} {s t u : State}

theorem DriftHeld.trans (h : DriftHeld lowers s t) (k : DriftHeld lowers t u) :
    DriftHeld lowers s u := ⟨k.1 ∘ h.1, fun hp => (h.2 hp).trans (k.2 hp)⟩

/-- The drift values stand as they were. -/
theorem DriftHeld.of_eq (hz : t.wear.zones = s.wear.zones) (hp : t.wear.pilot = s.wear.pilot)
    (hk : t.wear.kappa = s.wear.kappa) : DriftHeld lowers s t := by
  refine ⟨fun h e => ?_, fun _ => ⟨fun z w hw => ⟨w, ?_, .refl w⟩, ?_⟩⟩
  · rw [hk]
    exact h e
  · rw [hz]
    exact hw
  · rw [hp]
    exact .refl _

theorem DriftHeld.refl (s : State) : DriftHeld lowers s s := .of_eq rfl rfl rfl

/-- The drift values stand from `t` to `u`. -/
theorem DriftHeld.congr (h : DriftHeld lowers s t) (hz : u.wear.zones = t.wear.zones)
    (hp : u.wear.pilot = t.wear.pilot) (hk : u.wear.kappa = t.wear.kappa) :
    DriftHeld lowers s u := h.trans (.of_eq hz hp hk)

/-- An operation that leaves the wear unit alone. -/
theorem DriftHeld.frame {ps : List Part} (h : DriftHeld lowers s t) (k : KeepsBut ps t u)
    (hp : .wear ∉ ps := by decide) : DriftHeld lowers s u := by
  have hw : u.wear = t.wear := k .wear hp
  exact h.congr (by rw [hw]) (by rw [hw]) (by rw [hw])

theorem KeepsBut.driftHeld {ps : List Part} (k : KeepsBut ps s t)
    (hp : .wear ∉ ps := by decide) : DriftHeld lowers s t := (DriftHeld.refl s).frame k hp

theorem DriftHeld.ite (p : Prop) [Decidable p] (ht : DriftHeld lowers s t)
    (hu : DriftHeld lowers s u) : DriftHeld lowers s (if p then t else u) := by
  split_ifs
  · exact ht
  · exact hu

/-! ## What follows inside a step -/

/-- A load take moves the clear marks alone. -/
theorem ChangedByTakes.driftHeld (h : ChangedByTakes s t) : DriftHeld lowers s t := by
  obtain ⟨-, hw⟩ := h
  exact .of_eq (by rw [hw]) (by rw [hw]) (by rw [hw])

theorem settleWork_driftHeld (h : DriftHeld lowers s t) : DriftHeld lowers s (settleWork t) :=
  h.trans (settleWork_changedByTakes t).driftHeld

theorem settle_driftHeld (h : DriftHeld lowers s t) : DriftHeld lowers s (settle t) :=
  h.trans (settle_changedByTakes t).driftHeld

theorem conclude_driftHeld (extra : List Cause) (before : State) (h : DriftHeld lowers s t) :
    DriftHeld lowers s (conclude extra before t) :=
  h.frame (conclude_keeps (ps := [.linkA, .linkB, .authority, .render]) extra before
    (KeepsBut.refl _ t) (by simp))

/-- The end of a step that may report. -/
theorem concludeSettle_driftHeld (extra : List Cause) (before : State)
    (h : DriftHeld lowers s t) : DriftHeld lowers s (conclude extra before (settle t)) :=
  conclude_driftHeld extra before (settle_driftHeld h)

/-! ## The pilot sequence (R77 to R83) -/

theorem requestGain_driftHeld (p : Prop) [Decidable p] (h : DriftHeld lowers s t) :
    DriftHeld lowers s (if p then requestGain t else t) := .ite p (h.congr rfl rfl rfl) h

theorem endSequence_driftHeld (h : DriftHeld lowers s t) : DriftHeld lowers s (endSequence t) :=
  requestGain_driftHeld _ (h.congr rfl rfl rfl)

/-- An emitter that is skipped or driven keeps its κ (R78). -/
theorem takeEmitter_driftHeld (e : Emitter) {next : State → State}
    (hn : ∀ {v}, DriftHeld lowers s v → DriftHeld lowers s (next v)) (h : DriftHeld lowers s t) :
    DriftHeld lowers s (takeEmitter e next t) :=
  .ite _ (hn (h.congr rfl rfl rfl)) (h.congr rfl rfl rfl)

theorem takeBlue_driftHeld (h : DriftHeld lowers s t) : DriftHeld lowers s (takeBlue t) :=
  takeEmitter_driftHeld .b endSequence_driftHeld h

theorem takeGreen_driftHeld (h : DriftHeld lowers s t) : DriftHeld lowers s (takeGreen t) :=
  takeEmitter_driftHeld .g takeBlue_driftHeld h

theorem takeAfter_driftHeld (e : Emitter) (h : DriftHeld lowers s t) :
    DriftHeld lowers s (takeAfter e t) := by
  cases e with
  | r => exact takeGreen_driftHeld h
  | g => exact takeBlue_driftHeld h
  | b => exact endSequence_driftHeld h

theorem startSequence_driftHeld (h : DriftHeld lowers s t) :
    DriftHeld lowers s (startSequence t) :=
  .ite _ (takeEmitter_driftHeld .r takeGreen_driftHeld (h.congr rfl rfl rfl)) h

theorem abandonSequence_driftHeld (h : DriftHeld lowers s t) :
    DriftHeld lowers s (abandonSequence t) := by
  unfold abandonSequence
  dsimp only
  split
  · exact h
  · exact requestGain_driftHeld _ (h.congr rfl rfl rfl)
  · exact requestGain_driftHeld _ (h.congr rfl rfl rfl)

/-- R80 step 6: a new κ is clamped. -/
theorem kappaAfter_mem (kappa ratio : Nat) :
    49152 ≤ kappaAfter kappa ratio ∧ kappaAfter kappa ratio ≤ 81920 := by
  have hmem := clampInt_mem (lo := 49152) (hi := 81920) (by decide)
    ((kappa : Int) + ((ratio : Int) - kappa) / 8)
  unfold kappaAfter
  omega

/-- R80: a ratio moves the κ of its emitter alone. -/
theorem applyRatio_driftHeld (e : Emitter) (ratio : Nat) (s : State) :
    DriftHeld lowers s (applyRatio e ratio s) := by
  refine ⟨fun h f => ?_, (DriftHeld.refl s).2⟩
  show 49152 ≤ Rgb.get (Rgb.set s.wear.kappa e _) f ∧ Rgb.get (Rgb.set s.wear.kappa e _) f ≤ 81920
  by_cases hf : f = e
  · rw [hf, Rgb.get_set_same]
    exact kappaAfter_mem _ _
  · rw [Rgb.get_set_other _ hf]
    exact h f

theorem measure_driftHeld (e : Emitter) (c : Completion) (s : State) :
    DriftHeld lowers s (measure e c s) := by
  cases c with
  | good v => exact .ite _ (.of_eq rfl rfl rfl) (applyRatio_driftHeld e _ s)
  | bad => exact .of_eq rfl rfl rfl
  | missed => exact .of_eq rfl rfl rfl

theorem lightCompletion_driftHeld (e : Emitter) (c : Completion) (h : DriftHeld lowers s t) :
    DriftHeld lowers s (lightCompletion e c t) :=
  .ite _ (h.congr rfl rfl rfl) (.ite _ (h.trans (takeAfter_driftHeld e (measure_driftHeld e c t))) h)

/-! ## The sensor bus (R123 to R128) -/

theorem deliverTo_driftHeld (r : SensorRequest) (c : Completion) (w : SensorUser)
    (h : DriftHeld lowers s t) : DriftHeld lowers s (deliverTo r c w t) := by
  unfold deliverTo
  split
  · exact h.frame (tempCompletion_keeps (ps := [.thermal, .chip, .driver, .composer]) _
      (KeepsBut.refl _ t) (by simp))
  · exact lightCompletion_driftHeld _ c h
  · exact h
  · exact h

theorem deliver_driftHeld (r : SensorRequest) (c : Completion) (us : List SensorUser)
    (h : DriftHeld lowers s t) : DriftHeld lowers s (deliver r c us t) := by
  unfold deliver
  induction us generalizing t with
  | nil => exact h
  | cons w us ih => exact ih (deliverTo_driftHeld r c w h)

theorem startTransactions_driftHeld (n : Nat) (h : DriftHeld lowers s t) :
    DriftHeld lowers s (startTransactions n t) := by
  induction n generalizing t with
  | zero => exact h
  | succ n ih =>
    unfold startTransactions
    split
    · exact h
    · exact h
    · exact .ite _ (ih (deliver_driftHeld _ _ _ (h.congr rfl rfl rfl))) (h.congr rfl rfl rfl)

theorem startNext_driftHeld (h : DriftHeld lowers s t) : DriftHeld lowers s (startNext t) :=
  startTransactions_driftHeld _ h

/-- A round joined or opened, and the transaction that then starts. -/
theorem startJoined_driftHeld (m : RoundMark) (h : DriftHeld lowers s t) :
    DriftHeld lowers s (startNext (joinRound m t)) :=
  startNext_driftHeld (h.frame (joinRound_keeps
    (ps := [.thermal, .chip, .driver, .composer, .sensors]) m (KeepsBut.refl _ t) (by simp)))

theorem endTransaction_driftHeld (tr : Transaction) (c : Completion) (s : State) :
    DriftHeld lowers s (endTransaction tr c s) :=
  startNext_driftHeld (deliver_driftHeld _ _ _ (.of_eq rfl rfl rfl))

theorem sensorResponse_driftHeld (f : SensorFrame) (s : State) :
    DriftHeld lowers s (sensorResponse f s) := by
  refine .ite _ ?_ (.of_eq rfl rfl rfl)
  split
  · exact .ite _ (endTransaction_driftHeld _ _ s) (.of_eq rfl rfl rfl)
  · exact .of_eq rfl rfl rfl

theorem sensorDeadline_driftHeld (s : State) : DriftHeld lowers s (sensorDeadline s) := by
  unfold sensorDeadline
  split
  · exact endTransaction_driftHeld _ _ s
  · exact .refl s

/-! ## The THERMAL job (R74, R75) -/

theorem endThermal_driftHeld (k : LoadTake) (s : State) : DriftHeld lowers s (endThermal k s) := by
  refine ⟨id, fun _ => ⟨fun z w hz => ?_, grownFrom_satAdd _ _⟩⟩
  refine ⟨zoneWearAfter (s.wear.clearMarks.getD z .clear) w
    (wearIncrement s.zonePixels (k.load.getD z Rgb.zero)), ?_, grownFrom_zoneWearAfter _ w _⟩
  show (s.wear.zones.zipIdx.map _)[z]? = _
  rw [List.getElem?_map, List.getElem?_zipIdx, hz, Option.map_some, Option.map_some, zero_add]
  rfl

/-! ## The links -/

theorem passFrameHead_driftHeld (l : Link) (body : List Byte) (s : State) :
    DriftHeld lowers s (passFrameHead l body s) := by
  have hlinks : KeepsBut [.linkA, .linkB] s s := KeepsBut.refl _ s
  have hgap : DriftHeld lowers s (if sequenceGap (s.link l).lastSequence (getU16 0 body) then
      setCounts l (fun k => { k with sequenceGaps := inc32 k.sequenceGaps }) s else s) :=
    .ite _ (setCounts_keeps l _ hlinks (by simp)).driftHeld (.refl s)
  exact concludeSettle_driftHeld _ _ (hgap.frame
    (takeFrameHead_keeps (ps := [.linkA, .linkB, .authority, .composer, .render, .driver]) l
      (setLink_keeps l _ (KeepsBut.refl _ _) (by decide) (by decide)) (by simp)))

theorem receive_driftHeld (l : Link) (kind : Byte) (m : LinkUnit) (s : State) :
    DriftHeld lowers s (receive l kind m s) := by
  rcases receive_cases l kind m s with hk | ⟨-, he⟩ | ⟨-, he⟩
  · exact hk.driftHeld
  · exact he ▸ passFrameHead_driftHeld l m.body s
  · rcases passRow_cases l m.body s with hk | ⟨y, pixels, hrow⟩
    · exact he ▸ hk.driftHeld
    · exact he ▸ hrow ▸ (computeRow_keeps (ps := [.render, .driver]) y pixels (KeepsBut.refl _ s)
        (by simp)).driftHeld

theorem goDown_driftHeld (l : Link) (s : State) : DriftHeld lowers s (goDown l s) := by
  have hl : KeepsBut [.linkA, .linkB] s (s.setLink l (s.link l).dropped) :=
    setLink_keeps l _ (KeepsBut.refl _ s) (by decide) (by decide)
  exact settle_driftHeld ((DriftHeld.ite _ (t := dueReset _ _)
    (hl.driftHeld.congr rfl rfl rfl) hl.driftHeld).frame
      (authorityDown_keeps (ps := [.linkA, .linkB, .authority, .composer]) l (KeepsBut.refl _ _)
        (by simp)))

theorem linkDown_driftHeld (l : Link) (s : State) : DriftHeld lowers s (linkDown l s) := by
  unfold linkDown
  split_ifs
  · exact .refl s
  · split
    · exact .refl s
    · exact (setLinkState_keeps (ps := [.linkA, .linkB]) l .down (KeepsBut.refl _ s)
        (by simp)).driftHeld
    · exact conclude_driftHeld _ _ (goDown_driftHeld l s)
    · exact conclude_driftHeld _ _ (goDown_driftHeld l s)

/-! ## Requests -/

theorem applySetting_driftHeld (x : Setting) (v : Int) (h : DriftHeld lowers s t) :
    DriftHeld lowers s (applySetting x v t) := by
  cases x with
  | holdTime =>
    exact settle_driftHeld (h.frame (applyHoldTime_keeps
      (ps := [.linkA, .linkB, .authority, .composer, .settings]) _ (KeepsBut.refl _ t) (by simp)))
  | blankAfter =>
    exact settle_driftHeld (h.frame (applyBlankAfter_keeps (ps := [.authority, .settings]) _
      (KeepsBut.refl _ t) (by simp)))
  | _ => exact h.congr rfl rfl rfl

theorem performSet_driftHeld (op : SetOp) (h : DriftHeld lowers s t) :
    DriftHeld lowers s (performSet op t).state := by
  cases op with
  | jobLevel k v =>
    unfold performSet setJobLevel
    dsimp only
    split_ifs
    · exact h
    · exact h
    · exact settleWork_driftHeld (h.congr rfl rfl rfl)
  | phaseTable p =>
    unfold performSet setPhaseTable
    dsimp only
    split_ifs
    · exact h
    · exact h.congr rfl rfl rfl
    · exact h
  | darkPolicy b v =>
    unfold performSet setDarkPolicy
    dsimp only
    split_ifs
    · exact h
    · split
      · exact h.congr rfl rfl rfl
      · exact h
  | value x v =>
    unfold performSet setValue
    dsimp only
    split_ifs
    · exact h
    · exact h
    all_goals exact applySetting_driftHeld x _ h

/-- R181: REST abandons the sequence in progress. -/
theorem commandRest_driftHeld (h : DriftHeld lowers s t) : DriftHeld lowers s (commandRest t) := by
  have hresting : DriftHeld lowers s (enterResting t) :=
    abandonSequence_driftHeld (h.congr rfl rfl rfl)
  unfold commandRest
  split
  · exact hresting
  · exact hresting
  · exact h.congr rfl rfl rfl
  · exact h.congr rfl rfl rfl
  · exact h

theorem powerCommand_driftHeld (o : Origin) {f : State → State} (h : DriftHeld lowers s t)
    (hf : DriftHeld lowers s (f t)) : DriftHeld lowers s (powerCommand o f t).state := by
  unfold powerCommand
  split_ifs
  · exact settle_driftHeld hf
  · exact h

/-- The owner's rule of a request that links and tool share. -/
theorem perform_driftHeld (o : Origin) (r : Request) (h : DriftHeld lowers s t) :
    DriftHeld lowers s (perform o r t).state := by
  have hk : KeepsBut [.chip, .composer] t t := KeepsBut.refl _ t
  cases r with
  | wall r =>
    cases o with
    | link l =>
      exact settleWork_driftHeld (h.frame (storeRecord_keeps
        (ps := [.linkA, .linkB, .authority, .composer]) l _ (KeepsBut.refl _ t) (by simp)))
    | tool => exact h
  | take =>
    cases o with
    | link l =>
      unfold perform performTake takeCommand
      dsimp only
      split_ifs
      · exact h.congr rfl rfl rfl
      · exact h.congr rfl rfl rfl
      · exact h
    | tool => exact h
  | dark => exact powerCommand_driftHeld o h (h.frame (commandDark_keeps hk (by simp)))
  | light => exact powerCommand_driftHeld o h (h.frame (commandLight_keeps hk (by simp)))
  | rest => exact powerCommand_driftHeld o h (commandRest_driftHeld h)
  | rebuild zs =>
    unfold perform performRebuild
    dsimp only
    split_ifs
    · exact h
    · exact settleWork_driftHeld (h.congr rfl rfl rfl)
  | query q => exact h
  | set op => exact performSet_driftHeld op h
  | close => exact .ite _ h (settle_driftHeld (h.congr rfl rfl rfl))
  | reset => exact h

/-- The owner's rule of a frame: WEAR_CLEAR alone lowers counters (R86). -/
theorem performTool_driftHeld (tag : Byte) (r : ToolRequest)
    (hclear : ∀ z, r = .wearClear z → lowers) (s : State) :
    DriftHeld lowers s (performTool tag r s).state := by
  have h : DriftHeld lowers s s := .refl s
  cases r with
  | shared r => exact perform_driftHeld .tool r h
  | block p =>
    unfold performTool toolBlock
    dsimp only
    split_ifs
    · exact (offerProgram_keeps _ _ s).driftHeld
    · exact h
  | identity fields =>
    unfold performTool toolIdentity
    dsimp only
    split_ifs
    · exact h
    · exact (offerProgram_keeps _ _ s).driftHeld
    · exact h
  | trim codes => exact settleWork_driftHeld (.ite _ (h.congr rfl rfl rfl) (h.congr rfl rfl rfl))
  | wearClear z =>
    have hcleared : DriftHeld lowers s (clearWear z s) :=
      ⟨id, fun hno => absurd (hclear z rfl) hno⟩
    exact settleWork_driftHeld hcleared
  | bank es => exact (setBankModes_keeps es (KeepsBut.refl _ s)).driftHeld
  | latch b v => exact h.congr rfl rfl rfl

theorem handleFrame_driftHeld (tag kind : Byte) {req : Option ToolRequest}
    (hclear : ∀ z, req = some (.wearClear z) → lowers) (s : State) :
    DriftHeld lowers s (handleFrame tag kind req s) := by
  rcases handleFrame_cases tag kind req s with hk | ⟨r, hr, he⟩
  · exact hk.driftHeld
  · rw [he]
    exact (performTool_driftHeld tag r (fun z hz => hclear z (hz ▸ hr)) s).frame
      (answerTool_keeps _ _ _ _)

theorem toolStep_driftHeld (tag kind : Byte) {req : Option ToolRequest}
    (hclear : ∀ z, req = some (.wearClear z) → lowers) (s : State) :
    DriftHeld lowers s (toolStep tag kind req s) := by
  rcases toolStep_cases tag kind req s with he | he
  · exact he.symm ▸ .refl s
  · exact he ▸ conclude_driftHeld _ _ (handleFrame_driftHeld tag kind hclear s)

theorem promptStep_driftHeld (l : Link) (mine : Request → Bool) (s : State) :
    DriftHeld lowers s (promptStep l mine s) := by
  rcases promptStep_cases l mine s with he | ⟨m, rest, r, he⟩
  · exact he.symm ▸ .refl s
  · have hbegun : KeepsBut [.linkA, .linkB] s (beginPrompt l rest s) :=
      setLink_keeps l _ (KeepsBut.refl _ s) (by decide) (by decide)
    exact he ▸ conclude_driftHeld _ _ ((perform_driftHeld (.link l) r hbegun.driftHeld).frame
      (handlePrompt_keeps l m rest r s))

theorem requestStep_driftHeld {α : Type} (v : Via α) (mine : Request → Bool) (kind : Byte)
    (req : α → Option Request) (s : State) :
    DriftHeld lowers s (requestStep v mine kind req s) := by
  cases v with
  | port l => exact promptStep_driftHeld l mine s
  | tool tag a =>
    refine toolStep_driftHeld tag kind (fun z hz => ?_) s
    obtain ⟨r, -, hr⟩ := Option.map_eq_some_iff.mp hz
    exact nomatch hr

/-! ## Service frames: any of them may carry a WEAR_CLEAR -/

theorem receiveByte_driftHeld (b : LineByte) (h : DriftHeld True s t) :
    DriftHeld True s (receiveByte b t) := by
  have hi : DriftHeld True s (t.setService { t.service with idle := 0 }) := h.congr rfl rfl rfl
  have hservice : ∀ v, DriftHeld True s ((t.setService { t.service with idle := 0 }).setService v) :=
    fun v => hi.congr rfl rfl rfl
  have hend : ∀ buf, DriftHeld True s (endFrame buf (t.setService { t.service with idle := 0 })) :=
    fun buf => .ite _ (conclude_driftHeld _ _ ((hservice _).trans
      (handleFrame_driftHeld _ _ (fun _ _ => trivial) (setReceiving none _)))) (hservice _)
  unfold receiveByte
  dsimp only
  split
  · exact .ite _ (hservice _) (hservice _)
  · exact .ite _ (hservice _) (.ite _ (hservice _) (.ite _ (hend _) (hservice _)))

theorem receiveBytes_driftHeld (bytes : List LineByte) (h : DriftHeld True s t) :
    DriftHeld True s (bytes.foldl (fun s b => receiveByte b s) t) := by
  induction bytes generalizing t with
  | nil => exact h
  | cons b bytes ih => exact ih (receiveByte_driftHeld b h)

/-! ## Resets and start-up (R44, R73, R175) -/

/-- R73: a warm reset keeps the live drift values. -/
theorem clearWarm_driftHeld (h : DriftHeld lowers s t) : DriftHeld lowers s (clearWarm t) := by
  have hw : (clearWarm t).wear = t.wear.warm :=
    congrArg Wear.warm (abandonGrant_keeps t .wear (by decide))
  exact h.congr (by rw [hw]; rfl) (by rw [hw]; rfl) (by rw [hw]; rfl)

/-- R44: the κ of a part with no valid drift record. -/
theorem kappaAfterReset_mem (e : Emitter) :
    49152 ≤ Rgb.get (⟨65536, 65536, 65536⟩ : Rgb Nat) e ∧
      Rgb.get (⟨65536, 65536, 65536⟩ : Rgb Nat) e ≤ 81920 := by
  cases e <;> decide

/-- A POWER reset leaves every κ at 65536. -/
theorem coldReset_driftHeld (hl : lowers) (pins : StrapPins) (s t : State) :
    DriftHeld lowers s (coldReset pins t) := by
  have hkappa : (coldReset pins t).wear.kappa = ⟨65536, 65536, 65536⟩ := rfl
  refine ⟨fun _ e => ?_, fun hno => absurd hl hno⟩
  rw [hkappa]
  exact kappaAfterReset_mem e

/-- R44: a record with a κ out of range is not valid, and the values of the table stand in. -/
theorem wearFrom_kappa (c : Stored) (w : Wear) (e : Emitter) :
    49152 ≤ Rgb.get (wearFrom c w).kappa e ∧ Rgb.get (wearFrom c w).kappa e ≤ 81920 := by
  cases hv : driftValid c with
  | true =>
    obtain ⟨-, hfields⟩ := wearFrom_of_valid hv w
    obtain ⟨-, hkappa, -⟩ := hfields e
    obtain ⟨-, -, hrange⟩ := (driftValid_iff c).mp hv
    rw [hkappa]
    exact hrange _ (by cases e <;> decide)
  | false =>
    rw [wearFrom_of_invalid hv]
    exact kappaAfterReset_mem e

theorem checkedState_driftHeld (f : StoreFindings) (s : State) :
    DriftHeld True s (checkedState f s) := by
  refine ⟨fun h e => ?_, fun hno => absurd trivial hno⟩
  cases hc : s.chip.coldStart with
  | true =>
    rw [checkedState_wear_cold hc]
    exact wearFrom_kappa _ _ e
  | false =>
    rw [(checkedState_warm hc).2]
    exact h e

theorem startupChecksDone_driftHeld (f : StoreFindings) (s : State) :
    DriftHeld True s (startupChecksDone f s) :=
  .ite _ (concludeSettle_driftHeld _ (checkedState f s)
    (startJoined_driftHeld _ (checkedState_driftHeld f s))) (.refl s)

/-! ## Ticks and expiries -/

theorem onTick_driftHeld {f : State → State} (hf : DriftHeld lowers s (f s)) :
    DriftHeld lowers s (onTick f s) := .ite _ hf (.refl s)

/-- R173: of the wear unit the settle timer counts. -/
theorem millisecond_driftHeld (s : State) : DriftHeld lowers s (millisecond s) := by
  have hw : (loadSample (stepTimers s)).wear = s.wear.tick := rfl
  refine .ite _ ?_ (.refl s)
  unfold Wear.tick at hw
  split at hw <;> exact .of_eq (by rw [hw]) (by rw [hw]) (by rw [hw])

theorem thermalTick_driftHeld (s : State) : DriftHeld lowers s (thermalTick s) :=
  concludeSettle_driftHeld _ _ (startJoined_driftHeld _ (.of_eq rfl rfl rfl))

theorem pilotTick_driftHeld (s : State) : DriftHeld lowers s (pilotTick s) :=
  settleWork_driftHeld (startSequence_driftHeld (.of_eq rfl rfl rfl))

theorem scrubTick_driftHeld (s : State) : DriftHeld lowers s (scrubTick s) :=
  settleWork_driftHeld (requestScrub_keeps (ps := [.composer, .timebase])
    (setTimebase_keeps _ (KeepsBut.refl _ s) (by decide)) (by simp)).driftHeld

theorem driftSaveTick_driftHeld (s : State) : DriftHeld lowers s (driftSaveTick s) :=
  (settleStore_keeps (ps := [.timebase, .store]) (requestSave_keeps _ (setTimebase_keeps _
    (KeepsBut.refl _ s) (by decide)) (by simp)) (by simp)).driftHeld

theorem restWakeExpiry_driftHeld (s : State) : DriftHeld lowers s (restWakeExpiry s) :=
  .ite _ (concludeSettle_driftHeld _ _ (startJoined_driftHeld _ (.of_eq rfl rfl rfl))) (.refl s)

theorem beginRead_driftHeld (e : Emitter) (s : State) : DriftHeld lowers s (beginRead e s) := by
  have hread : DriftHeld lowers s
      (s.setWear { s.wear with state := .read e, settleTimer := 0 }) := .of_eq rfl rfl rfl
  exact hread.frame (placeSensor_keeps (ps := [.sensors]) _ _ (KeepsBut.refl _ _) (by simp))

theorem settleTimerExpiry_driftHeld (s : State) : DriftHeld lowers s (settleTimerExpiry s) := by
  unfold settleTimerExpiry
  split
  · exact settle_driftHeld (startNext_driftHeld (beginRead_driftHeld _ s))
  all_goals exact .refl s

theorem ageExpiry_driftHeld (l : Link) (s : State) : DriftHeld lowers s (ageExpiry l s) :=
  .ite _ (concludeSettle_driftHeld _ _ (linkStale_keeps
    (ps := [.linkA, .linkB, .authority, .composer]) l (setLink_keeps l _ (KeepsBut.refl _ s)
      (by decide) (by decide)) (by simp)).driftHeld) (.refl s)

theorem blankAfterExpiry_driftHeld (s : State) : DriftHeld lowers s (blankAfterExpiry s) :=
  .ite _ (concludeSettle_driftHeld _ _ (.of_eq rfl rfl rfl)) (.refl s)

/-! ## The service line and the answers sent -/

theorem sync_driftHeld (low : Nat) (s : State) : DriftHeld lowers s (sync low s) :=
  .ite _ (.ite _ (concludeSettle_driftHeld _ _ (reportSync_keeps (ps := [.chip, .composer, .service])
    (setService_keeps _ (KeepsBut.refl _ s) (by simp)) (by simp)).driftHeld)
      (.of_eq rfl rfl rfl)) (.refl s)

theorem answerSent_driftHeld (who : Sender) (s : State) :
    Leads (.answerSent who) s (DriftHeld lowers s) := by
  cases who with
  | link l =>
    exact .intro rfl (.ite _ (linkSent_keeps (ps := [.linkA, .linkB, .chip]) l
      (KeepsBut.refl _ s) (by simp)).driftHeld (.refl s))
  | service =>
    exact .intro rfl (.ite _ (serviceSent_keeps (ps := [.service, .chip])
      (KeepsBut.refl _ s) (by simp)).driftHeld (.refl s))

theorem returnToSync_driftHeld (s : State) : DriftHeld lowers s (returnToSync s) :=
  (returnToSync_keeps (ps := [.service, .chip]) (KeepsBut.refl _ s) (by simp)).driftHeld

/-! ## The ends of grants and jobs (R43, R45, R47, R55, R67, R99) -/

theorem onSensor_driftHeld {f : State → State} (hf : DriftHeld lowers s (f s)) :
    DriftHeld lowers s (onSensor f s) := .ite _ (concludeSettle_driftHeld _ _ hf) (.refl s)

theorem blockReadDone_driftHeld (cells : Option Stored) (s : State) :
    DriftHeld lowers s (blockReadDone cells s) := by
  unfold blockReadDone
  split
  · exact settle_driftHeld (endBlockRead_keeps _ cells s).driftHeld
  all_goals exact .refl s

/-- A program's completion reaches its requester, and the decision and the scan follow. -/
theorem programEnded_driftHeld (who : Requester) (ok : Bool) (h : DriftHeld lowers s t) :
    DriftHeld lowers s (settleWork (reportProgram who ok t)) :=
  settleWork_driftHeld (h.frame (reportProgram_keeps
    (ps := [.linkA, .linkB, .store, .service]) who ok (KeepsBut.refl _ t) (by simp)))

theorem blockProgramDone_driftHeld (cells : Option Stored) (s : State) :
    DriftHeld lowers s (blockProgramDone cells s) := by
  have hk : KeepsBut [.store, .composer] s s := KeepsBut.refl _ s
  unfold blockProgramDone
  split
  · exact programEnded_driftHeld _ _ (setPort_keeps _ (joinBuild_keeps _ (countProgramFailure_keeps _
      (setBlockState_keeps _ _ (setSlot_keeps _ _ hk (by simp)) (by simp)) (by simp)) (by simp))
      (by simp)).driftHeld
  all_goals exact .refl s

theorem identityProgramDone_driftHeld (cells : Option Stored) (s : State) :
    DriftHeld lowers s (identityProgramDone cells s) := by
  have hk : KeepsBut [.store, .composer] s s := KeepsBut.refl _ s
  unfold identityProgramDone
  split
  · exact programEnded_driftHeld .service _ (setPort_keeps _ (joinAll_keeps
      (countProgramFailure_keeps _ (loadIdentity_keeps (setStore_keeps _ hk (by decide)) (by simp))
        (by simp)) (by simp)) (by simp)).driftHeld
  all_goals exact .refl s

theorem driftSaveDone_driftHeld (cells : Option Stored) (s : State) :
    DriftHeld lowers s (driftSaveDone cells s) := by
  unfold driftSaveDone
  split
  · exact concludeSettle_driftHeld _ _ (.ite _ (enterRest_keeps
      (ps := [.chip, .driver, .composer, .store]) (setStore_keeps _ (KeepsBut.refl _ s)
        (by decide)) (by simp)).driftHeld (.of_eq rfl rfl rfl))
  all_goals exact .refl s

theorem thermalJobEnd_driftHeld (s : State) : DriftHeld lowers s (thermalJobEnd s) := by
  unfold thermalJobEnd
  split
  · exact .ite _ (.refl s) (settleWork_driftHeld (endThermal_driftHeld _ s))
  all_goals exact .refl s

/-- R185: a second of the slow clock. -/
theorem idleSecond_driftHeld (s : State) : DriftHeld lowers s (idleSecond s) :=
  .ite _ (.of_eq rfl rfl rfl) (.refl s)

theorem gainEnd_driftHeld (s : State) : DriftHeld lowers s (gainEnd s) := by
  unfold gainEnd
  split
  · exact .ite _ (.refl s) (concludeSettle_driftHeld _ _ (.of_eq rfl rfl rfl))
  all_goals exact .refl s

end Drift

/-! ## Every command -/

/-- The commands that may lower a wear counter: a POWER reset at its beginning and at the release
that ends it, a loss of power, the checks of a start-up, WEAR_CLEAR and the frames that may carry
one. -/
def MayLower (s : State) : Instr → Prop
  | .powerOn _ | .powerLoss | .startupChecksDone _ | .wearClear _ _ | .serviceFrame _ => True
  | .resetPinRelease _ => s.chip.phase = .poweringUp
  | _ => False

theorem resetPinRelease_driftHeld (pins : StrapPins) (s : State) :
    Leads (.resetPinRelease pins) s (DriftHeld (MayLower s (.resetPinRelease pins)) s) := by
  refine .intro rfl ?_
  split
  next hphase => exact coldReset_driftHeld hphase _ _ _
  next => exact (clearWarm_driftHeld (t := setPinLow false s) (.of_eq rfl rfl rfl)).congr rfl rfl rfl
  all_goals exact .of_eq rfl rfl rfl

/-- Of the service line's own commands only WEAR_CLEAR is a WEAR_CLEAR. -/
theorem toolCommand_driftHeld {p : Prop} (tag kind : Byte) {req : Option ToolRequest}
    (hno : ∀ z, req ≠ some (.wearClear z)) (s : State) :
    DriftHeld p s (toolStep tag kind req s) :=
  toolStep_driftHeld tag kind (fun z hz => absurd hz (hno z)) s

theorem bankPairs_ne_wearClear (es : List (Byte × Byte)) (z : Nat) :
    bankPairs es ≠ some (.wearClear z) := by
  intro h
  obtain ⟨ps, -, hb⟩ := Option.bind_eq_some_iff.mp h
  unfold bankEntries at hb
  split_ifs at hb
  exact nomatch hb

theorem latchRequest_ne_wearClear (b : Nat) (v : Rgb Nat) (z : Nat) :
    latchRequest b v ≠ some (.wearClear z) := by
  unfold latchRequest
  split_ifs
  · exact fun h => nomatch h
  · exact fun h => nomatch h

theorem parseIdentity_ne_wearClear (fields : List Byte) (z : Nat) :
    parseIdentity fields ≠ some (.wearClear z) := by
  unfold parseIdentity
  split_ifs
  · exact fun h => nomatch h
  · exact fun h => nomatch h

/-- What every command does to the drift values. -/
theorem leads_driftHeld (s : State) : ∀ c, Leads c s (DriftHeld (MayLower s c) s)
  | .powerOn _ =>
    .intro rfl (.ite _ (coldReset_driftHeld trivial ⟨0, 0, false⟩ s s)
      (coldReset_driftHeld trivial _ s s))
  | .resetPinRelease pins => resetPinRelease_driftHeld pins s
  | .warmReset _ =>
    .intro rfl (.ite _ ((clearWarm_driftHeld (.refl s)).congr rfl rfl rfl) (.refl s))
  | .startupChecksDone f => .intro rfl (startupChecksDone_driftHeld f s)
  | .loadSample => .intro rfl (millisecond_driftHeld s)
  | .thermalTick => .intro rfl (onTick_driftHeld (thermalTick_driftHeld s))
  | .pilotTick => .intro rfl (onTick_driftHeld (pilotTick_driftHeld s))
  | .scrubTick => .intro rfl (onTick_driftHeld (scrubTick_driftHeld s))
  | .reportTick =>
    .intro rfl (onTick_driftHeld (conclude_driftHeld (t := s.setTimebase _) _ _
      (.of_eq rfl rfl rfl)))
  | .driftSaveTick => .intro rfl (onTick_driftHeld (driftSaveTick_driftHeld s))
  | .restWakeExpiry => .intro rfl (restWakeExpiry_driftHeld s)
  | .primingTimerExpiry _ => .intro rfl (onTick_driftHeld (.of_eq rfl rfl rfl))
  | .settleTimerExpiry => .intro rfl (onTick_driftHeld (settleTimerExpiry_driftHeld s))
  | .linkStale l => .intro rfl (onTick_driftHeld (ageExpiry_driftHeld l s))
  | .blankAfterExpiry => .intro rfl (onTick_driftHeld (blankAfterExpiry_driftHeld s))
  | .creditResendTimer l =>
    .intro rfl (.ite _ (offerCredits_keeps (ps := [.linkA, .linkB]) l (KeepsBut.refl _ s)
      (by simp)).driftHeld (.refl s))
  | .signalDetected l =>
    .intro rfl (.ite _ (setLinkState_keeps (ps := [.linkA, .linkB]) l _ (KeepsBut.refl _ s)
      (by simp)).driftHeld (.refl s))
  | .symbolLock l =>
    .intro rfl (.ite _ (offerCredits_keeps (ps := [.linkA, .linkB]) l
      (setLinkState_keeps l _ (KeepsBut.refl _ s) (by simp)) (by simp)).driftHeld (.refl s))
  | .linkDown l => .intro rfl (linkDown_driftHeld l s)
  | .init l u | .frameHead l u | .row l u | .promptMessageArrival l _ u | .block (.port l u) =>
    .intro rfl (receive_driftHeld l _ u s)
  | .answerSent who => answerSent_driftHeld who s
  | .unknownKind l =>
    .intro rfl (refusePrompt_keeps (ps := [.linkA, .linkB]) l (KeepsBut.refl _ s)
      (by simp)).driftHeld
  | .block (.tool _ _) => .intro rfl (toolCommand_driftHeld _ _ (fun _ hz => by
      obtain ⟨_, -, hb⟩ := Option.map_eq_some_iff.mp hz
      exact nomatch hb) s)
  | .wall l | .take l => .intro rfl (promptStep_driftHeld l _ s)
  | .dark v | .light v | .rest v | .queryZoneStatus v | .queryStoreStatus v | .queryThermalState v
  | .queryWearState v | .queryGainState v | .queryComposerState v | .querySensorState v
  | .queryAuthorityState v | .queryLinkState v | .queryConfiguration v | .close v | .reset v
  | .rebuild v | .setJobLevel v | .setPhaseTable v | .setDarkPolicy v
  | .setHoldTime v | .setBlankAfter v | .setThermalInterval v | .setK v | .setRho v | .setFCap v
  | .setSensorMap v | .setAssumedAmbient v | .setPilotInterval v | .setScrubInterval v
  | .setReportInterval v | .setDriftSaveInterval v | .setRestWakeInterval v =>
    .intro rfl (requestStep_driftHeld v _ _ _ s)
  | .trim _ _ => .intro rfl (toolCommand_driftHeld _ _ (by intro _ h; cases h) s)
  | .wearClear _ _ => .intro rfl (toolStep_driftHeld _ _ (fun _ _ => trivial) s)
  | .bank _ es => .intro rfl (toolCommand_driftHeld _ _ (bankPairs_ne_wearClear es) s)
  | .latch _ _ _ => .intro rfl (toolCommand_driftHeld _ _ (latchRequest_ne_wearClear _ _) s)
  | .identity _ f => .intro rfl (toolCommand_driftHeld _ _ (parseIdentity_ne_wearClear f) s)
  | .sync low => .intro rfl (sync_driftHeld low s)
  | .serviceFrame bytes => .intro rfl (.ite _ (receiveBytes_driftHeld bytes (.refl s)) (.refl s))
  | .serviceFrameTimeout => .intro rfl (.ite _ (.of_eq rfl rfl rfl) (.refl s))
  | .serviceBreak _ => .intro rfl (.ite _ (returnToSync_driftHeld s) (.refl s))
  | .idle => .intro rfl (.ite _ ((returnToSync_driftHeld s).congr rfl rfl rfl) (.refl s))
  | .sensorResponse f => .intro rfl (onSensor_driftHeld (sensorResponse_driftHeld f s))
  | .sensorDeadline => .intro rfl (onSensor_driftHeld (sensorDeadline_driftHeld s))
  | .blockReadDone cells => .intro rfl (blockReadDone_driftHeld cells s)
  | .blockProgramDone cells => .intro rfl (blockProgramDone_driftHeld cells s)
  | .identityProgramDone cells => .intro rfl (identityProgramDone_driftHeld cells s)
  | .driftSaveDone cells => .intro rfl (driftSaveDone_driftHeld cells s)
  | .thermalJobEnd => .intro rfl (thermalJobEnd_driftHeld s)
  | .gainEnd => .intro rfl (gainEnd_driftHeld s)
  | .resetPinDrivenLow =>
    .intro rfl (.ite _ ((clearWarm_driftHeld (t := setPinLow true s) (.of_eq rfl rfl rfl)).congr
      rfl rfl rfl) (.of_eq rfl rfl rfl))
  | .powerLoss => .intro rfl (coldReset_driftHeld trivial ⟨0, 0, false⟩ s s)

/-! ## The statements -/

/-- Settles O50: on the front command by `leads_driftHeld`; an idle second moves the wake counter
alone. -/
theorem kappaLawIsKept : Obligations.KappaLawIsKept := by
  intro s t h hs
  cases hp : s.pending with
  | nil =>
    rw [step_nil hp] at hs
    cases hs
    exact (idleSecond_driftHeld (lowers := True) s).1 h
  | cons c rest =>
    rw [step_cons hp] at hs
    exact ((leads_driftHeld (s.setPending rest) c).of_exec hs).1 h

/-- Settles O59: a command that the statement names is one that may lower a counter; every other
lets the counters grow. -/
theorem wearNeverDecreases : Obligations.WearNeverDecreases := by
  intro c s t hon hloss hrelease hchecks hclear hframe he
  have hno : ¬MayLower s c := by
    cases c with
    | powerOn pins => exact absurd rfl (hon pins)
    | powerLoss => exact absurd rfl hloss
    | resetPinRelease pins => exact fun hphase => hrelease hphase pins rfl
    | startupChecksDone f => exact absurd rfl (hchecks f)
    | wearClear tag z => exact absurd rfl (hclear tag z)
    | serviceFrame bytes => exact absurd rfl (hframe bytes)
    | _ => exact id
  obtain ⟨hzones, hpilot⟩ := ((leads_driftHeld s c).of_exec he).2 hno
  refine ⟨fun z w hz hw => ?_, fun hw e => (hpilot e (hw e)).1⟩
  obtain ⟨w', hz', hgrown⟩ := hzones z w hz
  exact ⟨w', hz', fun e => (hgrown e (hw e)).1⟩

end Sys2Proof.Machine
end

section
/-! The pilot sequence (R77 to R79, R82): which emitters it skips, what it leaves where it drives
one and where it ends, and the two steps that begin a sequence and a read. -/

namespace Sys2Proof.Machine

-- One proof after the other: side by side their threads want too much memory.
set_option Elab.async false

section Sequence

variable {s t u : State}

/-! ## What keeps a state steady -/

/-- The parts of the state that a step of the pilot sequence can move. -/
def pilotParts : List Part := [.wear, .driver, .timebase, .sensors, .composer]

/-- The banks do not look at the drive of the pilot emitters. -/
theorem settleBanks_of_pilotDrive (hc : t.chip = s.chip) (ha : t.authority = s.authority)
    (hd : t.driver = { s.driver with pilotDrive := t.driver.pilotDrive }) :
    settleBanks t =
      t.setDriver { (settleBanks s).driver with pilotDrive := t.driver.pilotDrive } := by
  generalize t.driver.pilotDrive = d at hd ⊢
  unfold settleBanks forgetRows primeBanks State.carries State.bank State.height
  simp only [setDriver_chip, setDriver_authority, setDriver_driver, hc, ha, hd]
  rfl

/-- A steady state stays steady through a step of the sequence, as long as no decision comes due and
nothing is staged. -/
theorem Steady.through_pilot (h : Steady s) (k : KeepsBut pilotParts s u)
    (hd : u.driver = { s.driver with pilotDrive := u.driver.pilotDrive }) (hn : NoDecision u)
    (hst : u.composer.staging = s.composer.staging) : Steady u := by
  obtain ⟨_, hbanks, hforce, hseeks⟩ := h
  have hchip : u.chip = s.chip := k.chip_eq (by decide)
  have hauth : u.authority = s.authority := k.authority_eq (by decide)
  have hrender : u.render = s.render := k.render_eq (by decide)
  have hstore : u.store = s.store := k .store (by decide)
  refine ⟨hn, ?_, ?_, ?_⟩
  · rw [settleBanks_of_pilotDrive hchip hauth hd, hbanks, ← hd]
    rfl
  · rw [isRendering_congr hchip (by rw [hauth]), hst, hrender]
    exact hforce
  · rw [hstore]
    exact hseeks.imp_right fun hno r hr =>
      hno r (hr.congr hstore.symm (by rw [hchip]) (by rw [hchip]))

/-- So does one that leaves the composer alone. -/
theorem Steady.through_quiet_pilot (h : Steady s)
    (k : KeepsBut [.wear, .driver, .timebase, .sensors] s u)
    (hd : u.driver = { s.driver with pilotDrive := u.driver.pilotDrive }) : Steady u := by
  have hchip : u.chip = s.chip := k.chip_eq (by decide)
  have hc : u.composer = s.composer := k .composer (by decide)
  exact h.through_pilot (k.mono (by simp [pilotParts])) hd
    (h.1.congr hc (by rw [hchip]) (by rw [hchip])) (by rw [hc])

/-! ## The emitters in their order (R78, R82) -/

/-- R78: the emitter has no reference, so that the sequence skips it. -/
def State.unmeasured (s : State) (e : Emitter) : Bool :=
  decide (Rgb.get s.store.constants.ref e = 0)

/-- The sequence goes on with these emitters, in this order. -/
def takeFrom : List Emitter → State → State
  | [] => endSequence
  | e :: es => takeEmitter e (takeFrom es)

/-- The emitters that follow one in the order R, G, B. -/
def emittersAfter : Emitter → List Emitter
  | .r => [.g, .b]
  | .g => [.b]
  | .b => []

theorem takeRed_eq : takeRed = takeFrom [.r, .g, .b] := rfl

theorem takeAfter_eq (e : Emitter) : takeAfter e = takeFrom (emittersAfter e) := by cases e <;> rfl

theorem not_mem_emittersAfter (e : Emitter) : e ∉ emittersAfter e := by cases e <;> decide

/-- The last results once these emitters have been skipped. -/
def skippedResults (l : List Emitter) (r : Rgb PilotResult) : Rgb PilotResult :=
  l.foldl (fun r e => Rgb.set r e .skipped) r

/-- These emitters skipped. -/
def skipEmitters (l : List Emitter) (s : State) : State :=
  s.setWear { s.wear with results := skippedResults l s.wear.results }

theorem get_skippedResults (l : List Emitter) (r : Rgb PilotResult) (f : Emitter) :
    Rgb.get (skippedResults l r) f = if f ∈ l then .skipped else Rgb.get r f := by
  induction l generalizing r with
  | nil => rfl
  | cons e l ih =>
    show Rgb.get (skippedResults l (Rgb.set r e .skipped)) f = _
    rw [ih]
    by_cases hf : f = e
    · simp [hf]
    · simp [hf, Rgb.get_set_other]

/-- R78: of these emitters the first with a reference is driven, those before it are skipped. -/
theorem takeFrom_of_some {es : List Emitter} {e : Emitter}
    (h : es.find? (fun f => !s.unmeasured f) = some e) :
    takeFrom es s = settleEmitter e (skipEmitters (es.takeWhile s.unmeasured) s) := by
  induction es generalizing s with
  | nil => exact nomatch h
  | cons f es ih =>
    cases hf : s.unmeasured f with
    | true =>
      rw [List.find?_cons_of_neg (by simp [hf])] at h
      rw [List.takeWhile_cons_of_pos hf]
      exact (if_pos (of_decide_eq_true hf)).trans (ih (s := setPilotResult f .skipped s) h)
    | false =>
      rw [List.find?_cons_of_pos (by simp [hf])] at h
      cases h
      rw [List.takeWhile_cons_of_neg (by simp [hf])]
      exact if_neg (of_decide_eq_false hf)

/-- R82: where none of them has a reference all are skipped and the sequence ends. -/
theorem takeFrom_of_none {es : List Emitter}
    (h : es.find? (fun f => !s.unmeasured f) = none) :
    takeFrom es s = endSequence (skipEmitters (es.takeWhile s.unmeasured) s) := by
  induction es generalizing s with
  | nil => rfl
  | cons f es ih =>
    have hf : s.unmeasured f = true := by
      simpa using List.find?_eq_none.mp h f List.mem_cons_self
    rw [List.find?_cons_of_neg (by simp [hf])] at h
    rw [List.takeWhile_cons_of_pos hf]
    exact (if_pos (of_decide_eq_true hf)).trans (ih (s := setPilotResult f .skipped s) h)

/-- R82: a sequence in which no κ changed requests nothing. -/
theorem endSequence_of_unchanged (h : s.wear.changed = false) :
    endSequence s = s.setWear
      { s.wear with
        state := .idle, settleTimer := 0, sequences := (s.wear.sequences + 1) % 65536 } := by
  unfold endSequence
  simp only [h, Bool.false_eq_true, if_false]
  rfl

/-! ## The pilot tick (R77) -/

/-- The tick's interval has begun again. -/
def pilotTimed (s : State) : State :=
  s.setTimebase { s.timebase with pilot := 60000 * s.settings.pilotInterval }

theorem exec_pilotTick (hs : s.timebaseRuns = true) :
    exec .pilotTick s = .next (settleWork (startSequence (pilotTimed s))) :=
  congrArg Host.Outcome.next (if_pos hs)

/-- A tick whose sequence leaves the composer alone asks nothing of it. -/
theorem pilotTick_quiet {P : State → Prop} (hs : s.timebaseRuns = true)
    (hu : startSequence (pilotTimed s) = u)
    (k : KeepsBut [.wear, .driver, .timebase] s u)
    (hd : u.driver = { s.driver with pilotDrive := u.driver.pilotDrive }) (hp : P u) :
    Leads .pilotTick s (QuietWorkFrom s P) :=
  .intro (exec_pilotTick hs) (hu ▸ .intro hp fun hq => hq.through_quiet_pilot (k.mono (by simp)) hd)

theorem sequenceMayStart_iff (s : State) :
    s.sequenceMayStart = true ↔
      s.wear.state = .idle ∧ (s.chip.power = .run ∨ s.chip.power = .dark) ∧
        s.chip.config = .closed ∧ s.wear.staleRead = none := by
  simp [State.sequenceMayStart, and_assoc]

/-- A sequence that has begun, with no emitter taken yet. -/
def sequenceBegun (s : State) : State :=
  (pilotTimed s).setWear { s.wear with changed := false }

theorem startSequence_of_may (h : s.sequenceMayStart = true) :
    startSequence (pilotTimed s) = takeFrom [.r, .g, .b] (sequenceBegun s) := if_pos h

theorem sequenceBegun_keeps (s : State) : KeepsBut [.wear, .timebase] s (sequenceBegun s) :=
  setWear_keeps _ (setTimebase_keeps _ (KeepsBut.refl _ s) (by decide)) (by decide)

/-- The state once the emitters without a reference before the first with one have been skipped. -/
def sequenceSkipped (s : State) : State :=
  skipEmitters ([Emitter.r, .g, .b].takeWhile s.unmeasured) (sequenceBegun s)

theorem sequenceSkipped_keeps (s : State) :
    KeepsBut [.wear, .driver, .timebase] s (sequenceSkipped s) :=
  setWear_keeps _ ((sequenceBegun_keeps s).mono (by simp)) (by decide)

theorem get_sequenceSkipped (s : State) (f : Emitter) :
    Rgb.get (sequenceSkipped s).wear.results f =
      if f ∈ [Emitter.r, .g, .b].takeWhile s.unmeasured then .skipped
      else Rgb.get s.wear.results f := get_skippedResults _ _ f

/-- The tick begins a sequence with the first emitter that has a reference. -/
theorem startSequence_drives {e : Emitter} (hm : s.sequenceMayStart = true)
    (he : [Emitter.r, .g, .b].find? (fun f => !s.unmeasured f) = some e) :
    startSequence (pilotTimed s) = settleEmitter e (sequenceSkipped s) :=
  (startSequence_of_may hm).trans (takeFrom_of_some he)

/-- Where no emitter has one, the sequence ends at once. -/
theorem startSequence_ends (hm : s.sequenceMayStart = true)
    (hn : [Emitter.r, .g, .b].find? (fun f => !s.unmeasured f) = none) :
    startSequence (pilotTimed s) = (sequenceSkipped s).setWear
      { (sequenceSkipped s).wear with
        state := .idle, settleTimer := 0, sequences := (s.wear.sequences + 1) % 65536 } :=
  ((startSequence_of_may hm).trans (takeFrom_of_none hn)).trans (endSequence_of_unchanged rfl)

/-! ## The settle timer's expiry (R79, R122, R123) -/

/-- READ(e), its read still to be placed. -/
def readBegun (e : Emitter) (s : State) : State :=
  s.setWear { s.wear with state := .read e, settleTimer := 0 }

theorem beginRead_of_idle (e : Emitter) (hb : BusIdle s) :
    beginRead e s = setSensorQueue [⟨.light e, [.wear]⟩] (readBegun e s) := by
  obtain ⟨hq, hi⟩ := hb
  have hqueue : (readBegun e s).sensors.queue = [] := hq
  have hnew := placeSensor_of_new (s := readBegun e s) (r := .light e) .wear hi (by
    rw [hqueue]
    exact fun q hm => nomatch hm)
  rw [hqueue] at hnew
  exact hnew

/-- R79: on an idle bus the read starts in the step that places it. -/
theorem startNext_beginRead (e : Emitter) (hb : BusIdle s) :
    startNext (beginRead e s) = (readBegun e s).setSensors
      { s.sensors with
        inFlight := some ⟨.light e, [.wear], s.sensors.tag, 5⟩
        tag := (s.sensors.tag + 1) % 16 } := by
  rw [beginRead_of_idle e hb, startNext_of_present (e := ⟨.light e, [.wear]⟩) (rest := [])
    (by exact hb.2) rfl rfl]
  show (readBegun e s).setSensors { s.sensors with queue := [], inFlight := _, tag := _ } = _
  rw [← hb.1]
  rfl

theorem settleTimerExpiry_reads {e : Emitter} (hs : s.timebaseRuns = true)
    (he : s.wear.state = .settle e) (hb : BusIdle s) :
    Leads .settleTimerExpiry s (QuietFrom s fun u =>
      u.wear = { s.wear with state := .read e, settleTimer := 0 } ∧
      u.sensors =
        { s.sensors with
          inFlight := some ⟨.light e, [.wear], s.sensors.tag, 5⟩
          tag := (s.sensors.tag + 1) % 16 } ∧
      KeepsBut [.wear, .sensors] s u) := by
  have hexec : exec .settleTimerExpiry s = .next (settle (startNext (beginRead e s))) := by
    show Host.Outcome.next (onTick settleTimerExpiry s) = _
    rw [onTick, if_pos hs, settleTimerExpiry, he]
  rw [startNext_beginRead e hb] at hexec
  have hk : ∀ n, KeepsBut [.wear, .sensors] s ((readBegun e s).setSensors n) := fun n =>
    setSensors_keeps _ (setWear_keeps _ (KeepsBut.refl _ s) (by decide)) (by decide)
  exact .intro hexec (.intro ⟨rfl, rfl, hk _⟩ fun hq =>
    hq.through_quiet_pilot ((hk _).mono (by simp)) rfl)

end Sequence

/-! ## The statement -/

/-- Settles O10: a tick starts a sequence, whose emitters without a reference `takeFrom` skips, or
leaves the wear unit alone; the expiry places its read on the idle bus. -/
theorem pilotSequenceSteps : Obligations.PilotSequenceSteps := by
  intro s hs
  have hframe := sequenceSkipped_keeps s
  refine ⟨fun hidle hpower hclosed hstale => ?_, fun hno => ?_,
    fun e he hb => settleTimerExpiry_reads hs he hb⟩
  · have hm := (sequenceMayStart_iff s).mpr ⟨hidle, hpower, hclosed, hstale⟩
    cases hf : [Emitter.r, .g, .b].find? (fun f => !s.unmeasured f) with
    | some e =>
      have hk : KeepsBut [.wear, .driver, .timebase] s (settleEmitter e (sequenceSkipped s)) :=
        settleEmitter_keeps e hframe (by simp)
      refine pilotTick_quiet hs (startSequence_drives hm hf) hk rfl
        ⟨get_sequenceSkipped s, fun f he => ?_, fun hall => ?_, rfl, hk⟩
      · obtain rfl : e = f := Option.some.inj (hf.symm.trans he)
        exact ⟨rfl, rfl⟩
      · have hskip : s.unmeasured e = true :=
          List.takeWhile_eq_self_iff.mp hall e (List.mem_of_find?_eq_some hf)
        have hdriven := List.find?_some hf
        simp [hskip] at hdriven
    | none =>
      have hk : ∀ w, KeepsBut [.wear, .driver, .timebase] s ((sequenceSkipped s).setWear w) :=
        fun w => setWear_keeps w hframe (by decide)
      refine pilotTick_quiet hs (startSequence_ends hm hf) (hk _) rfl
        ⟨get_sequenceSkipped s, fun f he => absurd (hf.symm.trans he) (Option.some_ne_none f).symm,
          fun _ => ⟨?_, rfl⟩, rfl, hk _⟩
      rw [← hidle]
      rfl
  · have hm : ¬s.sequenceMayStart = true := fun h => by
      obtain ⟨hidle, hpower, hclosed, hstale⟩ := (sequenceMayStart_iff s).mp h
      rcases hno with hno | hno | hno | hno
      · exact hno hidle
      · exact hpower.elim hno.1 hno.2
      · exact nomatch hclosed.symm.trans hno
      · exact hno hstale
    exact pilotTick_quiet hs (if_neg hm)
      (setTimebase_keeps _ (KeepsBut.refl _ s) (by decide)) rfl rfl

end Sys2Proof.Machine
end

section
/-! The end of a light transaction (R78 to R83, R123 to R128): the record, the measurement with its
κ, the emitters that follow, the next transaction; and the responses that end none. -/

namespace Sys2Proof.Machine

-- One proof after the other: side by side their threads want too much memory.
set_option Elab.async false

section Light

variable {s u : State} {e : Emitter} {c : Completion}

/-! ## Sensor events that leave the authority and the chip -/

theorem onSensor_of_kept {f : State → State} (hl : s.live = true) (hu : f s = u)
    (k : KeepsBut pilotParts s u) : onSensor f s = settle u := by
  have hsettle : KeepsBut ([.composer, .store, .driver, .thermal, .wear, .render] ++ pilotParts)
      s (settle u) :=
    settle_keeps (k.mono (List.subset_append_right _ _)) (List.subset_append_left _ _)
  rw [onSensor, if_pos hl, hu, conclude_of_kept hsettle (by decide) (by decide)]

/-- An event that leaves the composer alone asks nothing of it. -/
theorem sensorEvent_quiet {row : Instr} {P : State → Prop} (he : exec row s = .next (settle u))
    (k : KeepsBut [.sensors, .wear] s u) (hp : P u) : Leads row s (QuietFrom s P) :=
  .intro he (.intro hp fun hq =>
    hq.through_quiet_pilot (k.mono (by simp)) (by rw [k.driver_eq (by decide)]))

/-- An event that may request GAIN asks nothing of a busy composer. -/
theorem sensorEvent_settled {row : Instr} {P : State → Prop} {gain : Bool}
    (he : exec row s = .next (settle u)) (k : KeepsBut pilotParts s u)
    (hd : u.driver = { s.driver with pilotDrive := u.driver.pilotDrive })
    (hc : u.composer = { s.composer with gainPending := gain }) (hp : P u) :
    Leads row s (SettledFrom s P) := by
  refine .intro he (.intro hp fun hq hbusy => ?_)
  have hbusy' : Busy u := by
    unfold Busy State.composerStopped State.started
    rw [hc, k.chip_eq (by decide)]
    exact hbusy
  rw [settle_of_steady (hq.through_pilot k hd (.inl hbusy') (by rw [hc]))]
  exact hp

/-! ## The next transaction (R123) -/

/-- The sensor bus `n` is the bus `m` with its next entry, if there is one, started. -/
def NextStarts (m n : Sensors) : Prop :=
  match m.queue with
  | [] => n = m
  | q :: rest =>
    n = { m with
      queue := rest, inFlight := some ⟨q.request, q.requesters, m.tag, 5⟩
      tag := (m.tag + 1) % 16 }

/-- On a free bus whose entries are of sensors that are there. -/
theorem startNext_starts (hi : s.sensors.inFlight = none)
    (hp : ∀ q ∈ s.sensors.queue, s.absentFor q.request = false) :
    ∃ n, NextStarts s.sensors n ∧ startNext s = s.setSensors n := by
  unfold NextStarts
  cases hq : s.sensors.queue with
  | nil => exact ⟨_, rfl, startNext_of_empty hq⟩
  | cons q rest =>
    exact ⟨_, rfl, startNext_of_present hi hq (hp q (by rw [hq]; exact List.mem_cons_self))⟩

/-! ## The transaction's end (R124, R125, R127, R128) -/

/-- R127: the bus once a light transaction of emitter `e` has ended. -/
def lightSensors (e : Emitter) (c : Completion) (n : Sensors) : Sensors :=
  { n with
    inFlight := none
    light :=
      { misses := missCount c n.light.misses
        readings :=
          (match c with
           | .good v => Rgb.set n.light.readings e (some v.toNat)
           | .bad | .missed => n.light.readings) }
    counts := n.counts.modify 4 (countsAfter c) }

/-- The state in which the completion is delivered. -/
def lightRecorded (e : Emitter) (c : Completion) (s : State) : State :=
  s.setSensors (lightSensors e c s.sensors)

theorem recordCompletion_light (e : Emitter) (c : Completion) (s : State) :
    recordCompletion (.light e) c (s.setSensors { s.sensors with inFlight := none }) =
      lightRecorded e c s := by
  cases c <;> rfl

/-- The state once the completion has been delivered and the bus is `n`. -/
def lightEnded (e : Emitter) (c : Completion) (n : Sensors) (s : State) : State :=
  (lightCompletion e c (lightRecorded e c s)).setSensors n

theorem lightEnded_keeps (n : Sensors) :
    KeepsBut [.sensors, .wear, .composer, .driver] s (lightEnded e c n s) :=
  setSensors_keeps _ (lightCompletion_keeps e c
    (setSensors_keeps _ (KeepsBut.refl _ s) (by decide)) (by simp)) (by decide)

theorem endTransaction_light {tr : Transaction} (hr : tr.request = .light e)
    (hw : tr.requesters = [.wear])
    (hp : ∀ q ∈ s.sensors.queue, ∀ p, q.request = .temp p → p ∈ s.settings.sensorMap) :
    ∃ n, NextStarts (lightSensors e c s.sensors) n ∧
      endTransaction tr c s = lightEnded e c n s := by
  have hk : KeepsBut [.wear, .composer, .driver] (lightRecorded e c s)
      (lightCompletion e c (lightRecorded e c s)) :=
    lightCompletion_keeps e c (KeepsBut.refl _ _) (by simp)
  have hsensors : (lightCompletion e c (lightRecorded e c s)).sensors =
      lightSensors e c s.sensors := hk .sensors (by decide)
  have hmap : (lightCompletion e c (lightRecorded e c s)).settings = s.settings :=
    hk .settings (by decide)
  obtain ⟨n, hn, hstart⟩ := startNext_starts (s := lightCompletion e c (lightRecorded e c s))
    (by rw [hsensors]; rfl) (fun q hq => by
      rw [hsensors] at hq
      cases hreq : q.request with
      | light f => rfl
      | temp p => exact absentFor_of_mem (by rw [hmap]; exact hp q hq p hreq))
  rw [hsensors] at hn
  refine ⟨n, hn, ?_⟩
  rw [endTransaction, hr, hw, recordCompletion_light]
  exact hstart

/-- R124: a response to a light read that passes its check is classified by its flags. -/
theorem exec_endsWith {row : Instr} {tr : Transaction} (hl : s.live = true)
    (h : EndsWith row tr c s) (hr : tr.request = .light e)
    (hu : endTransaction tr c s = u) (k : KeepsBut pilotParts s u) :
    exec row s = .next (settle u) := by
  obtain ⟨hi, ⟨rfl, rfl⟩ | ⟨f, rfl, hok, htag, hc⟩⟩ := h
  · refine congrArg Host.Outcome.next (onSensor_of_kept hl ?_ k)
    rw [sensorDeadline, hi]
    exact hu
  · refine congrArg Host.Outcome.next (onSensor_of_kept hl ?_ k)
    have hclass : classify tr.request f = c := by
      rw [hr] at hc ⊢
      rw [hc, classify]
      cases f.failed <;> simp
    simp only [sensorResponse, if_pos hok, hi, if_pos htag, hclass]
    exact hu

/-! ## The measurement (R80, R81) -/

/-- R80 step 6: the new κ, with its bounds written out. -/
theorem kappaAfter_eq (kappa ratio : Nat) :
    ((kappaAfter kappa ratio : Nat) : Int) =
      if (kappa : Int) + ((ratio : Int) - kappa) / 8 < 49152 then 49152
      else if 81920 < (kappa : Int) + ((ratio : Int) - kappa) / 8 then 81920
      else (kappa : Int) + ((ratio : Int) - kappa) / 8 := by
  have hmem := clampInt_mem (lo := 49152) (hi := 81920) (by decide)
    ((kappa : Int) + ((ratio : Int) - kappa) / 8)
  rw [kappaAfter, Int.toNat_of_nonneg (by omega), clampInt_eq_ite (by decide)]

/-- R80: a κ is changed where its bounded value differs. -/
theorem kappaAfter_bne (kappa ratio : Nat) :
    (kappaAfter kappa ratio != kappa) =
      decide (((kappaAfter kappa ratio : Nat) : Int) ≠ (kappa : Int)) := by
  rw [Bool.eq_iff_iff, bne_iff_ne, decide_eq_true_iff, ne_eq, ne_eq, Int.natCast_inj]

/-- R80, R81: the wear unit `w` after the completion `c` of the read of emitter `e` in state `s`. -/
def MeasuredBy (e : Emitter) (c : Completion) (s : State) (w : Wear) : Prop :=
  let missed (r : PilotResult) : Prop :=
    Rgb.get w.results e = r ∧ w.kappa = s.wear.kappa ∧ w.ratios = s.wear.ratios ∧
      w.misses = min 65535 (s.wear.misses + 1) ∧ w.changed = s.wear.changed
  let ratio (v : Int) : Nat := ratioOf (s.observed e v.toNat) (s.predicted e)
  let old : Int := ((Rgb.get s.wear.kappa e : Nat) : Int)
  let moved (v : Int) : Int := old + ((ratio v : Int) - old) / 8
  let kappa (v : Int) : Int :=
    if moved v < 49152 then 49152 else if 81920 < moved v then 81920 else moved v
  match c with
  | .good v =>
    if s.predicted e = 0 then missed .noPrediction
    else
      Rgb.get w.results e = .applied ∧ w.misses = s.wear.misses ∧
      w.ratios = Rgb.set s.wear.ratios e (ratio v) ∧
      ((Rgb.get w.kappa e : Nat) : Int) = kappa v ∧
      (∀ f, f ≠ e → Rgb.get w.kappa f = Rgb.get s.wear.kappa f) ∧
      w.changed = (s.wear.changed || decide (kappa v ≠ old))
  | .bad => missed .bad
  | .missed => missed .missed

/-- It speaks of the emitter's result, of κ, ratios, misses and the mark alone. -/
theorem MeasuredBy.congr {w w' : Wear} (h : MeasuredBy e c s w)
    (hr : Rgb.get w'.results e = Rgb.get w.results e) (hk : w'.kappa = w.kappa)
    (hra : w'.ratios = w.ratios) (hm : w'.misses = w.misses) (hc : w'.changed = w.changed) :
    MeasuredBy e c s w' := by
  unfold MeasuredBy at *
  rw [hr, hk, hra, hm, hc]
  exact h

/-- R80: a measurement that gives a ratio. -/
theorem applyRatio_measuredBy (v : Int) (hp : s.predicted e ≠ 0) :
    MeasuredBy e (.good v) s
      (applyRatio e (ratioOf (s.observed e v.toNat) (s.predicted e)) s).wear := by
  unfold MeasuredBy
  dsimp only
  rw [if_neg hp]
  simp only [← kappaAfter_eq, ← kappaAfter_bne]
  refine ⟨Rgb.get_set_same _ _ _, rfl, rfl, congrArg _ (Rgb.get_set_same _ _ _),
    fun f hf => Rgb.get_set_other _ hf _, rfl⟩

theorem measure_measuredBy (e : Emitter) (c : Completion) (s : State) :
    MeasuredBy e c s (measure e c s).wear := by
  cases c with
  | good v =>
    unfold measure
    dsimp only
    split_ifs with hp
    · unfold MeasuredBy
      dsimp only
      rw [if_pos hp]
      exact ⟨Rgb.get_set_same _ _ _, rfl, rfl, rfl, rfl⟩
    · exact applyRatio_measuredBy v hp
  | bad => exact ⟨Rgb.get_set_same _ _ _, rfl, rfl, rfl, rfl⟩
  | missed => exact ⟨Rgb.get_set_same _ _ _, rfl, rfl, rfl, rfl⟩

/-- A measurement changes the wear unit alone, and of it nothing of the counters, the trims, the
marks and the sequence. -/
theorem measure_eq (e : Emitter) (c : Completion) (s : State) :
    measure e c s = s.setWear (measure e c s).wear ∧
      (measure e c s).wear =
        { s.wear with
          results := (measure e c s).wear.results, kappa := (measure e c s).wear.kappa
          ratios := (measure e c s).wear.ratios, misses := (measure e c s).wear.misses
          changed := (measure e c s).wear.changed } := by
  cases c with
  | good v =>
    unfold measure
    dsimp only
    split_ifs
    · exact ⟨rfl, rfl⟩
    · exact ⟨rfl, rfl⟩
  | bad => exact ⟨rfl, rfl⟩
  | missed => exact ⟨rfl, rfl⟩

/-- No other emitter's result changes. -/
theorem measure_results (c : Completion) (s : State) {f : Emitter} (hf : f ≠ e) :
    Rgb.get (measure e c s).wear.results f = Rgb.get s.wear.results f := by
  cases c with
  | good v =>
    unfold measure
    dsimp only
    split_ifs
    · exact Rgb.get_set_other _ hf _
    · exact Rgb.get_set_other _ hf _
  | bad => exact Rgb.get_set_other _ hf _
  | missed => exact Rgb.get_set_other _ hf _

/-! ## The wear unit at the end of its read (R78, R79, R82, R83) -/

/-- R83: the completion of a stale read clears its mark. -/
theorem lightEnded_of_stale (n : Sensors) (h : s.wear.staleRead = some e) :
    lightEnded e c n s = (s.setWear { s.wear with staleRead := none }).setSensors n := by
  have hcompletion : lightCompletion e c (lightRecorded e c s) =
      (lightRecorded e c s).setWear { s.wear with staleRead := none } := if_pos h
  rw [lightEnded, hcompletion]
  rfl

/-- No read of this emitter is waited for. -/
theorem lightEnded_of_unwaited (n : Sensors) (h : s.wear.staleRead ≠ some e)
    (hr : s.wear.state ≠ .read e) : lightEnded e c n s = s.setSensors n := by
  have hcompletion : lightCompletion e c (lightRecorded e c s) = lightRecorded e c s :=
    (if_neg h).trans (if_neg hr)
  rw [lightEnded, hcompletion]
  rfl

/-- The wear unit once the read of emitter `e` has been measured. -/
def measuredWear (e : Emitter) (c : Completion) (s : State) : Wear :=
  (measure e c (lightRecorded e c s)).wear

theorem measuredWear_rest (e : Emitter) (c : Completion) (s : State) :
    measuredWear e c s =
      { s.wear with
        results := (measuredWear e c s).results, kappa := (measuredWear e c s).kappa
        ratios := (measuredWear e c s).ratios, misses := (measuredWear e c s).misses
        changed := (measuredWear e c s).changed } := (measure_eq e c (lightRecorded e c s)).2

theorem measuredWear_sequences (e : Emitter) (c : Completion) (s : State) :
    (measuredWear e c s).sequences = s.wear.sequences :=
  (congrArg Wear.sequences (measuredWear_rest e c s)).trans rfl

theorem measuredWear_measuredBy (e : Emitter) (c : Completion) (s : State) :
    MeasuredBy e c s (measuredWear e c s) := measure_measuredBy e c (lightRecorded e c s)

/-- A read that is waited for: measured, and the sequence goes on with the emitters behind. -/
theorem lightEnded_of_waited (n : Sensors) (h : s.wear.staleRead ≠ some e)
    (hr : s.wear.state = .read e) :
    lightEnded e c n s =
      (takeFrom (emittersAfter e) ((lightRecorded e c s).setWear (measuredWear e c s))).setSensors
        n := by
  have hcompletion : lightCompletion e c (lightRecorded e c s) =
      takeAfter e (measure e c (lightRecorded e c s)) := (if_neg h).trans (if_pos hr)
  rw [lightEnded, hcompletion, takeAfter_eq, (measure_eq e c (lightRecorded e c s)).1]
  rfl

/-- R82: the sequence's end, whether or not a κ changed in it. -/
theorem endSequence_eq (s : State) :
    endSequence s =
      (s.setWear
        { s.wear with
          state := .idle, settleTimer := 0
          sequences := (s.wear.sequences + 1) % 65536 }).setComposer
        { s.composer with gainPending := s.composer.gainPending || s.wear.changed } := by
  unfold endSequence
  cases h : s.wear.changed with
  | true =>
    rw [Bool.or_true]
    rfl
  | false =>
    rw [Bool.or_false]
    rfl

/-- R78: the wear unit once the emitters without a reference that come next have been skipped. -/
def goneOn (e : Emitter) (c : Completion) (s : State) : Wear :=
  { measuredWear e c s with
    results :=
      skippedResults ((emittersAfter e).takeWhile s.unmeasured) (measuredWear e c s).results }

theorem lightEnded_of_next {f : Emitter} (n : Sensors) (h : s.wear.staleRead ≠ some e)
    (hr : s.wear.state = .read e)
    (hf : (emittersAfter e).find? (fun f => !s.unmeasured f) = some f) :
    lightEnded e c n s =
      ((s.setWear { goneOn e c s with state := .settle f, settleTimer := 20 }).setDriver
        { s.driver with pilotDrive := Rgb.only f 32768 }).setSensors n := by
  rw [lightEnded_of_waited n h hr,
    takeFrom_of_some (s := (lightRecorded e c s).setWear (measuredWear e c s)) hf]
  rfl

theorem lightEnded_of_last (n : Sensors) (h : s.wear.staleRead ≠ some e)
    (hr : s.wear.state = .read e)
    (hf : (emittersAfter e).find? (fun f => !s.unmeasured f) = none) :
    lightEnded e c n s =
      ((s.setWear
        { goneOn e c s with
          state := .idle, settleTimer := 0
          sequences := (s.wear.sequences + 1) % 65536 }).setComposer
        { s.composer with
          gainPending := s.composer.gainPending || (measuredWear e c s).changed }).setSensors
        n := by
  rw [lightEnded_of_waited n h hr,
    takeFrom_of_none (s := (lightRecorded e c s).setWear (measuredWear e c s)) hf, endSequence_eq,
    ← measuredWear_sequences e c s]
  rfl

/-! ## What a waited read leaves, but for the sequence's next state -/

/-- The emitter that was measured is none of those skipped behind it. -/
theorem goneOn_measuredBy (e : Emitter) (c : Completion) (s : State) :
    MeasuredBy e c s (goneOn e c s) := by
  have hnot : e ∉ (emittersAfter e).takeWhile s.unmeasured := fun he =>
    not_mem_emittersAfter e ((List.takeWhile_prefix _).subset he)
  refine (measuredWear_measuredBy e c s).congr ?_ rfl rfl rfl rfl
  exact (get_skippedResults _ _ e).trans (if_neg hnot)

theorem goneOn_skipped {f : Emitter} (hf : f ∈ (emittersAfter e).takeWhile s.unmeasured) :
    Rgb.get (goneOn e c s).results f = .skipped := (get_skippedResults _ _ f).trans (if_pos hf)

theorem goneOn_others {f : Emitter} (hne : f ≠ e)
    (hf : f ∉ (emittersAfter e).takeWhile s.unmeasured) :
    Rgb.get (goneOn e c s).results f = Rgb.get s.wear.results f :=
  ((get_skippedResults _ _ f).trans (if_neg hf)).trans (measure_results c (lightRecorded e c s) hne)

theorem goneOn_rest (e : Emitter) (c : Completion) (s : State) :
    goneOn e c s =
      { s.wear with
        results := (goneOn e c s).results, kappa := (goneOn e c s).kappa
        ratios := (goneOn e c s).ratios, misses := (goneOn e c s).misses
        changed := (goneOn e c s).changed } :=
  congrArg (fun w : Wear => { w with results := (goneOn e c s).results }) (measuredWear_rest e c s)

/-! ## Where the sequence goes (R78, R82) -/

/-- The next emitter, if there is one, is driven and settles; otherwise the sequence ends, counted,
and requests GAIN if a κ changed in it. -/
def SequenceGoes (next : Option Emitter) (s u : State) : Prop :=
  match next with
  | some f =>
    u.wear.state = .settle f ∧ u.wear.settleTimer = 20 ∧
      u.wear.sequences = s.wear.sequences ∧ u.composer = s.composer ∧
      u.driver = { s.driver with pilotDrive := Rgb.set ⟨0, 0, 0⟩ f 32768 }
  | none =>
    u.wear.state = .idle ∧ u.wear.settleTimer = 0 ∧
      u.wear.sequences = (s.wear.sequences + 1) % 65536 ∧ u.driver = s.driver ∧
      u.composer = { s.composer with gainPending := s.composer.gainPending || u.wear.changed }

/-- The emitter that is measured next is the first that is not skipped. -/
theorem find_measured (l : List Emitter) (s : State) :
    (l.find? fun f => decide (Rgb.get s.store.constants.ref f ≠ 0)) =
      l.find? fun f => !s.unmeasured f := by
  simp only [ne_eq, decide_not]
  rfl

theorem lightEnded_goes (n : Sensors) (h : s.wear.staleRead ≠ some e)
    (hr : s.wear.state = .read e) :
    SequenceGoes
      ((emittersAfter e).find? fun f => decide (Rgb.get s.store.constants.ref f ≠ 0)) s
      (lightEnded e c n s) := by
  rw [find_measured]
  cases hf : (emittersAfter e).find? (fun f => !s.unmeasured f) with
  | some f =>
    rw [lightEnded_of_next n h hr hf]
    exact ⟨rfl, rfl, measuredWear_sequences e c s, rfl, rfl⟩
  | none =>
    rw [lightEnded_of_last n h hr hf]
    exact ⟨rfl, rfl, rfl, rfl, rfl⟩

/-- What a waited read leaves of the wear unit, but for the sequence's next state. -/
theorem lightEnded_wear (n : Sensors) (h : s.wear.staleRead ≠ some e)
    (hr : s.wear.state = .read e) :
    ∃ state timer sequences, (lightEnded e c n s).wear =
      { goneOn e c s with state := state, settleTimer := timer, sequences := sequences } := by
  cases hf : (emittersAfter e).find? (fun f => !s.unmeasured f) with
  | some f => exact ⟨_, _, _, congrArg State.wear (lightEnded_of_next n h hr hf)⟩
  | none => exact ⟨_, _, _, congrArg State.wear (lightEnded_of_last n h hr hf)⟩

/-- The driver and the composer stand but for the pilot drive and a GAIN request. -/
theorem lightEnded_frame (n : Sensors) (h : s.wear.staleRead ≠ some e)
    (hr : s.wear.state = .read e) :
    (lightEnded e c n s).driver =
        { s.driver with pilotDrive := (lightEnded e c n s).driver.pilotDrive } ∧
      (lightEnded e c n s).composer =
        { s.composer with gainPending := (lightEnded e c n s).composer.gainPending } := by
  cases hf : (emittersAfter e).find? (fun f => !s.unmeasured f) with
  | some f =>
    rw [lightEnded_of_next n h hr hf]
    exact ⟨rfl, rfl⟩
  | none =>
    rw [lightEnded_of_last n h hr hf]
    exact ⟨rfl, rfl⟩

/-! ## Responses that end no transaction (R126) -/

theorem sensorResponse_of_bad {f : SensorFrame} (h : f.checkOk = false) :
    sensorResponse f s = s.setSensors
      { s.sensors with checkFailures := min 65535 (s.sensors.checkFailures + 1) } :=
  if_neg (by simp [h])

theorem sensorResponse_of_late {f : SensorFrame} (h : f.checkOk = true)
    (ht : ∀ tr, s.sensors.inFlight = some tr → f.tag.toNat ≠ tr.tag) :
    sensorResponse f s = s.setSensors
      { s.sensors with late := min 65535 (s.sensors.late + 1) } := by
  unfold sensorResponse
  rw [if_pos h]
  cases hi : s.sensors.inFlight with
  | none => rfl
  | some tr => exact if_neg (ht tr hi)

theorem strayResponse_quiet {f : SensorFrame} {n : Sensors} (hl : s.live = true)
    (h : sensorResponse f s = s.setSensors n) :
    Leads (.sensorResponse f) s (QuietFrom s fun u => u = s.setSensors n) := by
  have hk : KeepsBut [.sensors] s (s.setSensors n) :=
    setSensors_keeps _ (KeepsBut.refl _ s) (by decide)
  exact sensorEvent_quiet (congrArg Host.Outcome.next
    (onSensor_of_kept hl h (hk.mono (by simp [pilotParts])))) (hk.mono (by simp)) rfl

end Light

/-! ## The statement -/

/-- Settles O41: the transaction's end is `lightEnded`, of which the three cases of the wear unit's
read are read off; a response that ends none counts and settles. -/
theorem lightCompletionsAndStrays : Obligations.LightCompletionsAndStrays := by
  refine ⟨fun row tr c e s hl hrow hr hw => ?_, fun f s hl =>
    ⟨fun hbad => strayResponse_quiet hl (sensorResponse_of_bad hbad),
      fun hok htag => strayResponse_quiet hl (sensorResponse_of_late hok htag)⟩⟩
  intro measured next hp
  obtain ⟨n, hn, hend⟩ := endTransaction_light (c := c) hr hw hp
  have hk := lightEnded_keeps (s := s) (e := e) (c := c) n
  have hexec := exec_endsWith hl hrow hr hend (hk.mono (by simp [pilotParts]))
  have hsensors : KeepsBut [.sensors] s (s.setSensors n) :=
    setSensors_keeps _ (KeepsBut.refl _ s) (by decide)
  refine ⟨fun hs => ?_, fun hs hst => ?_, fun hs hst => ?_⟩
  · rw [lightEnded_of_stale n hs] at hexec
    have hcleared : KeepsBut [.sensors, .wear] s
        ((s.setWear { s.wear with staleRead := none }).setSensors n) :=
      setSensors_keeps _ (setWear_keeps _ (KeepsBut.refl _ s) (by decide)) (by decide)
    exact sensorEvent_quiet hexec hcleared ⟨rfl, hn, hcleared⟩
  · rw [lightEnded_of_unwaited n hs hst] at hexec
    exact sensorEvent_quiet hexec (hsensors.mono (by simp)) ⟨hn, hsensors⟩
  · obtain ⟨hdriver, hcomposer⟩ := lightEnded_frame (c := c) n hs hst
    obtain ⟨state, timer, sequences, hwear⟩ := lightEnded_wear (c := c) n hs hst
    refine sensorEvent_settled hexec (hk.mono (by simp [pilotParts])) hdriver hcomposer
      ⟨?_, fun f hf => ?_, fun f hne hf => ?_, lightEnded_goes n hs hst, ?_, hn, hk⟩
    · exact (goneOn_measuredBy e c s).congr (by rw [hwear]) (by rw [hwear]) (by rw [hwear])
        (by rw [hwear]) (by rw [hwear])
    · rw [hwear]
      exact goneOn_skipped hf
    · rw [hwear]
      exact goneOn_others hne hf
    · rw [hwear]
      exact congrArg (fun w : Wear =>
        { w with state := state, settleTimer := timer, sequences := sequences })
        (goneOn_rest e c s)

end Sys2Proof.Machine
end

section
/-! TRIM and WEAR_CLEAR (R85, R86, R171): the frame's answer behind the work that follows, and the
drift save both place, which waits at a taken port and is granted where the port is free (R45, R54).
-/

namespace Sys2Proof.Machine

-- One proof after the other: side by side their threads want too much memory.
set_option Elab.async false

section Trim

variable {s u : State}

/-! ## The drift save that is placed (R45, R53, R54) -/

/-- R45: the store once a drift save has been requested; one that waits keeps its REST mark. -/
def saveAsked (st : Store) : Store :=
  { st with
    waiting := { st.waiting with driftSave := some (st.waiting.driftSave.getD false) } }

theorem requestSave_false (s : State) : requestSave false s = s.setStore (saveAsked s.store) := by
  rw [requestSave, Bool.or_false]
  rfl

/-- Where nothing else waits, the drift save alone takes part in the scan. -/
theorem eligible_of_save (hu : u.store = saveAsked s.store)
    (hw : s.store.waiting = Waiting.none) (r : Requester) :
    u.eligible r = true ↔ r = .driftSave := by
  rw [State.eligible, hu]
  unfold saveAsked
  rw [hw]
  cases r with
  | driftSave => exact iff_of_true rfl rfl
  | linkA => exact iff_of_false Bool.false_ne_true (by decide)
  | linkB => exact iff_of_false Bool.false_ne_true (by decide)
  | service => exact iff_of_false Bool.false_ne_true (by decide)
  | composer => exact iff_of_false Bool.false_ne_true (by decide)

/-- R54: at a free port with nothing else waiting, the scan grants the drift save at once. -/
theorem settleStore_save (hu : u.store = saveAsked s.store) (ho : OpenTo .driftSave s) :
    SaveGranted false s (settleStore u) := by
  obtain ⟨hfree, hw, hlength, hmem⟩ := ho
  have heligible := eligible_of_save hu hw
  obtain ⟨p, hp, hphase⟩ := winningPhase_of_only (s := u) (r := .driftSave)
    (by rw [hu]; exact hlength) (by rw [hu]; exact hmem) ((heligible _).mpr rfl)
    fun q hq => Bool.eq_false_iff.mpr fun he => hq ((heligible q).mp he)
  have hwaiting : u.store.waiting = { Waiting.none with driftSave := some false } := by
    rw [hu, saveAsked, hw]
    rfl
  have hgrant : settleStore u =
      grantRequest .driftSave (u.setStore { u.store with phasePointer := (p + 1) % 16 }) := by
    rw [settleStore, if_pos (by rw [hu]; exact hfree), hp]
    exact congrArg (grantRequest · _) hphase
  rw [hgrant]
  simp only [grantRequest, setStore_store, hwaiting]
  unfold SaveGranted
  show { u.store with
      waiting := Waiting.none, phasePointer := (p + 1) % 16, port := .granted (.save false)
      drift := ⟨driftBytes u.wear, crc16 (driftBytes u.wear), true⟩ } = _
  rw [hu, ← hw]
  rfl

/-- What follows a step that has placed a drift save and asks no decision of the composer. -/
theorem settleWork_save (hu : u.store = saveAsked s.store) (hn : NoDecision u) :
    (s.store.port ≠ .free → (settleWork u).store = saveAsked s.store) ∧
      (OpenTo .driftSave s → SaveGranted false s (settleWork u)) ∧
      KeepsBut [.store] u (settleWork u) := by
  rw [settleWork, settleComposer_of_noDecision hn]
  refine ⟨fun hport => ?_, settleStore_save hu, settleStore_keeps (KeepsBut.refl _ u) (by simp)⟩
  rw [settleStore_of_taken (by rw [hu]; exact hport), hu]

/-! ## The frame's answer (R169) -/

/-- The state once the answer without content has joined the service line's send queue. -/
def answered (tag kind : Byte) (r : Result) (s m : State) : State :=
  m.setService { s.service with sends := s.service.sends ++ [⟨tag, kind, r, [], false⟩] }

/-- The parts that the frames of the wear unit move, but for their answer. -/
def wearFrameParts : List Part := [.wear, .store, .composer, .driver, .thermal]

/-- A frame that is DONE at once, with the work that follows before its answer. -/
theorem toolStep_of_work {tag kind : Byte} {t : ToolRequest} (hs : s.started = true)
    (hl : s.service.line = .locked) (hr : s.service.sends.length < 8)
    (ht : performTool tag t s = .answered (acted .done (settleWork u)))
    (hreset : (t == .shared .reset) = false) (k : KeepsBut wearFrameParts s u) :
    toolStep tag kind (some t) s = answered tag kind .done s (settleWork u) := by
  have hwork : KeepsBut wearFrameParts s (settleWork u) :=
    settleWork_keeps k (by simp [wearFrameParts])
  have hservice : (settleWork u).service = s.service := hwork .service (by decide)
  have hanswer : KeepsBut (.service :: wearFrameParts) s
      (pushAnswer ⟨tag, kind, .done, [], false⟩ (settleWork u)) :=
    pushAnswer_keeps _ (hwork.mono (List.subset_cons_self _ _)) (by simp)
  rw [toolStep_of_room hs hl hr, ht, hreset]
  show conclude [] s (pushAnswer ⟨tag, kind, .done, [], false⟩ (settleWork u)) = _
  rw [conclude_of_kept hanswer (by decide) (by decide), pushAnswer, hservice]
  rfl

/-- What is left once the frame's request has placed a drift save and the answer has joined. -/
theorem answered_save {tag kind : Byte} {r : Result} (hu : u.store = saveAsked s.store)
    (k : KeepsBut [.wear, .store, .composer] s u) (hn : NoDecision u) :
    (answered tag kind r s (settleWork u)).wear = u.wear ∧
      (s.store.port ≠ .free →
        (answered tag kind r s (settleWork u)).store = saveAsked s.store) ∧
      (OpenTo .driftSave s → SaveGranted false s (answered tag kind r s (settleWork u))) ∧
      KeepsBut [.wear, .composer, .store, .service] s
        (answered tag kind r s (settleWork u)) := by
  obtain ⟨htaken, hopen, hkeeps⟩ := settleWork_save hu hn
  have hall : KeepsBut [.wear, .composer, .store, .service] s (settleWork u) :=
    (k.mono (by simp)).trans (hkeeps.mono (by simp))
  exact ⟨hkeeps .wear (by decide), htaken, hopen, setService_keeps _ hall (by decide)⟩

/-! ## TRIM (R85) -/

/-- R85: the trims stand, with GAIN requested if one changed and a drift save. -/
def trimmed (codes : Rgb Int) (s : State) : State :=
  ((s.setWear { s.wear with trim := codes }).setComposer
    { s.composer with
      gainPending := s.composer.gainPending || decide (codes ≠ s.wear.trim) }).setStore
    (saveAsked s.store)

theorem setTrims_eq (codes : Rgb Int) (s : State) : setTrims codes s = trimmed codes s := by
  unfold setTrims trimmed
  dsimp only
  rw [requestSave_false]
  by_cases h : codes = s.wear.trim
  · rw [if_pos h, decide_eq_false (not_not_intro h), Bool.or_false]
    rfl
  · rw [if_neg h, decide_eq_true h, Bool.or_true]
    rfl

theorem trimmed_keeps (codes : Rgb Int) (s : State) :
    KeepsBut [.wear, .store, .composer] s (trimmed codes s) :=
  setStore_keeps _ (setComposer_keeps _ (setWear_keeps _ (KeepsBut.refl _ s) (by decide))
    (by decide)) (by decide)

/-- Trims that stand already ask nothing of the composer. -/
theorem trimmed_composer {codes : Rgb Int} (h : codes = s.wear.trim) :
    (trimmed codes s).composer = s.composer := by
  show { s.composer with
    gainPending := s.composer.gainPending || decide (codes ≠ s.wear.trim) } = _
  rw [decide_eq_false (not_not_intro h), Bool.or_false]

theorem exec_trim_answered {tag : Byte} {codes : Rgb Byte} (hs : s.started = true)
    (hl : s.service.line = .locked) (hr : s.service.sends.length < 8) :
    exec (.trim tag codes) s = .next (answered tag kindTrim .done s
      (settleWork (trimmed (Rgb.map BitVec.toInt codes) s))) := by
  refine congrArg Host.Outcome.next (toolStep_of_work hs hl hr ?_ rfl
    ((trimmed_keeps _ s).mono (by simp [wearFrameParts])))
  rw [performTool, setTrims_eq]

/-! ## WEAR_CLEAR (R86) -/

/-- R86: zone `z` counts from nothing, with GAIN and a drift save requested. -/
def wearCleared (z : Nat) (s : State) : State :=
  ((s.setWear
    { s.wear with
      zones := s.wear.zones.modify z fun _ => ⟨0, 0, 0⟩
      clearMarks := s.wear.clearMarks.modify z fun _ => .set }).setComposer
    { s.composer with gainPending := true }).setStore (saveAsked s.store)

theorem clearWear_eq (z : Nat) (s : State) : clearWear z s = wearCleared z s := by
  rw [clearWear, requestSave_false]
  rfl

theorem wearCleared_keeps (z : Nat) (s : State) :
    KeepsBut [.wear, .store, .composer] s (wearCleared z s) :=
  setStore_keeps _ (setComposer_keeps _ (setWear_keeps _ (KeepsBut.refl _ s) (by decide))
    (by decide)) (by decide)

theorem exec_wearClear_answered {tag zone : Byte} (hz : zone.toNat ≤ 15) (hs : s.started = true)
    (hl : s.service.line = .locked) (hr : s.service.sends.length < 8) :
    exec (.wearClear tag zone) s = .next (answered tag kindWearClear .done s
      (settleWork (wearCleared zone.toNat s))) := by
  refine congrArg Host.Outcome.next ?_
  rw [wearClearRequest, if_pos hz]
  refine toolStep_of_work hs hl hr ?_ rfl
    ((wearCleared_keeps _ s).mono (by simp [wearFrameParts]))
  rw [performTool, clearWear_eq]

/-- R171: a zone above 15 has no form. -/
theorem exec_wearClear_bad {tag zone : Byte} (hz : 15 < zone.toNat) (hs : s.started = true)
    (hl : s.service.line = .locked) (hr : s.service.sends.length < 8) :
    exec (.wearClear tag zone) s = .next (answered tag kindWearClear .refusedBad s s) := by
  refine congrArg Host.Outcome.next ?_
  rw [wearClearRequest, if_neg (by omega), toolStep_of_bad hs hl hr]
  rfl

/-! ## Where no decision falls due -/

/-- A GAIN request asks nothing of a busy composer. -/
theorem Busy.gainPending {gain : Bool} (h : Busy s) (hchip : u.chip = s.chip)
    (hc : u.composer = { s.composer with gainPending := gain }) : Busy u := by
  unfold Busy State.composerStopped State.started
  rw [hc, hchip]
  exact h

theorem trimmed_noDecision {codes : Rgb Int} (hq : Steady s)
    (h : Busy s ∨ codes = s.wear.trim) : NoDecision (trimmed codes s) := by
  rcases h with hbusy | hsame
  · exact .inl (hbusy.gainPending rfl rfl)
  · exact hq.1.congr (trimmed_composer hsame) rfl rfl

end Trim

/-! ## The statement -/

/-- Settles O35: each frame's step is its request, the work that follows and the answer; where no
decision falls due, the work is the scan for the drift save alone. -/
theorem trimAndWearClear : Obligations.TrimAndWearClear := by
  intro tag s hs hl hr
  refine ⟨fun codes => .intro (exec_trim_answered hs hl hr)
      ⟨⟨_, workFollows_settleWork _, rfl⟩, fun hq h => ?_⟩,
    fun zone hz => .intro (exec_wearClear_answered hz hs hl hr)
      ⟨⟨_, workFollows_settleWork _, rfl⟩, ?_, fun hq hbusy => ?_⟩,
    fun zone hz => .intro (exec_wearClear_bad hz hs hl hr) rfl⟩
  · exact answered_save rfl (trimmed_keeps _ s) (trimmed_noDecision hq h)
  · obtain ⟨-, hwear⟩ := settleWork_changedByTakes (wearCleared zone.toNat s)
    exact (congrArg Wear.zones hwear).trans rfl
  · obtain ⟨-, hrest⟩ := answered_save (tag := tag) (kind := kindWearClear) (r := .done) rfl
      (wearCleared_keeps zone.toNat s) (.inl (hbusy.gainPending rfl rfl))
    exact hrest

end Sys2Proof.Machine
end

section
/-! The law of the row factors (R96, R102): a GAIN run's end caps the factors it leaves, a SET of
f_cap and a warm reset lower those that stand, and a move into force only makes the pending gain set
the applied one. No other operation touches f_cap or a gain set. -/

namespace Sys2Proof.Machine

-- One proof after the other: side by side their threads want too much memory.
set_option Elab.async false

/-! ## Capped gain sets -/

/-- R102: what is lowered to a cap lies within it. -/
theorem factorsWithin_capped (cap : Nat) (g : List (Rgb Nat)) :
    factorsWithin cap (g.map (Rgb.map (min cap))) := by
  intro f hf e
  obtain ⟨a, -, rfl⟩ := List.mem_map.mp hf
  rw [Rgb.get_map]
  exact min_le_left _ _

/-- R96: the factors of a GAIN run are capped. -/
theorem factorsWithin_factors (i : GainInputs) (cap : Nat) :
    factorsWithin cap (i.factors cap) := by
  intro f hf e
  obtain ⟨z, -, rfl⟩ := List.mem_map.mp hf
  rw [Rgb.get_map]
  exact min_le_left _ _

section FactorLaw

variable {s t : State}

/-! ## The law and the parts it speaks of -/

theorem FactorLaw.congr (h : FactorLaw s) (hc : t.settings.fCap = s.settings.fCap)
    (ha : t.render.applied = s.render.applied)
    (hp : t.render.pendingGain = s.render.pendingGain) : FactorLaw t := by
  unfold FactorLaw
  rw [hc, ha, hp]
  exact h

/-- The law speaks of the render engine and the settings alone. -/
theorem FactorLaw.frame {ps : List Part} (h : FactorLaw s) (k : KeepsBut ps s t)
    (hp : .render ∉ ps ∧ .settings ∉ ps := by decide) : FactorLaw t := by
  obtain ⟨hrender, hsettings⟩ := hp
  have hr : t.render = s.render := k .render hrender
  exact h.congr (congrArg Settings.fCap (k .settings hsettings)) (by rw [hr]) (by rw [hr])

theorem FactorLaw.ite (p : Prop) [Decidable p] (hs : FactorLaw s) (ht : FactorLaw t) :
    FactorLaw (if p then s else t) := by
  split_ifs
  · exact hs
  · exact ht

/-- A reset sets f_cap to its default, which lies in its range. -/
theorem fCap_default : 65536 ≤ Settings.default.fCap ∧ Settings.default.fCap ≤ 131072 := by decide

theorem factorLaw_reset : FactorLaw State.reset := by
  refine ⟨fCap_default, fun f hf e => ?_, fun _ hg => nomatch hg⟩
  rw [List.eq_of_mem_replicate (show f ∈ List.replicate 16 Rgb.zero from hf), Rgb.get_zero]
  exact Nat.zero_le _

/-! ## What moves into force, and the end of a step -/

/-- R11: the pending gain set becomes the applied one. -/
theorem moveIntoForce_factorLaw (h : FactorLaw s) : FactorLaw (moveIntoForce s) := by
  obtain ⟨hrange, happlied, hpending⟩ := h
  obtain ⟨-, hnone, hmoved⟩ := moveIntoForce_nothing s
  have hcap : (moveIntoForce s).settings = s.settings :=
    moveIntoForce_keeps (ps := [.render, .composer]) (KeepsBut.refl _ s) (by simp) .settings
      (by decide)
  unfold FactorLaw
  rw [hcap, hnone, hmoved]
  refine ⟨hrange, ?_, fun _ hg => nomatch hg⟩
  cases hg : s.render.pendingGain with
  | none => exact happlied
  | some g => exact hpending g hg

theorem settleWork_factorLaw (h : FactorLaw s) : FactorLaw (settleWork s) :=
  h.frame (settleWork_keeps (ps := [.composer, .store, .driver, .thermal, .wear])
    (KeepsBut.refl _ s) (by simp))

theorem settle_factorLaw (h : FactorLaw s) : FactorLaw (settle s) := by
  have hread : FactorLaw (takeDeferred (settleBanks s)) :=
    h.frame (takeDeferred_keeps (ps := [.driver, .composer, .store])
      (settleBanks_keeps (KeepsBut.refl _ s) (by simp)) (by simp))
  exact settleWork_factorLaw (.ite _ hread (moveIntoForce_factorLaw hread))

/-- A report clears the limited counts and leaves the gain sets. -/
theorem report_factorLaw (cs : List Cause) (h : FactorLaw s) : FactorLaw (report cs s) := by
  have hcleared : FactorLaw (clearLimited (s.setAuthority
      { s.authority with
        reports := wrap16 s.authority.reports, lastSent := some s.gain.tileCapacity })) := h
  exact .ite _ (hcleared.frame (ps := [.linkA, .linkB]) (sendReport_keeps .b _
    (sendReport_keeps .a _ (KeepsBut.refl _ _) (by simp)) (by simp))) h

theorem conclude_factorLaw (extra : List Cause) (before : State) (h : FactorLaw s) :
    FactorLaw (conclude extra before s) := .ite _ (report_factorLaw _ h) h

/-- The end of a step that may report. -/
theorem concludeSettle_factorLaw (extra : List Cause) (before : State) (h : FactorLaw s) :
    FactorLaw (conclude extra before (settle s)) :=
  conclude_factorLaw extra before (settle_factorLaw h)

/-- A round joined or opened, and the transaction that then starts, touch neither part. -/
theorem startJoined_factorLaw (m : RoundMark) (h : FactorLaw s) :
    FactorLaw (startNext (joinRound m s)) :=
  h.frame (startNext_keeps (ps := [.thermal, .chip, .driver, .composer, .wear, .sensors])
    (joinRound_keeps m (KeepsBut.refl _ s) (by simp)) (by simp))

/-! ## The links -/

/-- R134: at a frame head what waits moves into force. -/
theorem openFrame_factorLaw (h : FactorLaw s) : FactorLaw (openFrame s) :=
  moveIntoForce_factorLaw h

theorem takeFrameHead_factorLaw (l : Link) (h : FactorLaw s) :
    FactorLaw (takeFrameHead l s) := by
  have hr : FactorLaw (refresh l s) :=
    h.frame (refresh_keeps (ps := [.linkA, .linkB]) l (KeepsBut.refl _ s) (by simp))
  have hm : FactorLaw (moveAuthority l (refresh l s)) :=
    hr.frame (moveAuthority_keeps (ps := [.authority, .composer]) l (KeepsBut.refl _ _) (by simp))
  exact .ite _ (.ite _ (openFrame_factorLaw hm) (.ite _ (openFrame_factorLaw hr) hr)) hr

theorem setLink_factorLaw (l : Link) (v : LinkPort) (h : FactorLaw s) :
    FactorLaw (s.setLink l v) :=
  h.frame (setLink_keeps (ps := [.linkA, .linkB]) l v (KeepsBut.refl _ s) (by decide) (by decide))

theorem passFrameHead_factorLaw (l : Link) (body : List Byte) (h : FactorLaw s) :
    FactorLaw (passFrameHead l body s) :=
  concludeSettle_factorLaw _ _ (takeFrameHead_factorLaw l (setLink_factorLaw l _
    (.ite _ (setLink_factorLaw l _ h) h)))

/-- R4: a ROW changes the limited counts alone of what the engine holds. -/
theorem passRow_factorLaw (l : Link) (body : List Byte) (h : FactorLaw s) :
    FactorLaw (passRow l body s) := by
  rcases passRow_cases l body s with hk | ⟨y, pixels, he⟩
  · exact h.frame hk
  · exact he ▸ h

theorem receive_factorLaw (l : Link) (kind : Byte) (u : LinkUnit) (h : FactorLaw s) :
    FactorLaw (receive l kind u s) := by
  rcases receive_cases l kind u s with hk | ⟨-, he⟩ | ⟨-, he⟩
  · exact h.frame hk
  · exact he ▸ passFrameHead_factorLaw l u.body h
  · exact he ▸ passRow_factorLaw l u.body h

/-- R139, R154: a link that goes DOWN. -/
theorem goDown_factorLaw (l : Link) (h : FactorLaw s) : FactorLaw (goDown l s) := by
  have hl : FactorLaw (s.setLink l (s.link l).dropped) := setLink_factorLaw l _ h
  exact settle_factorLaw ((FactorLaw.ite _ (s := dueReset _ _) hl hl).frame
    (authorityDown_keeps (ps := [.linkA, .linkB, .authority, .composer]) l (KeepsBut.refl _ _)
      (by simp)))

theorem linkDown_factorLaw (l : Link) (h : FactorLaw s) : FactorLaw (linkDown l s) := by
  refine .ite _ h ?_
  split
  · exact h
  · exact setLink_factorLaw l _ h
  · exact conclude_factorLaw _ _ (goDown_factorLaw l h)
  · exact conclude_factorLaw _ _ (goDown_factorLaw l h)

/-! ## Requests -/

/-- R150: of the settings a new hold time changes itself alone. -/
theorem applyHoldTime_factorLaw (v : Nat) (h : FactorLaw s) :
    FactorLaw (applyHoldTime v s) := by
  have stale : ∀ (l : Link) (p : Prop) [Decidable p] {u : State}, FactorLaw u →
      FactorLaw (if p then becomeStale l u else u) := fun l p _ u hu =>
    .ite p (hu.frame (becomeStale_keeps (ps := [.linkA, .linkB, .authority]) l (KeepsBut.refl _ u)
      (by simp))) hu
  have expiry : ∀ (l : Link) (p : Prop) [Decidable p] {u : State}, FactorLaw u →
      FactorLaw (if p then holdExpiry l u else u) := fun l p _ u hu =>
    .ite p (hu.frame (holdExpiry_keeps (ps := [.authority, .composer]) l (KeepsBut.refl _ u)
      (by simp))) hu
  exact expiry .b _ (expiry .a _ (stale .b _ (stale .a _ (u := s.setSettings _) h)))

/-- R102: a new f_cap lowers every factor above it. -/
theorem setFCap_factorLaw {cap : Nat} (hc : 65536 ≤ cap ∧ cap ≤ 131072) (s : State) :
    FactorLaw (capGains cap (s.setSettings { s.settings with fCap := cap })) := by
  refine ⟨hc, factorsWithin_capped _ _, fun g hg => ?_⟩
  obtain ⟨a, -, rfl⟩ := Option.map_eq_some_iff.mp (Option.mem_def.mp hg)
  exact factorsWithin_capped _ a

/-- R102, R180: a value set for f_cap is brought into its range. -/
theorem brought_fCap (v : Int) :
    65536 ≤ (Setting.brought .fCap v).toNat ∧ (Setting.brought .fCap v).toNat ≤ 131072 := by
  have hmem : 65536 ≤ Setting.brought .fCap v ∧ Setting.brought .fCap v ≤ 131072 :=
    clampInt_mem (by decide) v
  omega

theorem applySetting_factorLaw (x : Setting) (v : Int) (h : FactorLaw s) :
    FactorLaw (applySetting x (x.brought v) s) := by
  cases x with
  | holdTime => exact settle_factorLaw (applyHoldTime_factorLaw _ h)
  | blankAfter =>
    exact settle_factorLaw (.ite _ (s := blank (s.setSettings _)) (t := s.setSettings _) h h)
  | fCap => exact setFCap_factorLaw (brought_fCap v) s
  | _ => exact h

theorem performSet_factorLaw (op : SetOp) (h : FactorLaw s) :
    FactorLaw (performSet op s).state := by
  cases op with
  | jobLevel k v =>
    unfold performSet setJobLevel
    dsimp only
    split_ifs
    · exact h
    · exact h
    · exact settleWork_factorLaw (s := s.setComposer _) h
  | phaseTable t =>
    unfold performSet setPhaseTable
    dsimp only
    split_ifs <;> exact h
  | darkPolicy b v =>
    unfold performSet setDarkPolicy
    dsimp only
    split_ifs
    · exact h
    · split <;> exact h
  | value x v =>
    unfold performSet setValue
    dsimp only
    split_ifs
    · exact h
    · exact h
    · exact applySetting_factorLaw x v h
    · exact applySetting_factorLaw x v h

theorem powerCommand_factorLaw (o : Origin) {f : State → State}
    (hf : KeepsBut [.chip, .store, .wear, .composer] s (f s)) (h : FactorLaw s) :
    FactorLaw (powerCommand o f s).state := by
  unfold powerCommand
  split_ifs
  · exact settle_factorLaw (h.frame hf)
  · exact h

/-- The owner's rule of a request that links and tool share. -/
theorem perform_factorLaw (o : Origin) (r : Request) (h : FactorLaw s) :
    FactorLaw (perform o r s).state := by
  have hk : KeepsBut [.chip, .store, .wear, .composer] s s := KeepsBut.refl _ s
  cases r with
  | wall r =>
    cases o with
    | link l =>
      exact settleWork_factorLaw (h.frame (storeRecord_keeps
        (ps := [.linkA, .linkB, .authority, .composer]) l _ (KeepsBut.refl _ s) (by simp)))
    | tool => exact h
  | take =>
    cases o with
    | link l =>
      unfold perform performTake takeCommand
      dsimp only
      split_ifs <;> exact h
    | tool => exact h
  | dark => exact powerCommand_factorLaw o (commandDark_keeps hk (by simp)) h
  | light => exact powerCommand_factorLaw o (commandLight_keeps hk (by simp)) h
  | rest => exact powerCommand_factorLaw o (commandRest_keeps hk (by simp)) h
  | rebuild zs =>
    unfold perform performRebuild
    dsimp only
    split_ifs
    · exact h
    · exact settleWork_factorLaw (s := joinBuild zs s) h
  | query q => exact h
  | set op => exact performSet_factorLaw op h
  | close => exact .ite _ h (settle_factorLaw (s := s.setChip _) h)
  | reset => exact h

theorem performTool_factorLaw (tag : Byte) (r : ToolRequest) (h : FactorLaw s) :
    FactorLaw (performTool tag r s).state := by
  have hk : KeepsBut [.wear, .store, .composer] s s := KeepsBut.refl _ s
  cases r with
  | shared r => exact perform_factorLaw .tool r h
  | block p =>
    unfold performTool toolBlock
    dsimp only
    split_ifs
    · exact h.frame (offerProgram_keeps _ _ s)
    · exact h
  | identity fields =>
    unfold performTool toolIdentity
    dsimp only
    split_ifs
    · exact h
    · exact h.frame (offerProgram_keeps _ _ s)
    · exact h
  | trim codes => exact settleWork_factorLaw (h.frame (setTrims_keeps codes hk (by simp)))
  | wearClear z => exact settleWork_factorLaw (h.frame (clearWear_keeps z hk (by simp)))
  | bank es => exact h.frame (setBankModes_keeps es (KeepsBut.refl _ s))
  | latch b v => exact h

theorem handleFrame_factorLaw (tag kind : Byte) (req : Option ToolRequest) (h : FactorLaw s) :
    FactorLaw (handleFrame tag kind req s) := by
  rcases handleFrame_cases tag kind req s with hk | ⟨r, -, he⟩
  · exact h.frame hk
  · rw [he]
    exact (performTool_factorLaw tag r h).frame (answerTool_keeps _ _ _ _)

theorem promptStep_factorLaw (l : Link) (mine : Request → Bool) (h : FactorLaw s) :
    FactorLaw (promptStep l mine s) := by
  rcases promptStep_cases l mine s with he | ⟨m, rest, r, he⟩
  · exact he.symm ▸ h
  · exact he ▸ conclude_factorLaw _ _ ((perform_factorLaw (.link l) r
      (setLink_factorLaw l _ h)).frame (handlePrompt_keeps l m rest r s))

theorem toolStep_factorLaw (tag kind : Byte) (req : Option ToolRequest) (h : FactorLaw s) :
    FactorLaw (toolStep tag kind req s) := by
  rcases toolStep_cases tag kind req s with he | he
  · exact he.symm ▸ h
  · exact he ▸ conclude_factorLaw _ _ (handleFrame_factorLaw tag kind req h)

theorem requestStep_factorLaw {α : Type} (v : Via α) (mine : Request → Bool) (kind : Byte)
    (req : α → Option Request) (h : FactorLaw s) : FactorLaw (requestStep v mine kind req s) := by
  cases v with
  | port l => exact promptStep_factorLaw l mine h
  | tool tag a => exact toolStep_factorLaw tag kind _ h

/-! ## Service frames -/

theorem endFrame_factorLaw (buf : List Byte) (h : FactorLaw s) : FactorLaw (endFrame buf s) :=
  .ite _ (conclude_factorLaw _ _ (handleFrame_factorLaw (s := setReceiving none s) _ _ _ h)) h

theorem receiveByte_factorLaw (b : LineByte) (h : FactorLaw s) : FactorLaw (receiveByte b s) := by
  have hi : FactorLaw (s.setService { s.service with idle := 0 }) := h
  unfold receiveByte
  dsimp only
  split
  · exact .ite _ hi hi
  · exact .ite _ hi (.ite _ hi (.ite _ (endFrame_factorLaw _ hi) hi))

theorem receiveBytes_factorLaw (bytes : List LineByte) (h : FactorLaw s) :
    FactorLaw (bytes.foldl (fun s b => receiveByte b s) s) := by
  induction bytes generalizing s with
  | nil => exact h
  | cons b bytes ih => exact ih (receiveByte_factorLaw b h)

/-! ## Resets and start-up (R2, R102, R175, R177) -/

theorem coldReset_factorLaw (pins : StrapPins) (s : State) : FactorLaw (coldReset pins s) :=
  factorLaw_reset

/-- A warm reset lowers the applied factors to the default f_cap, whatever they were. -/
theorem clearWarm_factorLaw (s : State) : FactorLaw (clearWarm s) :=
  ⟨fCap_default, factorsWithin_capped 98304 _, fun _ hg => nomatch hg⟩

theorem resetPinRelease_factorLaw (pins : StrapPins) (h : FactorLaw s) :
    Leads (.resetPinRelease pins) s FactorLaw := by
  refine .intro rfl ?_
  split
  · exact coldReset_factorLaw _ _
  · exact clearWarm_factorLaw (setPinLow false s)
  all_goals exact h

/-- The checks clear the render table and leave the gain sets. -/
theorem checkedState_applied (f : StoreFindings) (s : State) :
    (checkedState f s).render.applied = s.render.applied := by
  unfold checkedState runChecks
  dsimp only
  split_ifs <;> rfl

theorem startupChecksDone_factorLaw (f : StoreFindings) (h : FactorLaw s) :
    FactorLaw (startupChecksDone f s) := by
  have hchecked : FactorLaw (checkedState f s) :=
    h.congr (congrArg Settings.fCap (checkedState_keeps f s .settings (by decide)))
      (checkedState_applied f s) (checkedState_pendingGain f s)
  exact .ite _ (concludeSettle_factorLaw _ (checkedState f s)
    (startJoined_factorLaw _ hchecked)) h

/-! ## Ticks and expiries -/

theorem onTick_factorLaw {f : State → State} (hf : FactorLaw (f s)) (h : FactorLaw s) :
    FactorLaw (onTick f s) := .ite _ hf h

theorem thermalTick_factorLaw (h : FactorLaw s) : FactorLaw (thermalTick s) :=
  concludeSettle_factorLaw _ _ (startJoined_factorLaw (s := (s.setTimebase _).setThermal _) _ h)

theorem pilotTick_factorLaw (h : FactorLaw s) : FactorLaw (pilotTick s) :=
  settleWork_factorLaw (h.frame (startSequence_keeps (ps := [.wear, .composer, .driver, .timebase])
    (setTimebase_keeps _ (KeepsBut.refl _ s) (by decide)) (by simp)))

theorem scrubTick_factorLaw (h : FactorLaw s) : FactorLaw (scrubTick s) :=
  settleWork_factorLaw (.ite _ (s := s.setTimebase _) h h)

theorem driftSaveTick_factorLaw (h : FactorLaw s) : FactorLaw (driftSaveTick s) :=
  h.frame (settleStore_keeps (ps := [.timebase, .store]) (requestSave_keeps _ (setTimebase_keeps _
    (KeepsBut.refl _ s) (by decide)) (by simp)) (by simp))

theorem restWakeExpiry_factorLaw (h : FactorLaw s) : FactorLaw (restWakeExpiry s) :=
  .ite _ (concludeSettle_factorLaw _ _
    (startJoined_factorLaw (s := clearLoad (s.setChip _)) _ h)) h

theorem settleTimerExpiry_factorLaw (h : FactorLaw s) : FactorLaw (settleTimerExpiry s) := by
  unfold settleTimerExpiry
  split
  · exact settle_factorLaw (h.frame (startNext_keeps
      (ps := [.thermal, .chip, .driver, .composer, .wear, .sensors])
      (beginRead_keeps _ (KeepsBut.refl _ s) (by simp)) (by simp)))
  all_goals exact h

theorem ageExpiry_factorLaw (l : Link) (h : FactorLaw s) : FactorLaw (ageExpiry l s) :=
  .ite _ (concludeSettle_factorLaw _ _ ((setLink_factorLaw l _ h).frame
    (linkStale_keeps (ps := [.linkA, .linkB, .authority, .composer]) l (KeepsBut.refl _ _)
      (by simp)))) h

theorem blankAfterExpiry_factorLaw (h : FactorLaw s) : FactorLaw (blankAfterExpiry s) :=
  .ite _ (concludeSettle_factorLaw (s := blank s) _ _ h) h

theorem answerSent_factorLaw (who : Sender) (h : FactorLaw s) :
    Leads (.answerSent who) s FactorLaw := by
  cases who with
  | link l =>
    exact .intro rfl (.ite _ (h.frame (linkSent_keeps (ps := [.linkA, .linkB, .chip]) l
      (KeepsBut.refl _ s) (by simp))) h)
  | service =>
    exact .intro rfl (.ite _ (h.frame (serviceSent_keeps (ps := [.service, .chip])
      (KeepsBut.refl _ s) (by simp))) h)

theorem sync_factorLaw (low : Nat) (h : FactorLaw s) : FactorLaw (sync low s) :=
  .ite _ (.ite _ (concludeSettle_factorLaw _ _ (h.frame (reportSync_keeps
    (ps := [.chip, .composer, .service]) (setService_keeps _ (KeepsBut.refl _ s) (by simp))
    (by simp)))) h) h

/-! ## The ends of grants and jobs (R43, R45, R47, R55, R67, R99) -/

/-- R127: what a sensor brings touches neither part. -/
theorem onSensor_factorLaw {f : State → State}
    (hf : KeepsBut [.thermal, .chip, .driver, .composer, .wear, .sensors] s (f s))
    (h : FactorLaw s) : FactorLaw (onSensor f s) :=
  .ite _ (concludeSettle_factorLaw _ _ (h.frame hf)) h

theorem blockReadDone_factorLaw (cells : Option Stored) (h : FactorLaw s) :
    FactorLaw (blockReadDone cells s) := by
  unfold blockReadDone
  split
  · exact settle_factorLaw (h.frame (endBlockRead_keeps _ cells s))
  all_goals exact h

/-- A program's completion reaches its requester, and the decision and the scan follow. -/
theorem programEnded_factorLaw (who : Requester) (ok : Bool) (h : FactorLaw s) :
    FactorLaw (settleWork (reportProgram who ok s)) :=
  settleWork_factorLaw (h.frame (reportProgram_keeps
    (ps := [.linkA, .linkB, .store, .service]) who ok (KeepsBut.refl _ s) (by simp)))

theorem blockProgramDone_factorLaw (cells : Option Stored) (h : FactorLaw s) :
    FactorLaw (blockProgramDone cells s) := by
  have hk : KeepsBut [.store, .composer] s s := KeepsBut.refl _ s
  unfold blockProgramDone
  split
  · exact programEnded_factorLaw _ _ (h.frame (setPort_keeps _ (joinBuild_keeps _
      (countProgramFailure_keeps _ (setBlockState_keeps _ _ (setSlot_keeps _ _ hk (by simp))
        (by simp)) (by simp)) (by simp)) (by simp)))
  all_goals exact h

theorem identityProgramDone_factorLaw (cells : Option Stored) (h : FactorLaw s) :
    FactorLaw (identityProgramDone cells s) := by
  have hk : KeepsBut [.store, .composer] s s := KeepsBut.refl _ s
  unfold identityProgramDone
  split
  · exact programEnded_factorLaw .service _ (h.frame (setPort_keeps _ (joinAll_keeps
      (countProgramFailure_keeps _ (loadIdentity_keeps (setStore_keeps _ hk (by decide)) (by simp))
        (by simp)) (by simp)) (by simp)))
  all_goals exact h

theorem driftSaveDone_factorLaw (cells : Option Stored) (h : FactorLaw s) :
    FactorLaw (driftSaveDone cells s) := by
  unfold driftSaveDone
  split
  · exact concludeSettle_factorLaw _ _ (.ite _ (h.frame (enterRest_keeps
      (ps := [.chip, .driver, .composer, .store]) (setStore_keeps _ (KeepsBut.refl _ s)
        (by decide)) (by simp))) h)
  all_goals exact h

theorem thermalJobEnd_factorLaw (h : FactorLaw s) : FactorLaw (thermalJobEnd s) := by
  unfold thermalJobEnd
  split
  · exact .ite _ h (settleWork_factorLaw (h.frame (endThermal_keeps
      (ps := [.thermal, .wear, .composer]) _ (KeepsBut.refl _ s) (by simp))))
  all_goals exact h

/-- R96, R99: the factors of a run wait as the pending gain set, capped by the f_cap of its end. -/
theorem endGain_factorLaw (i : GainInputs) (h : FactorLaw s) : FactorLaw (endGain i s) := by
  obtain ⟨hrange, happlied, -⟩ := h
  refine ⟨hrange, happlied, fun g hg => ?_⟩
  cases hg
  exact factorsWithin_factors i _

theorem gainEnd_factorLaw (h : FactorLaw s) : FactorLaw (gainEnd s) := by
  unfold gainEnd
  split
  · exact .ite _ h (concludeSettle_factorLaw _ _ (endGain_factorLaw _ h))
  all_goals exact h

/-! ## Every step -/

/-- Every command keeps the law. -/
theorem leads_factorLaw (h : FactorLaw s) : ∀ c, Leads c s FactorLaw
  | .powerOn pins =>
    .intro rfl (.ite _ (coldReset_factorLaw ⟨0, 0, false⟩ s) (coldReset_factorLaw pins s))
  | .resetPinRelease pins => resetPinRelease_factorLaw pins h
  | .warmReset _ => .intro rfl (.ite _ (clearWarm_factorLaw s) h)
  | .startupChecksDone f => .intro rfl (startupChecksDone_factorLaw f h)
  | .loadSample =>
    .intro rfl (h.frame (millisecond_keeps
      (ps := [.timebase, .authority, .linkA, .linkB, .wear, .driver]) (KeepsBut.refl _ s)
      (by simp)))
  | .thermalTick => .intro rfl (onTick_factorLaw (thermalTick_factorLaw h) h)
  | .pilotTick => .intro rfl (onTick_factorLaw (pilotTick_factorLaw h) h)
  | .scrubTick => .intro rfl (onTick_factorLaw (scrubTick_factorLaw h) h)
  | .reportTick =>
    .intro rfl (onTick_factorLaw (conclude_factorLaw (s := s.setTimebase _) _ _ h) h)
  | .driftSaveTick => .intro rfl (onTick_factorLaw (driftSaveTick_factorLaw h) h)
  | .restWakeExpiry => .intro rfl (restWakeExpiry_factorLaw h)
  | .primingTimerExpiry _ => .intro rfl (.ite _ h h)
  | .settleTimerExpiry => .intro rfl (onTick_factorLaw (settleTimerExpiry_factorLaw h) h)
  | .linkStale l => .intro rfl (onTick_factorLaw (ageExpiry_factorLaw l h) h)
  | .blankAfterExpiry => .intro rfl (onTick_factorLaw (blankAfterExpiry_factorLaw h) h)
  | .creditResendTimer l =>
    .intro rfl (.ite _ (h.frame (offerCredits_keeps (ps := [.linkA, .linkB]) l (KeepsBut.refl _ s)
      (by simp))) h)
  | .signalDetected l => .intro rfl (.ite _ (setLink_factorLaw l _ h) h)
  | .symbolLock l =>
    .intro rfl (.ite _ (h.frame (offerCredits_keeps (ps := [.linkA, .linkB]) l
      (setLinkState_keeps l _ (KeepsBut.refl _ s) (by simp)) (by simp))) h)
  | .linkDown l => .intro rfl (linkDown_factorLaw l h)
  | .init l u | .frameHead l u | .row l u | .promptMessageArrival l _ u | .block (.port l u) =>
    .intro rfl (receive_factorLaw l _ u h)
  | .answerSent who => answerSent_factorLaw who h
  | .unknownKind l =>
    .intro rfl (h.frame (refusePrompt_keeps (ps := [.linkA, .linkB]) l (KeepsBut.refl _ s)
      (by simp)))
  | .block (.tool _ _) => .intro rfl (toolStep_factorLaw _ _ _ h)
  | .wall l | .take l => .intro rfl (promptStep_factorLaw l _ h)
  | .dark v | .light v | .rest v | .queryZoneStatus v | .queryStoreStatus v | .queryThermalState v
  | .queryWearState v | .queryGainState v | .queryComposerState v | .querySensorState v
  | .queryAuthorityState v | .queryLinkState v | .queryConfiguration v | .close v | .reset v
  | .rebuild v | .setJobLevel v | .setPhaseTable v | .setDarkPolicy v
  | .setHoldTime v | .setBlankAfter v | .setThermalInterval v | .setK v | .setRho v | .setFCap v
  | .setSensorMap v | .setAssumedAmbient v | .setPilotInterval v | .setScrubInterval v
  | .setReportInterval v | .setDriftSaveInterval v | .setRestWakeInterval v =>
    .intro rfl (requestStep_factorLaw v _ _ _ h)
  | .trim _ _ | .wearClear _ _ | .bank _ _ | .latch _ _ _ | .identity _ _ =>
    .intro rfl (toolStep_factorLaw _ _ _ h)
  | .sync low => .intro rfl (sync_factorLaw low h)
  | .serviceFrame bytes => .intro rfl (.ite _ (receiveBytes_factorLaw bytes h) h)
  | .serviceFrameTimeout => .intro rfl (.ite _ h h)
  | .serviceBreak _ =>
    .intro rfl (.ite _ (h.frame (returnToSync_keeps (ps := [.service, .chip])
      (KeepsBut.refl _ s) (by simp))) h)
  | .idle =>
    .intro rfl (.ite _ (h.frame (setService_keeps (ps := [.service, .chip]) _
      (returnToSync_keeps (KeepsBut.refl _ s) (by simp)) (by simp))) h)
  | .sensorResponse f =>
    .intro rfl (onSensor_factorLaw (sensorResponse_keeps f (KeepsBut.refl _ s) (by simp)) h)
  | .sensorDeadline =>
    .intro rfl (onSensor_factorLaw (sensorDeadline_keeps (KeepsBut.refl _ s) (by simp)) h)
  | .blockReadDone cells => .intro rfl (blockReadDone_factorLaw cells h)
  | .blockProgramDone cells => .intro rfl (blockProgramDone_factorLaw cells h)
  | .identityProgramDone cells => .intro rfl (identityProgramDone_factorLaw cells h)
  | .driftSaveDone cells => .intro rfl (driftSaveDone_factorLaw cells h)
  | .thermalJobEnd => .intro rfl (thermalJobEnd_factorLaw h)
  | .gainEnd => .intro rfl (gainEnd_factorLaw h)
  | .resetPinDrivenLow => .intro rfl (.ite _ (clearWarm_factorLaw (setPinLow true s)) h)
  | .powerLoss => .intro rfl (coldReset_factorLaw ⟨0, 0, false⟩ s)

end FactorLaw

/-- Settles O52: on the front command by `leads_factorLaw`; an idle second moves the wake counter
alone. -/
theorem factorLawIsKept : Obligations.FactorLawIsKept := by
  intro s t h hs
  cases hp : s.pending with
  | nil =>
    rw [step_nil hp] at hs
    cases hs
    exact .ite _ (s := s.setChip _) h h
  | cons c rest =>
    rw [step_cons hp] at hs
    exact (leads_factorLaw (s := s.setPending rest) h c).of_exec hs

end Sys2Proof.Machine
end

section
/-! The end of a GAIN run (R92 to R100): its arithmetic as the rules spell it out, the search for
the weakest zone, the lookup in a wear table (R76), the notices, and where the gain set goes. -/

namespace Sys2Proof.Machine

-- One proof after the other: side by side their threads want too much memory.
set_option Elab.async false

/-! ## The lookup in a wear table (R76) -/

/-- Below the first breakpoint. -/
theorem wearEfficiency_of_lt {h0 v0 h : Nat} (t : WearTable) (h1 : h < 16 * h0) :
    wearEfficiency ((h0, v0) :: t) h = v0 := by
  cases t with
  | nil => rfl
  | cons p t => exact if_pos h1

/-- From the second breakpoint on the first one has no say. -/
theorem wearEfficiency_of_ge {p q : Nat × Nat} {h : Nat} (t : WearTable) (hpq : p.1 < q.1)
    (hq : 16 * q.1 ≤ h) : wearEfficiency (p :: q :: t) h = wearEfficiency (q :: t) h := by
  rw [wearEfficiency, if_neg (by omega), if_neg (by omega)]

/-- Between the first two breakpoints: the interpolated value is not negative. -/
theorem wearEfficiency_between {p q : Nat × Nat} {h : Nat} (t : WearTable) (hp : 16 * p.1 ≤ h)
    (hq : h < 16 * q.1) :
    (wearEfficiency (p :: q :: t) h : Int) =
      p.2 + ((q.2 : Int) - p.2) * (h - 16 * p.1) / (16 * ((q.1 : Int) - p.1)) := by
  have hwidth : (0 : Int) < 16 * ((q.1 : Int) - p.1) := by omega
  have hfall : -(p.2 : Int) ≤
      ((q.2 : Int) - p.2) * (h - 16 * p.1) / (16 * ((q.1 : Int) - p.1)) := by
    refine Int.le_ediv_of_mul_le hwidth ?_
    have hinside : (0 : Int) ≤ 16 * ((q.1 : Int) - p.1) - (h - 16 * p.1) := by omega
    have hpast : (0 : Int) ≤ h - 16 * p.1 := by omega
    nlinarith [mul_nonneg (Int.natCast_nonneg p.2) hinside,
      mul_nonneg (Int.natCast_nonneg q.2) hpast]
  rw [wearEfficiency, if_neg (by omega), if_pos hq]
  exact Int.toNat_of_nonneg (by omega)

/-- The breakpoints from the `k`-th on, `n` of them. -/
def breakpoints (point : Nat → Nat × Nat) (k n : Nat) : WearTable := (List.range' k n).map point

/-- From the `k`-th breakpoint on those before it have no say. -/
theorem wearEfficiency_breakpoints {point : Nat → Nat × Nat} {h : Nat} (k n : Nat)
    (hrise : ∀ j < k, (point j).1 < (point (j + 1)).1) (hk : 16 * (point k).1 ≤ h) :
    wearEfficiency (breakpoints point 0 (k + (n + 1))) h =
      wearEfficiency (breakpoints point k (n + 1)) h := by
  induction k generalizing n with
  | zero => rw [Nat.zero_add]
  | succ k ih =>
    have hstep := hrise k (Nat.lt_succ_self k)
    rw [show k + 1 + (n + 1) = k + (n + 1 + 1) by omega,
      ih (n + 1) (fun j hj => hrise j (by omega)) (by omega)]
    exact wearEfficiency_of_ge _ hstep hk

/-! ## The arithmetic of a run (R92 to R97) -/

theorem clampInt_natCast {lo hi : Nat} (h : lo ≤ hi) (n : Nat) :
    (clampInt lo hi n).toNat = max lo (min hi n) := by
  unfold clampInt
  omega

theorem GainInputs.get_efficiency (i : GainInputs) (z : Nat) (e : Emitter) :
    Rgb.get (i.efficiency z) e =
      effectiveEfficiency (tempEfficiency (Rgb.get i.beta e) i.tRef (i.temps.getD z 400))
        (wearEfficiency (Rgb.get i.tables e) (wearHours (Rgb.get (i.wear.getD z Rgb.zero) e)))
        (Rgb.get i.kappa e) := by
  cases e <;> rfl

/-- R97: the capacities of a zone's three emitters. -/
def GainInputs.capacities (i : GainInputs) (z : Nat) : Rgb Nat :=
  Rgb.zip (fun f trim => emitterCapacity f (trimFactor trim)) (i.efficiency z) i.trim

/-- The least of a triple's three values. -/
def Rgb.least (t : Rgb Nat) : Nat := min t.r (min t.g t.b)

theorem Rgb.least_eq (t : Rgb Nat) :
    Rgb.least t = min (Rgb.get t .r) (min (Rgb.get t .g) (Rgb.get t .b)) := rfl

theorem Rgb.mk_get {α : Type} (t : Rgb α) :
    (⟨Rgb.get t .r, Rgb.get t .g, Rgb.get t .b⟩ : Rgb α) = t := rfl

/-- R97: the capacity of a zone, the least of them. -/
def GainInputs.least (i : GainInputs) (z : Nat) : Nat :=
  Rgb.least (i.capacities z)

theorem GainInputs.least_le (i : GainInputs) (z : Nat) : i.least z ≤ 65536 :=
  (min_le_left _ _).trans (min_le_left _ _)

/-- R97: the limiting emitter has the least capacity. -/
theorem get_limitingEmitter (c : Rgb Nat) : Rgb.get c (limitingEmitter c) = Rgb.least c := by
  unfold limitingEmitter Rgb.least
  split_ifs
  · show c.r = _
    omega
  · show c.g = _
    omega
  · show c.b = _
    omega

/-- R97: among equal ones it is the first in the order R, G, B. -/
theorem limitingEmitter_eq (c : Rgb Nat) :
    limitingEmitter c =
      if Rgb.get c .r = Rgb.least c then .r else if Rgb.get c .g = Rgb.least c then .g else .b := by
  show limitingEmitter c =
    if c.r = Rgb.least c then .r else if c.g = Rgb.least c then .g else .b
  have hred : c.r = Rgb.least c ↔ c.r ≤ c.g ∧ c.r ≤ c.b := by
    unfold Rgb.least
    omega
  rw [limitingEmitter, if_congr hred rfl rfl]
  split_ifs with hr hgreen hleast hleast
  · rfl
  · rfl
  · unfold Rgb.least at hleast
    omega
  · unfold Rgb.least at hleast
    omega
  · rfl

theorem GainInputs.zoneGain_capacity (i : GainInputs) (cap z : Nat) :
    (i.zoneGain cap z).capacity = i.least z := get_limitingEmitter (i.capacities z)

/-- R96, R97: what a run leaves of one zone. -/
theorem GainInputs.zoneGain_eq (i : GainInputs) (cap z : Nat) :
    i.zoneGain cap z =
      { capacity := i.least z
        limiting :=
          if Rgb.get (i.capacities z) .r = i.least z then .r
          else if Rgb.get (i.capacities z) .g = i.least z then .g else .b
        efficiency := i.efficiency z
        short := decide (i.least z < i.ceiling)
        capped := decide (cap < Rgb.get (i.rawFactors z) .r ∨ cap < Rgb.get (i.rawFactors z) .g ∨
          cap < Rgb.get (i.rawFactors z) .b) } := by
  rw [GainInputs.least, ← limitingEmitter_eq, ← get_limitingEmitter]
  rfl

/-! ## The weakest zone (R98) -/

/-- The least of some capacities, none above 65536, is one of them and below none. -/
theorem leastCapacity_spec {zs : List ZoneGain} (hne : zs ≠ [])
    (hle : ∀ z ∈ zs, z.capacity ≤ 65536) :
    (∃ z ∈ zs, z.capacity = leastCapacity zs) ∧ ∀ z ∈ zs, leastCapacity zs ≤ z.capacity := by
  obtain ⟨m, hm⟩ : ∃ m, (zs.map (·.capacity)).min? = some m :=
    Option.isSome_iff_exists.mp (by simpa using hne)
  obtain ⟨hmem, hmin⟩ := List.min?_eq_some_iff.mp hm
  obtain ⟨z, hz, hzm⟩ := List.mem_map.mp hmem
  have hleast : leastCapacity zs = m := by
    rw [leastCapacity, List.foldl_min, hm, Option.getD_some, ← hzm]
    exact min_eq_right (hle z hz)
  rw [hleast]
  exact ⟨⟨z, hz, hzm⟩, fun y hy => hmin _ (List.mem_map_of_mem hy)⟩

/-- R98: the tile capacity is the least of the 16, and the weakest zone the first that has it. -/
theorem GainInputs.results_weakest (i : GainInputs) (cap runs : Nat) :
    (∀ z < 16, (i.results cap runs).tileCapacity ≤ i.least z) ∧
      (i.results cap runs).weakest < 16 ∧
      i.least (i.results cap runs).weakest = (i.results cap runs).tileCapacity ∧
      ∀ z < (i.results cap runs).weakest, i.least z ≠ (i.results cap runs).tileCapacity := by
  have hcapacity := i.zoneGain_capacity cap
  have hlength : ((List.range 16).map (i.zoneGain cap)).length = 16 := by simp
  obtain ⟨⟨y, hy, hyleast⟩, hbelow⟩ :=
    leastCapacity_spec (zs := (List.range 16).map (i.zoneGain cap)) (by simp) fun y hy => by
      obtain ⟨z, -, rfl⟩ := List.mem_map.mp hy
      rw [hcapacity]
      exact i.least_le z
  have hfound : (i.results cap runs).weakest < ((List.range 16).map (i.zoneGain cap)).length :=
    List.findIdx_lt_length_of_exists ⟨y, hy, beq_iff_eq.mpr hyleast⟩
  refine ⟨fun z hz => ?_, hlength ▸ hfound, ?_, fun z hz => ?_⟩
  · rw [← hcapacity z]
    exact hbelow _ (List.mem_map_of_mem (List.mem_range.mpr hz))
  · have hw : (((List.range 16).map (i.zoneGain cap))[(i.results cap runs).weakest].capacity ==
        (i.results cap runs).tileCapacity) = true := List.findIdx_getElem (w := hfound)
    rw [List.getElem_map, List.getElem_range, hcapacity] at hw
    exact beq_iff_eq.mp hw
  · have hz' := List.not_of_lt_findIdx hz
    rw [List.getElem_map, List.getElem_range, hcapacity] at hz'
    exact beq_eq_false_iff_ne.mp hz'

/-- R98: how many zones a mark is set for. -/
theorem length_filter_zones (f : Nat → ZoneGain) (mark : ZoneGain → Bool) :
    (((List.range 16).map f).filter mark).length =
      ((List.range 16).filter fun z => mark (f z)).length := by
  rw [List.filter_map, List.length_map]
  rfl

/-! ## The notices (R100) -/

theorem mem_gainNotices {g : GainResults} {s : State} (x : Cause) :
    x ∈ gainNotices g s ↔
      x = .capacity ∧ (∀ last, s.authority.lastSent = some last →
        last + 256 ≤ g.tileCapacity ∨ g.tileCapacity + 256 ≤ last) ∨
      x = .short ∧ g.shortCount ≠ s.gain.shortCount := by
  have hmoved : capacityMoved g.tileCapacity s.authority.lastSent = true ↔
      ∀ last, s.authority.lastSent = some last →
        last + 256 ≤ g.tileCapacity ∨ g.tileCapacity + 256 ≤ last := by
    cases s.authority.lastSent with
    | none => simp [capacityMoved]
    | some last => simp [capacityMoved]
  rw [gainNotices, List.mem_append, ← hmoved]
  refine or_congr ?_ ?_
  · split_ifs with h
    · simp [h]
    · simp [h]
  · split_ifs with h
    · simp [h]
    · simp [h]

/-- A step that moves neither authority nor power gives no cause beside its own. -/
theorem causesOf_of_kept {ps : List Part} {s d : State} (extra : List Cause)
    (k : KeepsBut ps s d) (ha : .authority ∉ ps) (hc : .chip ∉ ps) :
    causesOf extra s d = extra := by
  simp [causesOf, k.authority_eq ha, k.chip_eq hc]

/-! ## Where the gain set goes (R10 to R13) -/

section Force

variable {u : State}

/-- A free composer has no job to take the data of a read. -/
theorem absorbRead_of_free (read : BlockRead) (h : u.composer.running = none) :
    absorbRead read u = u := by
  unfold absorbRead
  rw [h]

theorem takeDeferred_staging_of_free (h : u.composer.running = none) :
    (takeDeferred u).composer.staging = u.composer.staging := by
  unfold takeDeferred
  split_ifs
  · rfl
  · split
    · exact congrArg (·.composer.staging)
        (absorbRead_of_free (u := u.setComposer { u.composer with deferred := none }) _ h)
    · rfl

theorem renderInForce_gains (v : State) :
    (renderInForce v).pendingGain = none ∧
      (renderInForce v).applied = v.render.pendingGain.getD v.render.applied := by
  unfold renderInForce
  dsimp only
  split <;> exact ⟨rfl, rfl⟩

/-- With no zone staged only a gain set moves. -/
theorem renderInForce_of_unstaged {v : State} (h : ∀ z, v.composer.staging ≠ .staged z) :
    renderInForce v =
      { v.render with
        applied := v.render.pendingGain.getD v.render.applied, pendingGain := none } := by
  unfold renderInForce
  dsimp only
  split
  · exact absurd ‹_› (h _)
  · rfl
  · rfl

/-- R11, R12: what settling leaves of the render engine, with the composer free. -/
theorem settle_render_cases (hfree : u.composer.running = none) :
    (u.isRendering = true → (settle u).render = u.render) ∧
      (u.isRendering = false →
        (settle u).render.pendingGain = none ∧
        (settle u).render.applied = u.render.pendingGain.getD u.render.applied ∧
        ((∀ z, u.composer.staging ≠ .staged z) →
          (settle u).render =
            { u.render with
              applied := u.render.pendingGain.getD u.render.applied, pendingGain := none })) := by
  have hbanks : KeepsBut [.driver] u (settleBanks u) :=
    settleBanks_keeps (KeepsBut.refl _ u) (by simp)
  have hread : KeepsBut [.driver, .composer, .store] u (takeDeferred (settleBanks u)) :=
    takeDeferred_keeps (hbanks.mono (by simp)) (by simp)
  have hstaging : (takeDeferred (settleBanks u)).composer.staging = u.composer.staging :=
    takeDeferred_staging_of_free hfree
  have hr : (takeDeferred (settleBanks u)).render = u.render := hread.render_eq (by decide)
  have hwork : (settle u).render = (settleRender (takeDeferred (settleBanks u))).render :=
    settleWork_keeps (ps := [.composer, .store, .driver, .thermal, .wear]) (KeepsBut.refl _ _)
      (by simp) .render (by decide)
  have hrendering : (takeDeferred (settleBanks u)).isRendering = u.isRendering :=
    isRendering_congr (hread.chip_eq (by decide)) (by rw [hread.authority_eq (by decide)])
  rw [hwork, forceFollows_settleRender, hrendering, ← hr]
  refine ⟨fun h => by rw [if_pos h], fun h => ?_⟩
  obtain ⟨hpending, happlied⟩ := renderInForce_gains (takeDeferred (settleBanks u))
  rw [if_neg (Bool.eq_false_iff.mp h)]
  exact ⟨hpending, happlied, fun hz => renderInForce_of_unstaged (hstaging ▸ hz)⟩

end Force

/-! ## The statement -/

section Ended

variable {s : State} {level : Nat} {i : GainInputs}

theorem exec_gainEnd (hs : s.composerStopped = false)
    (hr : s.composer.running = some ⟨level, .gain i⟩) :
    exec .gainEnd s = .next (conclude
      (gainNotices (i.results s.settings.fCap s.gain.runs) s) s (settle (endGain i s))) := by
  refine congrArg Host.Outcome.next ?_
  unfold gainEnd
  rw [hr]
  exact if_neg (Bool.eq_false_iff.mp hs)

theorem endGain_keeps (i : GainInputs) (s : State) :
    KeepsBut [.gain, .render, .composer] s (endGain i s) :=
  setComposer_keeps _ (setGain_keeps _ (setRender_keeps _ (KeepsBut.refl _ s) (by decide))
    (by decide)) (by decide)

theorem settle_endGain_keeps (i : GainInputs) (s : State) :
    KeepsBut [.gain, .render, .composer, .store, .driver, .thermal, .wear] s
      (settle (endGain i s)) :=
  settle_keeps ((endGain_keeps i s).mono (by simp)) (by simp)

theorem settle_gain (u : State) : (settle u).gain = u.gain :=
  settle_keeps (ps := [.composer, .store, .driver, .thermal, .wear, .render]) (KeepsBut.refl _ u)
    (by simp) .gain (by decide)

end Ended

/-- R76, log 32: the lookup in a table of eight breakpoints, by the three cases of its rule. -/
theorem wearEfficiency_cases {point : Nat → Nat × Nat} (h : Nat)
    (hrise : ∀ k < 7, (point k).1 < (point (k + 1)).1) :
    (h < 16 * (point 0).1 → wearEfficiency (breakpoints point 0 8) h = (point 0).2) ∧
      (16 * (point 7).1 ≤ h → wearEfficiency (breakpoints point 0 8) h = (point 7).2) ∧
      ∀ k < 7, 16 * (point k).1 ≤ h → h < 16 * (point (k + 1)).1 →
        ((wearEfficiency (breakpoints point 0 8) h : Nat) : Int) =
          (point k).2 + (((point (k + 1)).2 : Int) - (point k).2) * (h - 16 * (point k).1) /
            (16 * (((point (k + 1)).1 : Int) - (point k).1)) := by
  refine ⟨fun hlow => wearEfficiency_of_lt _ hlow,
    fun hhigh => wearEfficiency_breakpoints 7 0 hrise hhigh, fun k hk hlow hhigh => ?_⟩
  have hdrop := wearEfficiency_breakpoints k (6 - k + 1) (fun j hj => hrise j (by omega)) hlow
  rw [show k + (6 - k + 1 + 1) = 8 by omega] at hdrop
  rw [hdrop]
  exact wearEfficiency_between _ hlow hhigh

/-- Settles O46: the step is `endGain` and its settling, with the notices as causes; its results by
`GainInputs.zoneGain_eq` and `GainInputs.results_weakest`, its gain set by `settle_render_cases`;
the lookup by `wearEfficiency_cases`. -/
theorem gainRunEnds : Obligations.GainRunEnds := by
  refine ⟨?_, ?_⟩
  · intro level i s hs hr cap clamp etaT etaW eps tau raw set c least capped short results
    have heps : ∀ z e, eps z e = Rgb.get (i.efficiency z) e := fun z e => by
      rw [i.get_efficiency, effectiveEfficiency, tempEfficiency,
        ← clampInt_natCast (by decide), clampInt_eq_ite (by decide), clampInt_eq_ite (by decide)]
      rfl
    have hraw : ∀ z e, raw z e = Rgb.get (i.rawFactors z) e := fun z e => by
      rw [GainInputs.rawFactors, Rgb.get_zip, ← heps]
      rfl
    have hc : ∀ z e, c z e = Rgb.get (i.capacities z) e := fun z e => by
      rw [GainInputs.capacities, Rgb.get_zip, ← heps]
      rfl
    have hleast : ∀ z, least z = i.least z := fun z => by
      show min (c z .r) (min (c z .g) (c z .b)) = _
      rw [hc, hc, hc, GainInputs.least, Rgb.least_eq]
    have hset : set = i.factors cap := List.map_congr_left fun z _ => by
      rw [hraw, hraw, hraw]
      rfl
    have hzone : ∀ z, i.zoneGain cap z =
        { capacity := least z
          limiting := if c z .r = least z then .r else if c z .g = least z then .g else .b
          efficiency := ⟨eps z .r, eps z .g, eps z .b⟩
          short := short z, capped := capped z } := fun z => by
      simp only [short, capped, hleast, hc, heps, hraw, i.zoneGain_eq, Rgb.mk_get]
    have hzones : (List.range 16).map (i.zoneGain cap) = _ := List.map_congr_left fun z _ => hzone z
    have hshort : ∀ z, (i.zoneGain cap z).short = short z := fun z => by rw [hzone]
    have hcapped : ∀ z, (i.zoneGain cap z).capped = capped z := fun z => by rw [hzone]
    obtain ⟨hbelow, hlt, hweakest, hfirst⟩ := i.results_weakest cap s.gain.runs
    have hkeeps := settle_endGain_keeps i s
    obtain ⟨hon, hoff⟩ := settle_render_cases (u := endGain i s) rfl
    refine ⟨i.results cap s.gain.runs, ⟨hzones, ?_, hlt, ?_, ?_, ?_, ?_, rfl, rfl⟩,
      gainNotices (i.results cap s.gain.runs) s, mem_gainNotices,
      .intro (exec_gainEnd hs hr) (causesOf_of_kept _ hkeeps (by decide) (by decide))
        ⟨settle_gain _, ?_, ?_, hkeeps, ?_⟩⟩
    · simpa only [hleast] using hbelow
    · simpa only [hleast] using hweakest
    · simpa only [hleast] using hfirst
    · exact (length_filter_zones _ _).trans
        (congrArg List.length (List.filter_congr fun z _ => hshort z))
    · exact (length_filter_zones _ _).trans
        (congrArg List.length (List.filter_congr fun z _ => hcapped z))
    · rw [hset]
      exact hon
    · rw [hset]
      exact hoff
    · rw [hset]
      exact settles_settle _
  · intro point h hrise table
    have htable : table = breakpoints point 0 8 := by
      rw [breakpoints, ← List.range_eq_range']
    rw [htable]
    exact wearEfficiency_cases h hrise

end Sys2Proof.Machine
end

section
/-! The law of the suspension stack (R107 to R109, R116): a job's end leaves the composer free above
a stacked SCRUB, and the decision that follows in the step starts a job of a higher level or resumes
the SCRUB; SCRUB is pushed aside only for a job above its running level. Requests for work, commits
and levels leave the running job and the stack. -/

namespace Sys2Proof.Machine

-- One proof after the other: side by side their threads want too much memory.
set_option Elab.async false

section StackLaw

variable {s t : State}

/-! ## The law and the part it speaks of -/

/-- The law speaks of the composer alone. -/
theorem StackLaw.frame {ps : List Part} (h : StackLaw s) (k : KeepsBut ps s t)
    (hp : .composer ∉ ps := by decide) : StackLaw t := by
  have hc : t.composer = s.composer := k .composer hp
  unfold StackLaw
  rw [hc]
  exact h

theorem StackLaw.ite (p : Prop) [Decidable p] (hs : StackLaw s) (ht : StackLaw t) :
    StackLaw (if p then s else t) := by
  split_ifs
  · exact hs
  · exact ht

/-- With no job running and none pushed aside there is nothing to ask. -/
theorem StackLaw.of_idle (hr : s.composer.running = none) (hstack : s.composer.stack = []) :
    StackLaw s := by
  have hn : ∀ {k}, ¬s.composer.runs k = true := fun {k} => by
    rw [Composer.runs, hr]
    exact Bool.false_ne_true
  exact ⟨.inl hstack, fun h => (h.elim hn fun hne => hne hstack).elim,
    fun _ => Bool.eq_false_iff.mpr hn, fun h => (hn h).elim⟩

/-- A job of kind `k` runs, above the level of a stacked SCRUB; neither is pending, and no BUILD is
parked where it is BUILD that runs. -/
theorem StackLaw.of_running {r : Running} {k : JobKind} (hr : s.composer.running = some r)
    (hruns : ∀ j, s.composer.runs j = true → j = k)
    (hstack : s.composer.stack = [] ∨ ∃ e, s.composer.stack = [e] ∧ e.kind = .scrub ∧
      k ≠ .scrub ∧ e.level < r.level)
    (hscrub : k = .scrub ∨ s.composer.stack ≠ [] → s.composer.scrubPending = false)
    (hparked : k = .build → s.composer.parked = false)
    (hthermal : k = .thermal → s.composer.thermalPending = false) : StackLaw s := by
  have hother : ∀ {j}, k ≠ j → s.composer.runs j = false := fun hne =>
    Bool.eq_false_iff.mpr fun h => hne (hruns _ h).symm
  refine ⟨?_, fun h => hscrub (h.imp_left fun hj => (hruns _ hj).symm), fun hp => ?_,
    fun h => hthermal (hruns _ h).symm⟩
  · exact hstack.imp_right fun ⟨e, he, hkind, hk, hl⟩ => ⟨e, he, hkind, hother hk, r, hr, hl⟩
  · refine hother fun hk => ?_
    rw [hparked hk] at hp
    exact Bool.false_ne_true hp

theorem stackLaw_reset : StackLaw State.reset := .of_idle rfl rfl

/-- While SCRUB runs, no job is pushed aside and no further SCRUB is pending. -/
theorem StackLaw.alone_of_scrub {level left : Nat} {p : Bool} (h : StackLaw s)
    (hr : s.composer.running = some ⟨level, .scrub left p⟩) :
    s.composer.stack = [] ∧ s.composer.scrubPending = false := by
  obtain ⟨hstack, hpending, -, -⟩ := h
  have hruns : s.composer.runs .scrub = true := by rw [Composer.runs, hr]; rfl
  refine ⟨hstack.resolve_right fun ⟨_, _, _, hn, _⟩ => ?_, hpending (.inl hruns)⟩
  exact Bool.false_ne_true (hn.symm.trans hruns)

/-- The law before the decision that ends a step: where a job has just ended, a composer that is
not stopped may stand free above a stacked SCRUB. -/
def StackAtDecision (s : State) : Prop :=
  let c := s.composer
  (c.stack = [] ∨ ∃ e, c.stack = [e] ∧ e.kind = .scrub ∧ c.runs .scrub = false ∧
      (c.running = none ∧ s.composerStopped = false ∨
        ∃ r, c.running = some r ∧ e.level < r.level)) ∧
    (c.runs .scrub = true ∨ c.stack ≠ [] → c.scrubPending = false) ∧
    (c.parked = true → c.runs .build = false) ∧
    (c.runs .thermal = true → c.thermalPending = false)

theorem StackLaw.atDecision (h : StackLaw s) : StackAtDecision s := by
  obtain ⟨hstack, hrest⟩ := h
  exact ⟨hstack.imp_right fun ⟨e, he, hk, hn, hr⟩ => ⟨e, he, hk, hn, .inr hr⟩, hrest⟩

/-- Where no decision of a free composer is due, the law itself holds. -/
theorem StackAtDecision.law (h : StackAtDecision s)
    (hr : s.composer.running ≠ none ∨ s.composerStopped = true) : StackLaw s := by
  obtain ⟨hstack, hrest⟩ := h
  refine ⟨hstack.imp_right fun ⟨e, he, hk, hn, hrun⟩ => ⟨e, he, hk, hn, ?_⟩, hrest⟩
  rcases hrun with ⟨hfree, hgo⟩ | hrun
  · rcases hr with hr | hr
    · exact absurd hfree hr
    · rw [hgo] at hr
      exact absurd hr Bool.false_ne_true
  · exact hrun

/-- A job's end: the composer, not stopped, becomes free, and what it ran does so no more. -/
theorem StackLaw.ended (h : StackLaw s) (hc : s.composerStopped = false)
    (ht : t.composerStopped = s.composerStopped) (hr : t.composer.running = none)
    (hstack : t.composer.stack = s.composer.stack)
    (hscrub : t.composer.scrubPending = s.composer.scrubPending) : StackAtDecision t := by
  obtain ⟨hlaw, hpending, -, -⟩ := h
  have hn : ∀ {k}, t.composer.runs k = false := fun {k} => by rw [Composer.runs, hr]
  have hnever : ∀ {k}, ¬t.composer.runs k = true := Bool.eq_false_iff.mp hn
  refine ⟨?_, fun h => ?_, fun _ => hn, fun h => (hnever h).elim⟩
  · rw [hstack]
    exact hlaw.imp_right fun ⟨e, he, hk, _, _⟩ => ⟨e, he, hk, hn, .inl ⟨hr, ht.trans hc⟩⟩
  · rw [hscrub]
    exact hpending (.inr (hstack ▸ h.resolve_left hnever))

/-! ## Starts and decisions (R112 to R116) -/

/-- The take of a zone changes of the composer the build set and the staging alone. -/
theorem takeZone_composer (s : State) :
    ∃ b g, (takeZone s).composer = { s.composer with buildSet := b, staging := g } := by
  unfold takeZone requestBlock
  split
  · dsimp only
    split <;> exact ⟨_, _, rfl⟩
  · exact ⟨_, _, rfl⟩

/-- A kind that starts over the stack's top entry by its level, pending no more, keeps the law. -/
theorem startJob_stackLaw (k : JobKind)
    (hstack : s.composer.stack = [] ∨ ∃ e, s.composer.stack = [e] ∧ e.kind = .scrub ∧
      k ≠ .scrub ∧ e.level < s.composer.levels.of k)
    (hscrub : s.composer.stack ≠ [] → s.composer.scrubPending = false)
    (hparked : k = .build → s.composer.parked = false) : StackLaw (startJob k s) := by
  cases k with
  | gain =>
    exact .of_running rfl (fun _ => eq_of_beq) hstack (fun h => hscrub (h.resolve_left nofun))
      nofun nofun
  | thermal =>
    exact .of_running rfl (fun _ => eq_of_beq) hstack (fun h => hscrub (h.resolve_left nofun))
      nofun fun _ => rfl
  | build =>
    obtain ⟨b, g, hc⟩ := takeZone_composer (setRunning ⟨s.composer.levels.of .build, .build⟩ s)
    have hstart : (startJob .build s).composer = _ := hc
    refine .of_running (k := .build) (r := ⟨s.composer.levels.of .build, .build⟩) ?_ ?_ ?_ ?_ ?_
      nofun <;> rw [hstart]
    · exact rfl
    · exact fun _ => eq_of_beq
    · exact hstack
    · exact fun h => hscrub (h.resolve_left nofun)
    · exact hparked
  | scrub =>
    exact .of_running rfl (fun _ => eq_of_beq) hstack (fun _ => rfl) nofun nofun

/-- A stacked SCRUB resumes: the stack is empty, and SCRUB was not pending. -/
theorem resumeTop_stackLaw (e : Suspended) (hscrub : s.composer.scrubPending = false) :
    StackLaw (resumeTop e [] s) :=
  .of_running (k := .scrub) rfl (fun _ => eq_of_beq) (.inl rfl) (fun _ => hscrub) nofun nofun

/-- The kind that the search finds is wanted (R113). -/
theorem wanted_of_chosen {c : Composer} {k : JobKind} (h : c.chosen = some k) : Wanted c k := by
  rcases c.chosen_spec with ⟨j, hj, hw, _⟩ | ⟨hn, _⟩
  · rw [h, Option.some.injEq] at hj
    exact hj ▸ hw
  · rw [h] at hn
    cases hn

/-- A SCRUB that is not pending is not chosen. -/
theorem ne_scrub_of_wanted {c : Composer} {k : JobKind} (h : Wanted c k)
    (hs : c.scrubPending = false) : k ≠ .scrub := by
  rintro rfl
  exact absurd (h.symm.trans hs) Bool.false_ne_true.symm

/-- R109: a parked BUILD is not chosen. -/
theorem not_parked_of_wanted {c : Composer} {k : JobKind} (h : Wanted c k) :
    k = .build → c.parked = false := by
  rintro rfl
  obtain ⟨-, -, hp, -⟩ := h
  exact hp

/-- R114: the decision of a free composer. -/
theorem takeDecision_stackLaw (h : StackAtDecision s) (hr : s.composer.running = none) :
    StackLaw (takeDecision s) := by
  obtain ⟨hstack, hscrub, -⟩ := h
  have htop : ∀ {e rest}, s.composer.stack = e :: rest →
      rest = [] ∧ e.kind = .scrub ∧ s.composer.scrubPending = false := by
    intro e rest he
    have hne : s.composer.stack ≠ [] := by rw [he]; exact List.cons_ne_nil _ _
    obtain ⟨top, htop, hkind, -⟩ := hstack.resolve_left hne
    obtain ⟨rfl, rfl⟩ := List.cons.inj (he.symm.trans htop)
    exact ⟨rfl, hkind, hscrub (.inr hne)⟩
  unfold takeDecision
  split
  · exact .of_idle hr ‹_›
  · rename_i k he hk
    exact startJob_stackLaw k (.inl he) (fun hne => absurd he hne)
      (not_parked_of_wanted (wanted_of_chosen hk))
  · rename_i e rest he _
    obtain ⟨rfl, -, hpending⟩ := htop he
    exact resumeTop_stackLaw e hpending
  · rename_i e rest k he hk
    obtain ⟨rfl, hkind, hpending⟩ := htop he
    have hw := wanted_of_chosen hk
    split_ifs with hl
    · exact startJob_stackLaw k (.inr ⟨e, he, hkind, ne_scrub_of_wanted hw hpending, hl⟩)
        (fun _ => hpending) (not_parked_of_wanted hw)
    · exact resumeTop_stackLaw e hpending

/-- R115: the decision at SCRUB's preemption point. -/
theorem decideAtPoint_stackLaw {level left : Nat} (h : StackLaw s)
    (hr : s.composer.running = some ⟨level, .scrub left true⟩) :
    StackLaw (decideAtPoint level left s) := by
  obtain ⟨hstack, hpending⟩ := h.alone_of_scrub hr
  have hgoes : StackLaw (placeRead s.store.scrubPointer
      (setRunning ⟨level, .scrub left false⟩ s)) :=
    .of_running (k := .scrub) rfl (fun _ => eq_of_beq) (.inl hstack) (fun _ => hpending) nofun nofun
  unfold decideAtPoint
  split
  · rename_i k hk
    have hw := wanted_of_chosen hk
    split_ifs with hl
    · exact startJob_stackLaw (s := pushScrub level left s) k
        (.inr ⟨⟨.scrub, level, left⟩, congrArg _ hstack, rfl, ne_scrub_of_wanted hw hpending, hl⟩)
        (fun _ => hpending) (not_parked_of_wanted hw)
    · exact hgoes
  · exact hgoes

/-- The decision at the end of a step, where one is due, leaves the law. -/
theorem settleComposer_stackLaw (h : StackAtDecision s) : StackLaw (settleComposer s) := by
  unfold settleComposer
  split_ifs with hc
  · exact h.law (.inr hc)
  · split
    · exact takeDecision_stackLaw h ‹_›
    · rename_i hr
      exact decideAtPoint_stackLaw (h.law (.inl (by simp [hr]))) hr
    · rename_i hr
      exact h.law (.inl (by simp [hr]))

/-! ## What follows inside a step -/

theorem settleWork_stackLaw (h : StackAtDecision s) : StackLaw (settleWork s) :=
  (settleComposer_stackLaw h).frame (settleStore_keeps (ps := [.store]) (KeepsBut.refl _ _)
    (by simp))

/-- A commit only ends BUILD's park (R117). -/
theorem moveIntoForce_composer (s : State) :
    ∃ g p, (moveIntoForce s).composer = { s.composer with staging := g, parked := p } ∧
      (p = true → s.composer.parked = true) := by
  unfold moveIntoForce applyPendingGain commitStaged
  split <;> split
  · exact ⟨_, _, rfl, fun h => absurd h Bool.false_ne_true⟩
  · exact ⟨_, _, rfl, id⟩
  · exact ⟨_, _, rfl, id⟩
  · exact ⟨_, _, rfl, fun h => absurd h Bool.false_ne_true⟩
  · exact ⟨_, _, rfl, id⟩
  · exact ⟨_, _, rfl, id⟩

theorem moveIntoForce_stackLaw (h : StackLaw s) : StackLaw (moveIntoForce s) := by
  obtain ⟨g, p, hc, hp⟩ := moveIntoForce_composer s
  obtain ⟨hstack, hscrub, hparked, hthermal⟩ := h
  unfold StackLaw
  rw [hc]
  exact ⟨hstack, hscrub, fun h => hparked (hp h), hthermal⟩

theorem settleRender_atDecision (h : StackAtDecision s) : StackAtDecision (settleRender s) := by
  unfold settleRender
  split_ifs
  · exact h
  · obtain ⟨g, p, hc, hp⟩ := moveIntoForce_composer s
    have hs : (moveIntoForce s).composerStopped = s.composerStopped :=
      (moveIntoForce_keeps (ps := [.render, .composer]) (KeepsBut.refl _ s)
        (by simp)).composerStopped_eq (by decide)
    obtain ⟨hstack, hscrub, hparked, hthermal⟩ := h
    unfold StackAtDecision
    rw [hc, hs]
    exact ⟨hstack, hscrub, fun h => hparked (hp h), hthermal⟩

/-- R35: BUILD parks, and the composer, not stopped, is free. -/
theorem park_atDecision (f : Filling) (h : StackLaw s) (hc : s.composerStopped = false) :
    StackAtDecision (park f s) :=
  h.ended hc rfl rfl rfl rfl

theorem absorbBuild_atDecision (read : BlockRead) (h : StackLaw s)
    (hc : s.composerStopped = false) : StackAtDecision (absorbBuild read s) := by
  unfold absorbBuild requestBlock
  split
  · dsimp only
    split_ifs
    · split <;> exact h.atDecision
    · exact park_atDecision _ h hc
  all_goals exact h.atDecision

/-- A check changes of the composer the build set and SCRUB's own batch. -/
theorem absorbScrub_composer (level left : Nat) (read : BlockRead) (s : State) :
    ∃ b, (absorbScrub level left read s).composer =
      { s.composer with
        buildSet := b
        running := if left ≤ 1 then none else some ⟨level, .scrub (left - 1) true⟩ } := by
  unfold absorbScrub
  dsimp only
  split <;> exact ⟨_, rfl⟩

/-- R50, R112: SCRUB stands at its preemption point, or its batch has ended. -/
theorem absorbScrub_atDecision {level left : Nat} {p : Bool} (read : BlockRead) (h : StackLaw s)
    (hr : s.composer.running = some ⟨level, .scrub left p⟩) :
    StackAtDecision (absorbScrub level left read s) := by
  obtain ⟨hstack, hpending⟩ := h.alone_of_scrub hr
  obtain ⟨b, hc⟩ := absorbScrub_composer level left read s
  refine StackLaw.atDecision ?_
  by_cases hl : left ≤ 1
  · rw [if_pos hl] at hc
    exact .of_idle (by rw [hc]) (by rw [hc]; exact hstack)
  · rw [if_neg hl] at hc
    refine .of_running (k := .scrub) (r := ⟨level, .scrub (left - 1) true⟩) ?_ ?_ ?_ ?_ nofun
      nofun <;> rw [hc]
    · exact fun _ => eq_of_beq
    · exact .inl hstack
    · exact fun _ => hpending

/-- The running job takes the data of its read. -/
theorem absorbRead_atDecision (read : BlockRead) (h : StackAtDecision s)
    (hc : s.composerStopped = false) : StackAtDecision (absorbRead read s) := by
  unfold absorbRead
  split
  · rename_i hr
    exact absorbBuild_atDecision read (h.law (.inl (by simp [hr]))) hc
  · rename_i hr
    exact absorbScrub_atDecision read (h.law (.inl (by simp [hr]))) hr
  all_goals exact h

theorem takeDeferred_atDecision (h : StackAtDecision s) : StackAtDecision (takeDeferred s) := by
  unfold takeDeferred
  split_ifs with hc
  · exact h
  · split
    · exact absorbRead_atDecision (s := s.setComposer _) _ h (Bool.eq_false_iff.mpr hc)
    · exact h

theorem settle_stackLaw (h : StackAtDecision s) : StackLaw (settle s) := by
  have hb : StackAtDecision (settleBanks s) := h
  exact settleWork_stackLaw (settleRender_atDecision (takeDeferred_atDecision hb))

theorem conclude_stackLaw (extra : List Cause) (before : State) (h : StackLaw s) :
    StackLaw (conclude extra before s) :=
  h.frame (conclude_keeps (ps := [.linkA, .linkB, .authority, .render]) extra before
    (KeepsBut.refl _ s) (by simp))

/-- The end of a step that may report. -/
theorem concludeSettle_stackLaw (extra : List Cause) (before : State) (h : StackLaw s) :
    StackLaw (conclude extra before (settle s)) :=
  conclude_stackLaw extra before (settle_stackLaw h.atDecision)

/-! ## The pilot sequence (R77 to R83) -/

/-- R106: a GAIN request leaves the jobs. -/
theorem requestGain_stackLaw (p : Prop) [Decidable p] (h : StackLaw s) :
    StackLaw (if p then requestGain s else s) := .ite p (s := requestGain s) h h

theorem endSequence_stackLaw (h : StackLaw s) : StackLaw (endSequence s) :=
  requestGain_stackLaw (s := s.setWear _) _ h

theorem takeEmitter_stackLaw (e : Emitter) {next : State → State}
    (hn : ∀ {u}, StackLaw u → StackLaw (next u)) (h : StackLaw s) :
    StackLaw (takeEmitter e next s) :=
  .ite _ (hn (u := setPilotResult e .skipped s) h) h

theorem takeBlue_stackLaw (h : StackLaw s) : StackLaw (takeBlue s) :=
  takeEmitter_stackLaw .b endSequence_stackLaw h

theorem takeGreen_stackLaw (h : StackLaw s) : StackLaw (takeGreen s) :=
  takeEmitter_stackLaw .g takeBlue_stackLaw h

theorem takeAfter_stackLaw (e : Emitter) (h : StackLaw s) : StackLaw (takeAfter e s) := by
  cases e with
  | r => exact takeGreen_stackLaw h
  | g => exact takeBlue_stackLaw h
  | b => exact endSequence_stackLaw h

theorem startSequence_stackLaw (h : StackLaw s) : StackLaw (startSequence s) :=
  .ite _ (takeEmitter_stackLaw .r takeGreen_stackLaw (s := s.setWear _) h) h

theorem abandonSequence_stackLaw (h : StackLaw s) : StackLaw (abandonSequence s) := by
  unfold abandonSequence
  dsimp only
  split
  · exact h
  · exact requestGain_stackLaw (s := s.setWear _) _ h
  · exact requestGain_stackLaw (s := s.setWear _) _ h

theorem lightCompletion_stackLaw (e : Emitter) (c : Completion) (h : StackLaw s) :
    StackLaw (lightCompletion e c s) :=
  have hm : StackLaw (measure e c s) :=
    h.frame (measure_keeps (ps := [.wear]) e c (KeepsBut.refl _ s) (by simp))
  .ite _ (s := s.setWear _) h (.ite _ (takeAfter_stackLaw e hm) h)

/-! ## Power states, rounds and the sensor bus -/

/-- R186: GAIN is requested at the leaving of the rest. -/
theorem enterRest_stackLaw (h : StackLaw s) : StackLaw (enterRest s) := by
  unfold enterRest
  dsimp only
  split <;> exact h

theorem commandRest_stackLaw (h : StackLaw s) : StackLaw (commandRest s) := by
  have hentry : StackLaw (enterResting s) :=
    abandonSequence_stackLaw (s := requestSave true (s.setChip _)) h
  unfold commandRest
  split
  · exact hentry
  · exact hentry
  all_goals exact h

/-- R107: a THERMAL request merges into a running THERMAL. -/
theorem requestThermal_stackLaw (h : StackLaw s) : StackLaw (requestThermal s) := by
  unfold requestThermal
  split_ifs with hr
  · exact h
  · obtain ⟨hstack, hscrub, hparked, -⟩ := h
    exact ⟨hstack, hscrub, hparked, fun h => absurd h hr⟩

/-- R108: a SCRUB request merges into a running or a stacked SCRUB. -/
theorem requestScrub_stackLaw (h : StackLaw s) : StackLaw (requestScrub s) := by
  unfold requestScrub
  split_ifs with hr
  · exact h
  · rw [Bool.or_eq_true, not_or] at hr
    obtain ⟨hruns, hstacked⟩ := hr
    obtain ⟨hstack, -, hparked, hthermal⟩ := h
    refine ⟨hstack, fun hn => ?_, hparked, hthermal⟩
    rcases hn with hn | hn
    · exact absurd hn hruns
    · obtain ⟨e, he, hk, -⟩ := hstack.resolve_left hn
      exact absurd (by rw [Composer.stacked, he]; simp [hk]) hstacked

theorem endSampleRound_stackLaw (h : StackLaw s) : StackLaw (endSampleRound s) :=
  .ite _ (enterRest_stackLaw (s := (senseZones s).setThermal _) h) h

theorem endRound_stackLaw (r : Round) (h : StackLaw s) : StackLaw (endRound r s) := by
  have hround : StackLaw (setRound none s) := h
  have hstart : StackLaw (if r.start then endStartRound (setRound none s) else setRound none s) :=
    .ite _ (hround.frame (endStartRound_keeps (ps := [.chip, .thermal]) (KeepsBut.refl _ _)
      (by simp))) hround
  have hsample := StackLaw.ite r.sample (endSampleRound_stackLaw hstart) hstart
  exact .ite r.thermal (requestThermal_stackLaw hsample) hsample

theorem tempCompletion_stackLaw (q : Nat) (h : StackLaw s) : StackLaw (tempCompletion q s) := by
  unfold tempCompletion
  split
  · exact .ite _ (.ite _ (endRound_stackLaw _ h) h) h
  · exact h

theorem deliverTo_stackLaw (r : SensorRequest) (c : Completion) (u : SensorUser)
    (h : StackLaw s) : StackLaw (deliverTo r c u s) := by
  unfold deliverTo
  split
  · exact tempCompletion_stackLaw _ h
  · exact lightCompletion_stackLaw _ _ h
  · exact h
  · exact h

theorem deliver_stackLaw (r : SensorRequest) (c : Completion) (us : List SensorUser)
    (h : StackLaw s) : StackLaw (deliver r c us s) := by
  unfold deliver
  induction us generalizing s with
  | nil => exact h
  | cons u us ih => exact ih (deliverTo_stackLaw r c u h)

theorem startTransactions_stackLaw (n : Nat) (h : StackLaw s) :
    StackLaw (startTransactions n s) := by
  induction n generalizing s with
  | zero => exact h
  | succ n ih =>
    unfold startTransactions
    split
    · exact h
    · exact h
    · exact .ite _ (ih (deliver_stackLaw (s := s.setSensors _) _ _ _ h)) h

theorem startNext_stackLaw (h : StackLaw s) : StackLaw (startNext s) :=
  startTransactions_stackLaw _ h

theorem endTransaction_stackLaw (r : Transaction) (c : Completion) (h : StackLaw s) :
    StackLaw (endTransaction r c s) :=
  startNext_stackLaw (deliver_stackLaw (s := recordCompletion _ _ (s.setSensors _)) _ _ _ h)

theorem sensorResponse_stackLaw (f : SensorFrame) (h : StackLaw s) :
    StackLaw (sensorResponse f s) := by
  refine .ite _ ?_ (t := s.setSensors _) h
  split
  · exact .ite _ (endTransaction_stackLaw _ _ h) h
  · exact h

theorem sensorDeadline_stackLaw (h : StackLaw s) : StackLaw (sensorDeadline s) := by
  unfold sensorDeadline
  split
  · exact endTransaction_stackLaw _ _ h
  · exact h

/-- A round opens with its requests, or ends at once where no sensor is present. -/
theorem openRound_stackLaw (m : RoundMark) (h : StackLaw s) : StackLaw (openRound m s) := by
  have hplaced : ∀ (qs : List Nat) (u : State), StackLaw u →
      StackLaw (qs.foldl (fun s q => placeSensor (.temp q) .thermal s) u) := fun qs => by
    induction qs with
    | nil => exact fun _ hu => hu
    | cons q qs ih =>
      exact fun u hu => ih _ (hu.frame (placeSensor_keeps (ps := [.sensors]) _ _
        (KeepsBut.refl _ u) (by simp)))
  exact .ite _ (endRound_stackLaw _ h) (hplaced _ (setRound _ s) h)

/-- A round joined or opened, and the transaction that then starts. -/
theorem startJoined_stackLaw (m : RoundMark) (h : StackLaw s) :
    StackLaw (startNext (joinRound m s)) := by
  refine startNext_stackLaw ?_
  unfold joinRound
  split
  · exact h
  · exact openRound_stackLaw m h

/-! ## The authority unit and the links -/

theorem setLink_stackLaw (l : Link) (v : LinkPort) (h : StackLaw s) :
    StackLaw (s.setLink l v) :=
  h.frame (setLink_keeps (ps := [.linkA, .linkB]) l v (KeepsBut.refl _ s) (by decide) (by decide))

/-- R144: a record in force asks for zones and for GAIN. -/
theorem putInForce_stackLaw (r : WallRecord) (h : StackLaw s) : StackLaw (putInForce r s) := by
  have ha : StackLaw (s.setAuthority { s.authority with record := r }) := h
  have hjoined := StackLaw.ite (r.target = s.authority.record.target) ha (t := joinAll _) ha
  exact .ite _ hjoined (t := requestGain _) hjoined

theorem storeRecord_stackLaw (l : Link) (r : WallRecord) (h : StackLaw s) :
    StackLaw (storeRecord l r s) :=
  have hl := setLink_stackLaw l _ h
  .ite _ (putInForce_stackLaw r hl) hl

theorem moveAuthority_stackLaw (l : Link) (h : StackLaw s) : StackLaw (moveAuthority l s) := by
  unfold moveAuthority adoptRecord
  split
  · exact putInForce_stackLaw (s := s.setAuthority _) _ h
  · exact h

theorem becomeStale_stackLaw (l : Link) (h : StackLaw s) : StackLaw (becomeStale l s) :=
  h.frame (becomeStale_keeps (ps := [.linkA, .linkB, .authority]) l (KeepsBut.refl _ s) (by simp))

theorem enterHolding_stackLaw (h : StackLaw s) : StackLaw (enterHolding s) := .ite _ h h

theorem holdExpiry_stackLaw (l : Link) (h : StackLaw s) : StackLaw (holdExpiry l s) :=
  .ite _ (.ite _ (moveAuthority_stackLaw _ h) (enterHolding_stackLaw h)) h

theorem authorityDown_stackLaw (l : Link) (h : StackLaw s) : StackLaw (authorityDown l s) := by
  have hl : StackLaw ((becomeStale l s).setLink l
      { (becomeStale l s).link l with stored := none }) :=
    setLink_stackLaw l _ (becomeStale_stackLaw l h)
  exact .ite _ (.ite _ (moveAuthority_stackLaw _ hl)
    (enterHolding_stackLaw (s := State.setAuthority _ _) hl)) hl

theorem applyHoldTime_stackLaw (v : Nat) (h : StackLaw s) : StackLaw (applyHoldTime v s) := by
  have hset : StackLaw (s.setSettings { s.settings with holdTime := v }) := h
  have stale : ∀ (l : Link) (p : Prop) [Decidable p] {u : State}, StackLaw u →
      StackLaw (if p then becomeStale l u else u) := fun l p _ _ hu =>
    .ite p (becomeStale_stackLaw l hu) hu
  have expiry : ∀ (l : Link) (p : Prop) [Decidable p] {u : State}, StackLaw u →
      StackLaw (if p then holdExpiry l u else u) := fun l p _ _ hu =>
    .ite p (holdExpiry_stackLaw l hu) hu
  exact expiry .b _ (expiry .a _ (stale .b _ (stale .a _ hset)))

theorem openFrame_stackLaw (h : StackLaw s) : StackLaw (openFrame s) :=
  moveIntoForce_stackLaw h

theorem takeFrameHead_stackLaw (l : Link) (h : StackLaw s) : StackLaw (takeFrameHead l s) := by
  have hr : StackLaw (refresh l s) := setLink_stackLaw l _ h
  exact .ite _ (.ite _ (openFrame_stackLaw (moveAuthority_stackLaw l hr))
    (.ite _ (openFrame_stackLaw hr) hr)) hr

theorem passFrameHead_stackLaw (l : Link) (body : List Byte) (h : StackLaw s) :
    StackLaw (passFrameHead l body s) :=
  concludeSettle_stackLaw _ _ (takeFrameHead_stackLaw l (setLink_stackLaw l _
    (.ite _ (setLink_stackLaw l _ h) h)))

theorem receive_stackLaw (l : Link) (kind : Byte) (u : LinkUnit) (h : StackLaw s) :
    StackLaw (receive l kind u s) := by
  rcases receive_cases l kind u s with hk | ⟨-, he⟩ | ⟨-, he⟩
  · exact h.frame hk
  · exact he ▸ passFrameHead_stackLaw l u.body h
  · rcases passRow_cases l u.body s with hk | ⟨y, pixels, hrow⟩
    · exact he ▸ h.frame hk
    · exact he ▸ hrow ▸ h

/-- R139, R154: a link that goes DOWN. -/
theorem goDown_stackLaw (l : Link) (h : StackLaw s) : StackLaw (goDown l s) := by
  have hl : StackLaw (s.setLink l (s.link l).dropped) := setLink_stackLaw l _ h
  exact settle_stackLaw (authorityDown_stackLaw l (.ite _ (s := dueReset _ _) hl hl)).atDecision

theorem linkDown_stackLaw (l : Link) (h : StackLaw s) : StackLaw (linkDown l s) := by
  refine .ite _ h ?_
  split
  · exact h
  · exact setLink_stackLaw l _ h
  · exact conclude_stackLaw _ _ (goDown_stackLaw l h)
  · exact conclude_stackLaw _ _ (goDown_stackLaw l h)

/-! ## Requests -/

theorem applySetting_stackLaw (x : Setting) (v : Int) (h : StackLaw s) :
    StackLaw (applySetting x v s) := by
  cases x with
  | holdTime => exact settle_stackLaw (applyHoldTime_stackLaw _ h).atDecision
  | blankAfter =>
    exact settle_stackLaw (h.frame (applyBlankAfter_keeps (ps := [.authority, .settings]) _
      (KeepsBut.refl _ s) (by simp))).atDecision
  | _ => exact h

theorem performSet_stackLaw (op : SetOp) (h : StackLaw s) :
    StackLaw (performSet op s).state := by
  cases op with
  | jobLevel k v =>
    unfold performSet setJobLevel
    dsimp only
    split_ifs
    · exact h
    · exact h
    · exact settleWork_stackLaw (s := s.setComposer _) h.atDecision
  | phaseTable t =>
    unfold performSet setPhaseTable
    dsimp only
    split_ifs <;> exact h
  | darkPolicy b v =>
    unfold performSet setDarkPolicy
    dsimp only
    split_ifs
    · exact h
    · split <;> exact h
  | value x v =>
    unfold performSet setValue
    dsimp only
    split_ifs
    · exact h
    · exact h
    · exact applySetting_stackLaw _ _ h
    · exact applySetting_stackLaw _ _ h

theorem powerCommand_stackLaw (o : Origin) {f : State → State} (hf : StackLaw (f s))
    (h : StackLaw s) : StackLaw (powerCommand o f s).state := by
  unfold powerCommand
  split_ifs
  · exact settle_stackLaw hf.atDecision
  · exact h

/-- The owner's rule of a request that links and tool share. -/
theorem perform_stackLaw (o : Origin) (r : Request) (h : StackLaw s) :
    StackLaw (perform o r s).state := by
  cases r with
  | wall r =>
    cases o with
    | link l => exact settleWork_stackLaw (storeRecord_stackLaw l _ h).atDecision
    | tool => exact h
  | take =>
    cases o with
    | link l =>
      unfold perform performTake takeCommand
      dsimp only
      split_ifs <;> exact h
    | tool => exact h
  | dark =>
    refine powerCommand_stackLaw o ?_ h
    unfold commandDark
    split <;> exact h
  | light =>
    refine powerCommand_stackLaw o ?_ h
    unfold commandLight
    split <;> exact h
  | rest => exact powerCommand_stackLaw o (commandRest_stackLaw h) h
  | rebuild zs =>
    unfold perform performRebuild
    dsimp only
    split_ifs
    · exact h
    · exact settleWork_stackLaw (s := joinBuild zs s) h.atDecision
  | query q => exact h
  | set op => exact performSet_stackLaw op h
  | close => exact .ite _ h (settle_stackLaw (s := s.setChip _) h.atDecision)
  | reset => exact h

theorem performTool_stackLaw (tag : Byte) (r : ToolRequest) (h : StackLaw s) :
    StackLaw (performTool tag r s).state := by
  cases r with
  | shared r => exact perform_stackLaw .tool r h
  | block p =>
    unfold performTool toolBlock
    dsimp only
    split_ifs
    · exact h.frame (offerProgram_keeps _ _ s)
    · exact h
  | identity fields =>
    unfold performTool toolIdentity
    dsimp only
    split_ifs
    · exact h
    · exact h.frame (offerProgram_keeps _ _ s)
    · exact h
  | trim codes =>
    have hs : StackLaw (requestSave false (s.setWear { s.wear with trim := codes })) := h
    exact settleWork_stackLaw (StackLaw.ite _ hs (t := requestGain _) hs).atDecision
  | wearClear z => exact settleWork_stackLaw (s := clearWear z s) h.atDecision
  | bank es => exact h.frame (setBankModes_keeps es (KeepsBut.refl _ s))
  | latch b v => exact h

theorem handleFrame_stackLaw (tag kind : Byte) (req : Option ToolRequest) (h : StackLaw s) :
    StackLaw (handleFrame tag kind req s) := by
  rcases handleFrame_cases tag kind req s with hk | ⟨r, -, he⟩
  · exact h.frame hk
  · rw [he]
    exact (performTool_stackLaw tag r h).frame (answerTool_keeps _ _ _ _)

theorem promptStep_stackLaw (l : Link) (mine : Request → Bool) (h : StackLaw s) :
    StackLaw (promptStep l mine s) := by
  rcases promptStep_cases l mine s with he | ⟨m, rest, r, he⟩
  · exact he.symm ▸ h
  · exact he ▸ conclude_stackLaw _ _ ((perform_stackLaw (.link l) r
      (setLink_stackLaw l _ h)).frame (handlePrompt_keeps l m rest r s))

theorem toolStep_stackLaw (tag kind : Byte) (req : Option ToolRequest) (h : StackLaw s) :
    StackLaw (toolStep tag kind req s) := by
  rcases toolStep_cases tag kind req s with he | he
  · exact he.symm ▸ h
  · exact he ▸ conclude_stackLaw _ _ (handleFrame_stackLaw tag kind req h)

theorem requestStep_stackLaw {α : Type} (v : Via α) (mine : Request → Bool) (kind : Byte)
    (req : α → Option Request) (h : StackLaw s) : StackLaw (requestStep v mine kind req s) := by
  cases v with
  | port l => exact promptStep_stackLaw l mine h
  | tool tag a => exact toolStep_stackLaw tag kind _ h

/-! ## Service frames -/

theorem endFrame_stackLaw (buf : List Byte) (h : StackLaw s) : StackLaw (endFrame buf s) :=
  .ite _ (conclude_stackLaw _ _ (handleFrame_stackLaw (s := setReceiving none s) _ _ _ h)) h

theorem receiveByte_stackLaw (b : LineByte) (h : StackLaw s) : StackLaw (receiveByte b s) := by
  have hi : StackLaw (s.setService { s.service with idle := 0 }) := h
  unfold receiveByte
  dsimp only
  split
  · exact .ite _ hi hi
  · exact .ite _ hi (.ite _ hi (.ite _ (endFrame_stackLaw _ hi) hi))

theorem receiveBytes_stackLaw (bytes : List LineByte) (h : StackLaw s) :
    StackLaw (bytes.foldl (fun s b => receiveByte b s) s) := by
  induction bytes generalizing s with
  | nil => exact h
  | cons b bytes ih => exact ih (receiveByte_stackLaw b h)

/-! ## Resets and start-up (R105, R119, R175, R177) -/

/-- Every reset leaves the composer with no job and nothing pending. -/
theorem coldReset_stackLaw (pins : StrapPins) (s : State) : StackLaw (coldReset pins s) :=
  stackLaw_reset

theorem clearWarm_stackLaw (s : State) : StackLaw (clearWarm s) := stackLaw_reset

theorem resetPinRelease_stackLaw (pins : StrapPins) (h : StackLaw s) :
    Leads (.resetPinRelease pins) s StackLaw := by
  refine .intro rfl ?_
  split
  · exact coldReset_stackLaw _ _
  · exact clearWarm_stackLaw (setPinLow false s)
  all_goals exact h

theorem startupChecksDone_stackLaw (f : StoreFindings) (h : StackLaw s) :
    StackLaw (startupChecksDone f s) := by
  have hchecked : StackLaw (checkedState f s) := by
    unfold StackLaw
    rw [checkedState_composer]
    exact h
  exact .ite _ (concludeSettle_stackLaw _ (checkedState f s) (startJoined_stackLaw _ hchecked)) h

/-! ## Ticks and expiries -/

theorem onTick_stackLaw {f : State → State} (hf : StackLaw (f s)) (h : StackLaw s) :
    StackLaw (onTick f s) := .ite _ hf h

theorem thermalTick_stackLaw (h : StackLaw s) : StackLaw (thermalTick s) :=
  concludeSettle_stackLaw _ _ (startJoined_stackLaw (s := (s.setTimebase _).setThermal _) _ h)

theorem pilotTick_stackLaw (h : StackLaw s) : StackLaw (pilotTick s) :=
  have hticked : StackLaw (s.setTimebase
      { s.timebase with pilot := 60000 * s.settings.pilotInterval }) := h
  settleWork_stackLaw (startSequence_stackLaw hticked).atDecision

theorem scrubTick_stackLaw (h : StackLaw s) : StackLaw (scrubTick s) :=
  have hticked : StackLaw (s.setTimebase { s.timebase with scrub := s.settings.scrubInterval }) := h
  settleWork_stackLaw (requestScrub_stackLaw hticked).atDecision

theorem driftSaveTick_stackLaw (h : StackLaw s) : StackLaw (driftSaveTick s) :=
  h.frame (settleStore_keeps (ps := [.timebase, .store]) (requestSave_keeps _ (setTimebase_keeps _
    (KeepsBut.refl _ s) (by decide)) (by simp)) (by simp))

theorem restWakeExpiry_stackLaw (h : StackLaw s) : StackLaw (restWakeExpiry s) :=
  .ite _ (concludeSettle_stackLaw _ _
    (startJoined_stackLaw (s := clearLoad (s.setChip _)) _ h)) h

theorem settleTimerExpiry_stackLaw (h : StackLaw s) : StackLaw (settleTimerExpiry s) := by
  unfold settleTimerExpiry
  split
  · exact settle_stackLaw (startNext_stackLaw (h.frame (beginRead_keeps (ps := [.wear, .sensors]) _
      (KeepsBut.refl _ s) (by simp)))).atDecision
  all_goals exact h

theorem ageExpiry_stackLaw (l : Link) (h : StackLaw s) : StackLaw (ageExpiry l s) :=
  .ite _ (concludeSettle_stackLaw _ _ (holdExpiry_stackLaw l (becomeStale_stackLaw l
    (setLink_stackLaw l _ h)))) h

theorem blankAfterExpiry_stackLaw (h : StackLaw s) : StackLaw (blankAfterExpiry s) :=
  .ite _ (concludeSettle_stackLaw (s := blank s) _ _ h) h

theorem answerSent_stackLaw (who : Sender) (h : StackLaw s) :
    Leads (.answerSent who) s StackLaw := by
  cases who with
  | link l =>
    exact .intro rfl (.ite _ (h.frame (linkSent_keeps (ps := [.linkA, .linkB, .chip]) l
      (KeepsBut.refl _ s) (by simp))) h)
  | service =>
    exact .intro rfl (.ite _ (h.frame (serviceSent_keeps (ps := [.service, .chip])
      (KeepsBut.refl _ s) (by simp))) h)

/-- R186: a sync in the rest wakes the part, which requests GAIN. -/
theorem sync_stackLaw (low : Nat) (h : StackLaw s) : StackLaw (sync low s) := by
  have hsync : ∀ u : State, StackLaw u → StackLaw (reportSync u) := fun u hu => by
    unfold reportSync
    split
    · exact hu
    · exact hu
    · exact .ite _ hu hu
    · exact .ite _ hu hu
    · exact hu
  exact .ite _ (.ite _ (concludeSettle_stackLaw _ _ (hsync (s.setService _) h)) h) h

/-! ## The ends of grants and jobs (R43, R45, R47, R55, R67, R99) -/

theorem onSensor_stackLaw {f : State → State} (hf : StackLaw (f s)) (h : StackLaw s) :
    StackLaw (onSensor f s) := .ite _ (concludeSettle_stackLaw _ _ hf) h

/-- R118: a stopped composer keeps the read; otherwise its job takes the data. -/
theorem blockReadDone_stackLaw (cells : Option Stored) (h : StackLaw s) :
    StackLaw (blockReadDone cells s) := by
  unfold blockReadDone
  split
  · rename_i i _
    have hfree : StackLaw (setPort .free (setSlot i (cells.getD (s.slot i)) s)) := h
    refine settle_stackLaw ?_
    unfold endBlockRead
    dsimp only
    split_ifs with hc
    · exact hfree.atDecision
    · exact absorbRead_atDecision _ hfree.atDecision (Bool.eq_false_iff.mpr hc)
  all_goals exact h

/-- A program's completion reaches its requester, and the decision and the scan follow. -/
theorem programEnded_stackLaw (who : Requester) (ok : Bool) (h : StackLaw s) :
    StackLaw (settleWork (reportProgram who ok s)) :=
  settleWork_stackLaw (h.frame (reportProgram_keeps
    (ps := [.linkA, .linkB, .store, .service]) who ok (KeepsBut.refl _ s) (by simp))).atDecision

theorem countProgramFailure_stackLaw (ok : Bool) (h : StackLaw s) :
    StackLaw (countProgramFailure ok s) := .ite _ h h

theorem blockProgramDone_stackLaw (cells : Option Stored) (h : StackLaw s) :
    StackLaw (blockProgramDone cells s) := by
  unfold blockProgramDone
  split
  · exact programEnded_stackLaw _ _ (s := setPort .free (joinBuild _ _))
      (countProgramFailure_stackLaw (s := setBlockState _ _ (setSlot _ _ s)) _ h)
  all_goals exact h

theorem identityProgramDone_stackLaw (cells : Option Stored) (h : StackLaw s) :
    StackLaw (identityProgramDone cells s) := by
  unfold identityProgramDone
  split
  · exact programEnded_stackLaw .service _ (s := setPort .free (joinAll _))
      (countProgramFailure_stackLaw (s := loadIdentity (s.setStore _)) _ h)
  all_goals exact h

theorem driftSaveDone_stackLaw (cells : Option Stored) (h : StackLaw s) :
    StackLaw (driftSaveDone cells s) := by
  unfold driftSaveDone
  split
  · exact concludeSettle_stackLaw _ _ (.ite _ (enterRest_stackLaw (s := s.setStore _) h) h)
  all_goals exact h

theorem thermalJobEnd_stackLaw (h : StackLaw s) : StackLaw (thermalJobEnd s) := by
  unfold thermalJobEnd
  split
  · split_ifs with hc
    · exact h
    · exact settleWork_stackLaw (h.ended (Bool.eq_false_iff.mpr hc) rfl rfl rfl rfl)
  all_goals exact h

theorem gainEnd_stackLaw (h : StackLaw s) : StackLaw (gainEnd s) := by
  unfold gainEnd
  split
  · split_ifs with hc
    · exact h
    · exact conclude_stackLaw _ _ (settle_stackLaw
        (h.ended (Bool.eq_false_iff.mpr hc) rfl rfl rfl rfl))
  all_goals exact h

/-! ## Every step -/

/-- Every command keeps the law. -/
theorem leads_stackLaw (h : StackLaw s) : ∀ c, Leads c s StackLaw
  | .powerOn pins =>
    .intro rfl (.ite _ (coldReset_stackLaw ⟨0, 0, false⟩ s) (coldReset_stackLaw pins s))
  | .resetPinRelease pins => resetPinRelease_stackLaw pins h
  | .warmReset _ => .intro rfl (.ite _ (clearWarm_stackLaw s) h)
  | .startupChecksDone f => .intro rfl (startupChecksDone_stackLaw f h)
  | .loadSample =>
    .intro rfl (h.frame (millisecond_keeps
      (ps := [.timebase, .authority, .linkA, .linkB, .wear, .driver]) (KeepsBut.refl _ s)
      (by simp)))
  | .thermalTick => .intro rfl (onTick_stackLaw (thermalTick_stackLaw h) h)
  | .pilotTick => .intro rfl (onTick_stackLaw (pilotTick_stackLaw h) h)
  | .scrubTick => .intro rfl (onTick_stackLaw (scrubTick_stackLaw h) h)
  | .reportTick =>
    .intro rfl (onTick_stackLaw (conclude_stackLaw (s := s.setTimebase _) _ _ h) h)
  | .driftSaveTick => .intro rfl (onTick_stackLaw (driftSaveTick_stackLaw h) h)
  | .restWakeExpiry => .intro rfl (restWakeExpiry_stackLaw h)
  | .primingTimerExpiry _ => .intro rfl (.ite _ h h)
  | .settleTimerExpiry => .intro rfl (onTick_stackLaw (settleTimerExpiry_stackLaw h) h)
  | .linkStale l => .intro rfl (onTick_stackLaw (ageExpiry_stackLaw l h) h)
  | .blankAfterExpiry => .intro rfl (onTick_stackLaw (blankAfterExpiry_stackLaw h) h)
  | .creditResendTimer l =>
    .intro rfl (.ite _ (h.frame (offerCredits_keeps (ps := [.linkA, .linkB]) l (KeepsBut.refl _ s)
      (by simp))) h)
  | .signalDetected l => .intro rfl (.ite _ (setLink_stackLaw l _ h) h)
  | .symbolLock l =>
    .intro rfl (.ite _ (h.frame (offerCredits_keeps (ps := [.linkA, .linkB]) l
      (setLinkState_keeps l _ (KeepsBut.refl _ s) (by simp)) (by simp))) h)
  | .linkDown l => .intro rfl (linkDown_stackLaw l h)
  | .init l u | .frameHead l u | .row l u | .promptMessageArrival l _ u | .block (.port l u) =>
    .intro rfl (receive_stackLaw l _ u h)
  | .answerSent who => answerSent_stackLaw who h
  | .unknownKind l =>
    .intro rfl (h.frame (refusePrompt_keeps (ps := [.linkA, .linkB]) l (KeepsBut.refl _ s)
      (by simp)))
  | .block (.tool _ _) => .intro rfl (toolStep_stackLaw _ _ _ h)
  | .wall l | .take l => .intro rfl (promptStep_stackLaw l _ h)
  | .dark v | .light v | .rest v | .queryZoneStatus v | .queryStoreStatus v | .queryThermalState v
  | .queryWearState v | .queryGainState v | .queryComposerState v | .querySensorState v
  | .queryAuthorityState v | .queryLinkState v | .queryConfiguration v | .close v | .reset v
  | .rebuild v | .setJobLevel v | .setPhaseTable v | .setDarkPolicy v
  | .setHoldTime v | .setBlankAfter v | .setThermalInterval v | .setK v | .setRho v | .setFCap v
  | .setSensorMap v | .setAssumedAmbient v | .setPilotInterval v | .setScrubInterval v
  | .setReportInterval v | .setDriftSaveInterval v | .setRestWakeInterval v =>
    .intro rfl (requestStep_stackLaw v _ _ _ h)
  | .trim _ _ | .wearClear _ _ | .bank _ _ | .latch _ _ _ | .identity _ _ =>
    .intro rfl (toolStep_stackLaw _ _ _ h)
  | .sync low => .intro rfl (sync_stackLaw low h)
  | .serviceFrame bytes => .intro rfl (.ite _ (receiveBytes_stackLaw bytes h) h)
  | .serviceFrameTimeout => .intro rfl (.ite _ h h)
  | .serviceBreak _ =>
    .intro rfl (.ite _ (h.frame (returnToSync_keeps (ps := [.service, .chip]) (KeepsBut.refl _ s)
      (by simp))) h)
  | .idle =>
    .intro rfl (.ite _ (h.frame (setService_keeps (ps := [.service, .chip]) _
      (returnToSync_keeps (KeepsBut.refl _ s) (by simp)) (by simp))) h)
  | .sensorResponse f => .intro rfl (onSensor_stackLaw (sensorResponse_stackLaw f h) h)
  | .sensorDeadline => .intro rfl (onSensor_stackLaw (sensorDeadline_stackLaw h) h)
  | .blockReadDone cells => .intro rfl (blockReadDone_stackLaw cells h)
  | .blockProgramDone cells => .intro rfl (blockProgramDone_stackLaw cells h)
  | .identityProgramDone cells => .intro rfl (identityProgramDone_stackLaw cells h)
  | .driftSaveDone cells => .intro rfl (driftSaveDone_stackLaw cells h)
  | .thermalJobEnd => .intro rfl (thermalJobEnd_stackLaw h)
  | .gainEnd => .intro rfl (gainEnd_stackLaw h)
  | .resetPinDrivenLow => .intro rfl (.ite _ (clearWarm_stackLaw (setPinLow true s)) h)
  | .powerLoss => .intro rfl (coldReset_stackLaw ⟨0, 0, false⟩ s)

end StackLaw

/-- Settles O56: on the front command by `leads_stackLaw`; an idle second moves the wake counter
alone. -/
theorem stackLawIsKept : Obligations.StackLawIsKept := by
  intro s t h hs
  cases hp : s.pending with
  | nil =>
    rw [step_nil hp] at hs
    cases hs
    exact .ite _ (s := s.setChip _) h h
  | cons c rest =>
    rw [step_cons hp] at hs
    exact (leads_stackLaw (s := s.setPending rest) h c).of_exec hs

end Sys2Proof.Machine
end

section
/-! The composer's levels and the two ticks that ask for work (R45, R54, R87, R108, R111, R114): a
level that is written and a SCRUB that is wanted leave a busy composer as it is, and the arbiter's
requests; a drift save is granted in its own step where the port is free. -/

namespace Sys2Proof.Machine

-- One proof after the other: side by side their threads want too much memory.
set_option Elab.async false

/-! ## Work asked of a busy composer (R112, R118) -/

section Busy

variable {s u : State}

/-- Being busy asks only for the running job and the read that is kept. -/
theorem Busy.of_running (h : Busy s) (hchip : u.chip = s.chip)
    (hr : u.composer.running = s.composer.running)
    (hd : u.composer.deferred = s.composer.deferred) : Busy u := by
  unfold Busy State.composerStopped State.started
  rw [hchip, hr, hd]
  exact h

/-- In a steady state with a busy composer nothing follows a request for work that leaves the store
and the running job. -/
theorem settleWork_of_asked (hs : Steady s) (hb : Busy s) (hchip : u.chip = s.chip)
    (hstore : u.store = s.store) (hr : u.composer.running = s.composer.running)
    (hd : u.composer.deferred = s.composer.deferred) : settleWork u = u := by
  obtain ⟨-, -, -, hport⟩ := hs
  have hscan : u.store.port ≠ .free ∨ ∀ r, ¬Seeks u r := by
    rw [hstore]
    exact hport.imp_right fun hn r hseeks =>
      hn r (hseeks.congr hstore.symm (by rw [hchip]) (by rw [hchip]))
  rw [settleWork, settleComposer_of_busy (hb.of_running hchip hr hd), settleStore_of_no_seeks hscan]

end Busy

/-! ## The scrub tick and the drift save tick (R87, R108) -/

section Ticks

variable {s : State}

/-- R108: the tick's request makes SCRUB pending where it neither runs nor stands on the stack. -/
theorem requestScrub_eq (s : State) :
    requestScrub s = s.setComposer
      (if s.composer.runs .scrub = true ∨ s.composer.stacked .scrub = true then s.composer
        else { s.composer with scrubPending := true }) := by
  unfold requestScrub
  simp only [Bool.or_eq_true]
  split_ifs <;> rfl

theorem exec_scrubTick (hs : s.timebaseRuns = true) :
    exec .scrubTick s = .next (settleWork (requestScrub
      (s.setTimebase { s.timebase with scrub := s.settings.scrubInterval }))) :=
  congrArg Host.Outcome.next (if_pos hs)

/-- A SCRUB request of a busy composer waits for a later step. -/
theorem settleWork_requestScrub_of_busy (hs : Steady s) (hb : Busy s) (t : Timebase) :
    settleWork (requestScrub (s.setTimebase t)) = requestScrub (s.setTimebase t) := by
  rw [requestScrub_eq]
  refine settleWork_of_asked hs hb rfl rfl ?_ ?_ <;> split_ifs <;> rfl

/-- The state once the tick's counter stands anew and the drift save has been requested. -/
def saveTicked (s : State) : State :=
  (s.setTimebase
    { s.timebase with driftSave := 60000 * s.settings.driftSaveInterval }).setStore
    (saveAsked s.store)

theorem exec_driftSaveTick (hs : s.timebaseRuns = true) :
    exec .driftSaveTick s = .next (settleStore (saveTicked s)) := by
  refine congrArg Host.Outcome.next ((if_pos hs).trans ?_)
  rw [driftSaveTick, requestSave_false]
  rfl

/-- R54: at a free port with nothing else waiting the tick's save begins at once. -/
theorem settleStore_saveTicked (ho : OpenTo .driftSave s) :
    SaveGranted false s (settleStore (saveTicked s)) ∧
      KeepsBut [.store] (saveTicked s) (settleStore (saveTicked s)) :=
  ⟨settleStore_save rfl ho, settleStore_keeps (KeepsBut.refl _ _) (by simp)⟩

end Ticks

/-- Settles O11: the scrub tick's work is that of the state in which SCRUB has been asked for; the
drift save tick is its scan. -/
theorem scrubAndSaveTicks : Obligations.ScrubAndSaveTicks := by
  intro s hs
  refine ⟨.intro (exec_scrubTick hs) (.intro (requestScrub_eq _) fun hq hb => ?_),
    .intro (exec_driftSaveTick hs) (scanned_settleStore _),
    fun hport => .intro (exec_driftSaveTick hs) (settleStore_of_taken hport),
    fun hport hw hlength hmem => .intro (exec_driftSaveTick hs) ?_⟩
  · rw [settleWork_requestScrub_of_busy hq hb]
    exact requestScrub_eq _
  · obtain ⟨hgranted, hkeeps⟩ := settleStore_saveTicked ⟨hport, hw, hlength, hmem⟩
    have hwear : (settleStore (saveTicked s)).wear = s.wear := hkeeps .wear (by decide)
    unfold SaveGranted at hgranted
    rw [hwear] at hgranted
    refine ⟨by rw [hgranted], by rw [hgranted]; exact hw, by rw [hgranted], ?_,
      hkeeps .timebase (by decide), ?_⟩
    · rw [hgranted]
    · exact (setStore_keeps _ (setTimebase_keeps _ (KeepsBut.refl _ s) (by decide))
        (by decide)).trans (hkeeps.mono (by simp))

/-! ## A SET of a job level (R111) -/

section JobLevel

variable {v : Via (JobKind × U32)} {k : JobKind} {w : U32} {s : State}

/-- The body of a SET of a job level. -/
def jobLevelBody (p : JobKind × U32) : List Byte :=
  setBody 1 (BitVec.ofNat 8 (JobKind.code p.1)) p.2

theorem parseSet_jobLevel (k : JobKind) (w : U32) :
    parseSet (jobLevelBody (k, w)) = some (.jobLevel k w.toInt) := by
  have hk : jobKindOfCode (BitVec.ofNat 8 (JobKind.code k)).toNat = some k := by cases k <;> rfl
  rw [jobLevelBody, parseSet_body _ _ _ (by decide), hk]
  exact if_pos rfl

@[simp] theorem Levels.of_set_same (l : Levels) (k : JobKind) (n : Nat) :
    (l.set k n).of k = n := by cases k <;> rfl

theorem Levels.of_set_other (l : Levels) {j k : JobKind} (h : j ≠ k) (n : Nat) :
    (l.set k n).of j = l.of j := by
  cases k <;> cases j <;> first | rfl | exact absurd rfl h

/-- The state in which the kind has its new level. -/
def levelSet (k : JobKind) (n : Nat) (s : State) : State :=
  s.setComposer { s.composer with levels := s.composer.levels.set k n }

/-- R111: the kind has the level written, and nothing else is another. -/
theorem levelSet_writes (k : JobKind) {w : Int} (hw : 0 ≤ w) (s : State) :
    ((levelSet k w.toNat s).composer.levels.of k : Int) = w ∧
      (∀ j, j ≠ k → (levelSet k w.toNat s).composer.levels.of j = s.composer.levels.of j) ∧
      (levelSet k w.toNat s).composer =
        { s.composer with levels := (levelSet k w.toNat s).composer.levels } ∧
      KeepsBut [.composer] s (levelSet k w.toNat s) := by
  refine ⟨?_, fun j hj => Levels.of_set_other _ hj _, rfl,
    setComposer_keeps _ (KeepsBut.refl _ s) (by decide)⟩
  rw [levelSet, setComposer_composer, Levels.of_set_same]
  exact Int.toNat_of_nonneg hw

/-- The work that follows a new level is the same where the owner acts, but for the answer's part.
-/
theorem settleWork_levelSet_handledAt (v : Via (JobKind × U32)) (k : JobKind) (n : Nat)
    (s : State) :
    KeepsBut [answerPart v] (settleWork (levelSet k n s))
      (settleWork (levelSet k n (handledAt v s))) := by
  cases v with
  | port l =>
    have hset : ∀ p, levelSet k n (s.setLink l p) = (levelSet k n s).setLink l p := fun p => by
      cases l <;> rfl
    unfold handledAt beginPrompt
    dsimp only
    rw [hset, settleWork_setLink]
    exact setLink_keepsBut l _ _
  | tool tag b => exact KeepsBut.refl _ _

/-- A SET of a job level that its owner refuses. -/
theorem setJobLevel_refused {r : Result} (h : Asks v kindSet jobLevelBody (k, w) s)
    (hperform : setJobLevel k w.toInt (handledAt v s) = acted r (handledAt v s)) :
    RefusedBy (.setJobLevel v) v kindSet r s :=
  .intro rfl (set_refused h (parseSet_jobLevel k w) rfl rfl hperform)

/-- A level in range is written, and the decision and the scan follow with it. -/
theorem setJobLevel_taken (h : Asks v kindSet jobLevelBody (k, w) s)
    (hperform : setJobLevel k w.toInt (handledAt v s) =
      acted .done (settleWork (levelSet k w.toInt.toNat (handledAt v s)))) :
    Leads (.setJobLevel v) s fun t => Answered v kindSet .done s t ∧
      KeepsBut [answerPart v] (settleWork (levelSet k w.toInt.toNat s)) t := by
  obtain ⟨hanswer, hkeep⟩ := set_answers (ps := [.composer, .store, .driver, .thermal, .wear])
    (mine := Request.isJobLevel) (req := fun p => some (.set (.jobLevel p.1 (signed32 p.2))))
    h (parseSet_jobLevel k w) rfl rfl hperform
    (settleWork_keeps (setComposer_keeps _ (KeepsBut.refl _ _) (by simp)) (by simp)) (by decide)
  exact .intro rfl ⟨hanswer, (settleWork_levelSet_handledAt v k _ s).trans hkeep⟩

end JobLevel

/-- Settles O31: the refusals by the value; otherwise the level, and the same work behind it as from
the step's own state. -/
theorem jobLevelIsWritten : Obligations.JobLevelIsWritten := by
  intro v k w s h
  have hasks : Asks v kindSet jobLevelBody (k, w) s := h
  split_ifs with hbad hkept
  · exact setJobLevel_refused hasks (if_pos hbad)
  · exact setJobLevel_refused hasks ((if_neg hbad).trans (if_pos hkept))
  · refine (setJobLevel_taken hasks ((if_neg hbad).trans (if_neg hkept))).mono
      fun t ⟨ha, hkeep⟩ => ⟨settleWork (levelSet k w.toInt.toNat s), ?_, ha, hkeep⟩
    have hlevel := levelSet_writes k (w := w.toInt) (by omega) s
    refine .intro hlevel fun hq hb => ?_
    rw [settleWork_of_asked (u := levelSet k w.toInt.toNat s) hq hb rfl rfl rfl rfl]
    exact hlevel

end Sys2Proof.Machine
end

section
/-! The law of the sensor requests (R122): a request that is placed merges with an equal one or is
one more behind all others; a start or an end of a transaction only takes requests away (R123,
R128), and no other part of the 6C touches the bus. -/

namespace Sys2Proof.Machine

-- One proof after the other: side by side their threads want too much memory.
set_option Elab.async false

/-! ## The requests of the bus -/

/-- The request of the transaction in flight, then those that wait. -/
def State.busRequests (s : State) : List SensorRequest :=
  (s.sensors.inFlight.map (·.request)).toList ++ s.sensors.queue.map (·.request)

/-- The request names a sensor that exists. -/
def SensorRequest.Named (r : SensorRequest) : Prop := r.sensor ≤ 4 ∧ r ≠ .temp 4

theorem SensorRequest.Named.light (e : Emitter) : (SensorRequest.light e).Named :=
  ⟨le_refl 4, SensorRequest.noConfusion⟩

theorem SensorRequest.Named.temp {q : Nat} (h : q < 4) : (SensorRequest.temp q).Named :=
  ⟨h.le, fun he => h.ne (SensorRequest.temp.inj he)⟩

/-- From `s` to `t` no request comes to the bus: some stay, in their order. -/
def NoNewRequest (s t : State) : Prop := t.busRequests.Sublist s.busRequests

section SensorLaw

variable {s t u : State}

theorem sensorLaw_iff : SensorLaw s ↔ s.busRequests.Nodup ∧ ∀ r ∈ s.busRequests, r.Named := Iff.rfl

theorem SensorLaw.noNew (h : SensorLaw s) (k : NoNewRequest s t) : SensorLaw t := by
  obtain ⟨hdistinct, hnamed⟩ := sensorLaw_iff.mp h
  exact sensorLaw_iff.mpr ⟨hdistinct.sublist k, fun r hr => hnamed r (k.subset hr)⟩

theorem NoNewRequest.refl (s : State) : NoNewRequest s s := List.Sublist.refl _

theorem NoNewRequest.trans (h : NoNewRequest s t) (k : NoNewRequest t u) : NoNewRequest s u :=
  List.Sublist.trans k h

/-- A bus whose queue and transaction stand. -/
theorem NoNewRequest.of_eq (hq : t.sensors.queue = s.sensors.queue)
    (hi : t.sensors.inFlight = s.sensors.inFlight) : NoNewRequest s t := by
  unfold NoNewRequest State.busRequests
  rw [hq, hi]

theorem NoNewRequest.frame {ps : List Part} (h : NoNewRequest s t) (k : KeepsBut ps t u)
    (hp : .sensors ∉ ps := by decide) : NoNewRequest s u := by
  have hsensors : u.sensors = t.sensors := k .sensors hp
  exact h.trans (.of_eq (by rw [hsensors]) (by rw [hsensors]))

/-- A step outside the bus. -/
theorem KeepsBut.noNewRequest {ps : List Part} (k : KeepsBut ps s t)
    (hp : .sensors ∉ ps := by decide) : NoNewRequest s t := (NoNewRequest.refl s).frame k hp

theorem NoNewRequest.ite (p : Prop) [Decidable p] (ht : NoNewRequest s t)
    (hu : NoNewRequest s u) : NoNewRequest s (if p then t else u) := by
  split_ifs
  · exact ht
  · exact hu

/-- A reset leaves none. -/
theorem NoNewRequest.of_idle (h : BusIdle t) : NoNewRequest s t := by
  obtain ⟨hq, hi⟩ := h
  unfold NoNewRequest State.busRequests
  rw [hq, hi]
  exact List.nil_sublist _

/-! ## What follows inside a step -/

theorem settleWork_noNew (h : NoNewRequest s t) : NoNewRequest s (settleWork t) :=
  h.frame (settleWork_keeps (ps := [.composer, .store, .driver, .thermal, .wear])
    (KeepsBut.refl _ t) (by simp))

theorem settle_noNew (h : NoNewRequest s t) : NoNewRequest s (settle t) :=
  h.frame (settle_keeps (ps := [.composer, .store, .driver, .thermal, .wear, .render])
    (KeepsBut.refl _ t) (by simp))

theorem conclude_noNew (extra : List Cause) (before : State) (h : NoNewRequest s t) :
    NoNewRequest s (conclude extra before t) :=
  h.frame (conclude_keeps (ps := [.linkA, .linkB, .authority, .render]) extra before
    (KeepsBut.refl _ t) (by simp))

/-- The end of a step that may report. -/
theorem concludeSettle_noNew (extra : List Cause) (before : State) (h : NoNewRequest s t) :
    NoNewRequest s (conclude extra before (settle t)) :=
  conclude_noNew extra before (settle_noNew h)

theorem concludeSettle_sensorLaw (extra : List Cause) (before : State) (h : SensorLaw s) :
    SensorLaw (conclude extra before (settle s)) :=
  h.noNew (concludeSettle_noNew extra before (.refl s))

/-! ## Requests that are placed (R122) -/

/-- The entry that takes the requester keeps its request. -/
theorem request_merged (r : SensorRequest) (w : SensorUser) (e : QueuedRequest) :
    (if e.request = r then { e with requesters := addRequester w e.requesters } else e).request =
      e.request := by
  split_ifs <;> rfl

/-- R122: a request merges with an equal one, or, where none stands, is one more at the tail. -/
theorem busRequests_placeSensor (r : SensorRequest) (w : SensorUser) (s : State) :
    (placeSensor r w s).busRequests = s.busRequests ∨
      r ∉ s.busRequests ∧ (placeSensor r w s).busRequests = s.busRequests ++ [r] := by
  have hwaits : (s.sensors.queue.any fun e => e.request == r) = true ↔
      r ∈ s.sensors.queue.map (·.request) := by simp
  unfold placeSensor State.busRequests
  cases hi : s.sensors.inFlight with
  | none =>
    dsimp only
    split_ifs with hq
    · exact .inl (by simp [setSensorQueue, hi, request_merged])
    · exact .inr ⟨fun hr => hq (hwaits.mpr (by simpa using hr)), by simp [setSensorQueue, hi]⟩
  | some tr =>
    dsimp only
    split_ifs with htr hq
    · exact .inl rfl
    · exact .inl (by simp [setSensorQueue, hi, request_merged])
    · refine .inr ⟨fun hr => ?_, by simp [setSensorQueue, hi]⟩
      rcases List.mem_cons.mp hr with hr | hr
      · exact htr hr.symm
      · exact hq (hwaits.mpr hr)

theorem placeSensor_sensorLaw {r : SensorRequest} (w : SensorUser) (hr : r.Named)
    (h : SensorLaw s) : SensorLaw (placeSensor r w s) := by
  obtain ⟨hdistinct, hnamed⟩ := sensorLaw_iff.mp h
  rw [sensorLaw_iff]
  rcases busRequests_placeSensor r w s with he | ⟨hnew, he⟩
  · rw [he]
    exact ⟨hdistinct, hnamed⟩
  · rw [he]
    refine ⟨hdistinct.append (List.nodup_singleton r) (List.disjoint_singleton.mpr hnew),
      List.forall_mem_append.mpr ⟨hnamed, List.forall_mem_singleton.mpr hr⟩⟩

/-- R60: a round's requests, each for a sensor that exists. -/
theorem placeTemps_sensorLaw (qs : List Nat) (hqs : ∀ q ∈ qs, q < 4) (h : SensorLaw s) :
    SensorLaw (qs.foldl (fun s q => placeSensor (.temp q) .thermal s) s) := by
  induction qs generalizing s with
  | nil => exact h
  | cons q qs ih =>
    exact ih (fun p hp => hqs p (List.mem_cons_of_mem q hp))
      (placeSensor_sensorLaw _ (.temp (hqs q List.mem_cons_self)) h)

theorem joinRound_sensorLaw (m : RoundMark) (h : SensorLaw s) : SensorLaw (joinRound m s) := by
  have hpresent : ∀ q ∈ s.present, q < 4 := fun q hq =>
    List.mem_range.mp (List.mem_filter.mp hq).1
  unfold joinRound openRound
  split
  · exact h
  · dsimp only
    split_ifs
    · exact h.noNew (endRound_keeps (ps := [.thermal, .chip, .driver, .composer]) _
        (KeepsBut.refl _ s) (by simp)).noNewRequest
    · exact placeTemps_sensorLaw (s := setRound _ s) _ hpresent h

/-- R79, R130: the pilot sequence places its light read. -/
theorem beginRead_sensorLaw (e : Emitter) (h : SensorLaw s) : SensorLaw (beginRead e s) :=
  placeSensor_sensorLaw (s := s.setWear _) _ (.light e) h

/-! ## Transactions that start and end (R123 to R128) -/

/-- R128: a completion that is delivered places nothing. -/
theorem deliver_noNew (r : SensorRequest) (c : Completion) (us : List SensorUser) (s : State) :
    NoNewRequest s (deliver r c us s) :=
  (deliver_keeps (ps := [.thermal, .chip, .driver, .composer, .wear]) r c us (KeepsBut.refl _ s)
    (by simp)).noNewRequest

/-- R123: the oldest entry leaves the queue, for the bus or for a substitute. -/
theorem startTransactions_noNew (n : Nat) (s : State) : NoNewRequest s (startTransactions n s) := by
  induction n generalizing s with
  | zero => exact .refl s
  | succ n ih =>
    unfold startTransactions
    split
    · exact .refl s
    · exact .refl s
    · rename_i e rest hi hq
      dsimp only
      split_ifs
      · refine NoNewRequest.trans ?_ ((deliver_noNew e.request .missed e.requesters _).trans (ih _))
        unfold NoNewRequest State.busRequests
        rw [hi, hq]
        exact List.sublist_cons_self _ _
      · unfold NoNewRequest State.busRequests
        rw [hi, hq]
        exact List.Sublist.refl _

theorem startNext_noNew (s : State) : NoNewRequest s (startNext s) := startTransactions_noNew _ s

/-- A round joined or opened, and the transaction that then starts. -/
theorem startJoined_sensorLaw (m : RoundMark) (h : SensorLaw s) :
    SensorLaw (startNext (joinRound m s)) := (joinRound_sensorLaw m h).noNew (startNext_noNew _)

/-- R125: the request of the transaction that ends leaves the bus. -/
theorem endTransaction_noNew (tr : Transaction) (c : Completion) (s : State) :
    NoNewRequest s (endTransaction tr c s) := by
  have hended : NoNewRequest s
      (recordCompletion tr.request c (s.setSensors { s.sensors with inFlight := none })) :=
    List.sublist_append_right _ _
  exact hended.trans ((deliver_noNew _ _ _ _).trans (startNext_noNew _))

theorem sensorResponse_noNew (f : SensorFrame) (s : State) :
    NoNewRequest s (sensorResponse f s) := by
  refine .ite _ ?_ (.of_eq rfl rfl)
  split
  · exact .ite _ (endTransaction_noNew _ _ s) (.of_eq rfl rfl)
  · exact .of_eq rfl rfl

theorem sensorDeadline_noNew (s : State) : NoNewRequest s (sensorDeadline s) := by
  unfold sensorDeadline
  split
  · exact endTransaction_noNew _ _ s
  · exact .refl s

/-! ## Receipt (R155) -/

theorem receive_noNew (l : Link) (kind : Byte) (m : LinkUnit) (s : State) :
    NoNewRequest s (receive l kind m s) := by
  rcases receive_cases l kind m s with hk | ⟨-, he⟩ | ⟨-, he⟩
  · exact hk.noNewRequest
  · have hcounted : KeepsBut [.linkA, .linkB] s
        (if sequenceGap (s.link l).lastSequence (getU16 0 m.body) then
          setCounts l (fun k => { k with sequenceGaps := inc32 k.sequenceGaps }) s else s) := by
      split_ifs
      · exact setCounts_keeps l _ (KeepsBut.refl _ s) (by simp)
      · exact KeepsBut.refl _ s
    rw [he]
    exact concludeSettle_noNew _ _ (takeFrameHead_keeps
      (ps := [.linkA, .linkB, .authority, .composer, .render, .driver]) l
      (setLink_keeps l _ (hcounted.mono (by simp)) (by simp) (by simp)) (by simp)).noNewRequest
  · rw [he]
    rcases passRow_cases l m.body s with hk | ⟨y, pixels, hc⟩
    · exact hk.noNewRequest
    · rw [hc]
      exact .of_eq rfl rfl

/-- R139, R154: a link that goes DOWN. -/
theorem goDown_noNew (l : Link) (s : State) : NoNewRequest s (goDown l s) := by
  have hk : KeepsBut [.linkA, .linkB, .authority, .composer, .chip] s
      (s.setLink l (s.link l).dropped) :=
    setLink_keeps l _ (KeepsBut.refl _ s) (by decide) (by decide)
  refine settle_noNew (authorityDown_keeps
    (ps := [.linkA, .linkB, .authority, .composer, .chip]) l ?_ (by simp)).noNewRequest
  split_ifs
  · exact dueReset_keeps _ hk (by simp)
  · exact hk

theorem linkDown_noNew (l : Link) (s : State) : NoNewRequest s (linkDown l s) := by
  refine .ite _ (.refl s) ?_
  split
  · exact .refl s
  · exact (setLinkState_keeps (ps := [.linkA, .linkB]) l _ (KeepsBut.refl _ s)
      (by simp)).noNewRequest
  · exact conclude_noNew _ _ (goDown_noNew l s)
  · exact conclude_noNew _ _ (goDown_noNew l s)

/-! ## Requests of links and tools -/

/-- R129: a new sensor map withdraws no request. -/
theorem applySetting_noNew (x : Setting) (v : Int) (s : State) :
    NoNewRequest s (applySetting x v s) := by
  cases x with
  | holdTime =>
    exact settle_noNew (applyHoldTime_keeps
      (ps := [.linkA, .linkB, .authority, .composer, .settings]) _ (KeepsBut.refl _ s)
      (by simp)).noNewRequest
  | blankAfter =>
    exact settle_noNew (applyBlankAfter_keeps (ps := [.authority, .settings]) _
      (KeepsBut.refl _ s) (by simp)).noNewRequest
  | _ => exact .of_eq rfl rfl

theorem performSet_noNew (op : SetOp) (s : State) : NoNewRequest s (performSet op s).state := by
  cases op with
  | jobLevel k v =>
    unfold performSet setJobLevel
    dsimp only
    split_ifs
    · exact .refl s
    · exact .refl s
    · exact settleWork_noNew (.of_eq rfl rfl)
  | phaseTable t =>
    unfold performSet setPhaseTable
    dsimp only
    split_ifs <;> exact .of_eq rfl rfl
  | darkPolicy b v =>
    unfold performSet setDarkPolicy
    dsimp only
    split_ifs
    · exact .refl s
    · split <;> exact .of_eq rfl rfl
  | value x v =>
    unfold performSet setValue
    dsimp only
    split_ifs
    · exact .refl s
    · exact .refl s
    · exact applySetting_noNew _ _ s
    · exact applySetting_noNew _ _ s

theorem powerCommand_noNew (o : Origin) {f : State → State}
    (hf : KeepsBut [.chip, .store, .wear, .composer] s (f s)) :
    NoNewRequest s (powerCommand o f s).state := by
  unfold powerCommand
  split_ifs
  · exact settle_noNew hf.noNewRequest
  · exact .refl s

/-- The owner's rule of a request that links and tool share. -/
theorem perform_noNew (o : Origin) (r : Request) (s : State) :
    NoNewRequest s (perform o r s).state := by
  have hk : KeepsBut [.chip, .store, .wear, .composer] s s := KeepsBut.refl _ s
  cases r with
  | wall r =>
    cases o with
    | link l =>
      exact settleWork_noNew (storeRecord_keeps (ps := [.linkA, .linkB, .authority, .composer]) l _
        (KeepsBut.refl _ s) (by simp)).noNewRequest
    | tool => exact .refl s
  | take =>
    cases o with
    | link l =>
      unfold perform performTake takeCommand
      dsimp only
      split_ifs <;> exact .of_eq rfl rfl
    | tool => exact .refl s
  | dark => exact powerCommand_noNew o (commandDark_keeps hk (by simp))
  | light => exact powerCommand_noNew o (commandLight_keeps hk (by simp))
  | rest => exact powerCommand_noNew o (commandRest_keeps hk (by simp))
  | rebuild zs =>
    unfold perform performRebuild
    dsimp only
    split_ifs
    · exact .refl s
    · exact settleWork_noNew (.of_eq rfl rfl)
  | query q => exact .refl s
  | set op => exact performSet_noNew op s
  | close => exact .ite _ (.refl s) (settle_noNew (.of_eq rfl rfl))
  | reset => exact .refl s

theorem performTool_noNew (tag : Byte) (r : ToolRequest) (s : State) :
    NoNewRequest s (performTool tag r s).state := by
  have hk : KeepsBut [.wear, .store, .composer] s s := KeepsBut.refl _ s
  cases r with
  | shared r => exact perform_noNew .tool r s
  | block p =>
    unfold performTool toolBlock
    dsimp only
    split_ifs
    · exact (offerProgram_keeps _ _ s).noNewRequest
    · exact .refl s
  | identity fields =>
    unfold performTool toolIdentity
    dsimp only
    split_ifs
    · exact .refl s
    · exact (offerProgram_keeps _ _ s).noNewRequest
    · exact .refl s
  | trim codes => exact settleWork_noNew (setTrims_keeps codes hk (by simp)).noNewRequest
  | wearClear z => exact settleWork_noNew (clearWear_keeps z hk (by simp)).noNewRequest
  | bank es => exact (setBankModes_keeps es (KeepsBut.refl _ s)).noNewRequest
  | latch b v => exact .of_eq rfl rfl

theorem handleFrame_noNew (tag kind : Byte) (req : Option ToolRequest) (s : State) :
    NoNewRequest s (handleFrame tag kind req s) := by
  rcases handleFrame_cases tag kind req s with hk | ⟨r, -, he⟩
  · exact hk.noNewRequest
  · rw [he]
    exact (performTool_noNew tag r s).frame (answerTool_keeps _ _ _ _)

theorem promptStep_noNew (l : Link) (mine : Request → Bool) (s : State) :
    NoNewRequest s (promptStep l mine s) := by
  rcases promptStep_cases l mine s with he | ⟨m, rest, r, he⟩
  · rw [he]
    exact .refl s
  · have hbegun : NoNewRequest s (beginPrompt l rest s) :=
      (setLink_keeps (ps := [.linkA, .linkB]) l _ (KeepsBut.refl _ s) (by simp)
        (by simp)).noNewRequest
    rw [he]
    exact conclude_noNew _ _ ((hbegun.trans (perform_noNew (.link l) r _)).frame
      (handlePrompt_keeps l m rest r s))

theorem toolStep_noNew (tag kind : Byte) (req : Option ToolRequest) (s : State) :
    NoNewRequest s (toolStep tag kind req s) := by
  rcases toolStep_cases tag kind req s with he | he
  · rw [he]
    exact .refl s
  · rw [he]
    exact conclude_noNew _ _ (handleFrame_noNew tag kind req s)

theorem requestStep_noNew {α : Type} (v : Via α) (mine : Request → Bool) (kind : Byte)
    (req : α → Option Request) (s : State) : NoNewRequest s (requestStep v mine kind req s) := by
  cases v with
  | port l => exact promptStep_noNew l mine s
  | tool tag a => exact toolStep_noNew tag kind _ s

/-! ## The service line and the answers sent -/

theorem endFrame_noNew (buf : List Byte) (s : State) : NoNewRequest s (endFrame buf s) :=
  .ite _ (conclude_noNew _ _ (handleFrame_noNew _ _ _ (setReceiving none s))) (.of_eq rfl rfl)

theorem receiveByte_noNew (b : LineByte) (s : State) : NoNewRequest s (receiveByte b s) := by
  have hi : NoNewRequest s (s.setService { s.service with idle := 0 }) := .of_eq rfl rfl
  unfold receiveByte
  dsimp only
  split
  · exact .ite _ hi hi
  · exact .ite _ hi (.ite _ hi (.ite _ (hi.trans (endFrame_noNew _ _)) hi))

theorem receiveBytes_noNew (bytes : List LineByte) (s : State) :
    NoNewRequest s (bytes.foldl (fun s b => receiveByte b s) s) := by
  induction bytes generalizing s with
  | nil => exact .refl s
  | cons b bytes ih => exact (receiveByte_noNew b s).trans (ih _)

theorem sync_noNew (low : Nat) (s : State) : NoNewRequest s (sync low s) :=
  .ite _ (.ite _ (concludeSettle_noNew _ _ (reportSync_keeps (ps := [.chip, .composer, .service])
    (setService_keeps _ (KeepsBut.refl _ s) (by simp)) (by simp)).noNewRequest) (.of_eq rfl rfl))
    (.refl s)

theorem returnToSync_noNew (s : State) : NoNewRequest s (returnToSync s) :=
  (returnToSync_keeps (ps := [.service, .chip]) (KeepsBut.refl _ s) (by simp)).noNewRequest

theorem answerSent_noNew (who : Sender) (s : State) :
    Leads (.answerSent who) s (NoNewRequest s) := by
  cases who with
  | link l =>
    exact .intro rfl (.ite _ (linkSent_keeps (ps := [.linkA, .linkB, .chip]) l (KeepsBut.refl _ s)
      (by simp)).noNewRequest (.refl s))
  | service =>
    exact .intro rfl (.ite _ (serviceSent_keeps (ps := [.service, .chip]) (KeepsBut.refl _ s)
      (by simp)).noNewRequest (.refl s))

/-! ## Ticks and expiries that place nothing -/

theorem pilotTick_noNew (s : State) : NoNewRequest s (pilotTick s) :=
  settleWork_noNew (startSequence_keeps (ps := [.wear, .composer, .driver, .timebase])
    (setTimebase_keeps _ (KeepsBut.refl _ s) (by decide)) (by simp)).noNewRequest

theorem scrubTick_noNew (s : State) : NoNewRequest s (scrubTick s) :=
  settleWork_noNew (requestScrub_keeps (ps := [.composer, .timebase])
    (setTimebase_keeps _ (KeepsBut.refl _ s) (by decide)) (by simp)).noNewRequest

theorem driftSaveTick_noNew (s : State) : NoNewRequest s (driftSaveTick s) :=
  (settleStore_keeps (ps := [.timebase, .store]) (requestSave_keeps _ (setTimebase_keeps _
    (KeepsBut.refl _ s) (by decide)) (by simp)) (by simp)).noNewRequest

theorem ageExpiry_noNew (l : Link) (s : State) : NoNewRequest s (ageExpiry l s) :=
  .ite _ (concludeSettle_noNew _ _ (linkStale_keeps (ps := [.linkA, .linkB, .authority, .composer])
    l (setLink_keeps l _ (KeepsBut.refl _ s) (by decide) (by decide)) (by simp)).noNewRequest)
    (.refl s)

theorem blankAfterExpiry_noNew (s : State) : NoNewRequest s (blankAfterExpiry s) :=
  .ite _ (concludeSettle_noNew _ _ (.of_eq rfl rfl)) (.refl s)

/-! ## The ends of grants and jobs (R43, R45, R47, R55, R67, R99) -/

theorem blockReadDone_noNew (cells : Option Stored) (s : State) :
    NoNewRequest s (blockReadDone cells s) := by
  unfold blockReadDone
  split
  · exact settle_noNew (endBlockRead_keeps _ cells s).noNewRequest
  all_goals exact .refl s

/-- A program's completion reaches its requester, and the decision and the scan follow. -/
theorem programEnded_noNew (who : Requester) (ok : Bool) (h : NoNewRequest s t) :
    NoNewRequest s (settleWork (reportProgram who ok t)) :=
  settleWork_noNew (h.frame (reportProgram_keeps (ps := [.linkA, .linkB, .store, .service]) who ok
    (KeepsBut.refl _ t) (by simp)))

theorem blockProgramDone_noNew (cells : Option Stored) (s : State) :
    NoNewRequest s (blockProgramDone cells s) := by
  have hk : KeepsBut [.store, .composer] s s := KeepsBut.refl _ s
  unfold blockProgramDone
  split
  · exact programEnded_noNew _ _ (setPort_keeps _ (joinBuild_keeps _ (countProgramFailure_keeps _
      (setBlockState_keeps _ _ (setSlot_keeps _ _ hk (by simp)) (by simp)) (by simp)) (by simp))
      (by simp)).noNewRequest
  all_goals exact .refl s

theorem identityProgramDone_noNew (cells : Option Stored) (s : State) :
    NoNewRequest s (identityProgramDone cells s) := by
  have hk : KeepsBut [.store, .composer] s s := KeepsBut.refl _ s
  unfold identityProgramDone
  split
  · exact programEnded_noNew .service _ (setPort_keeps _ (joinAll_keeps
      (countProgramFailure_keeps _ (loadIdentity_keeps (setStore_keeps _ hk (by decide)) (by simp))
        (by simp)) (by simp)) (by simp)).noNewRequest
  all_goals exact .refl s

theorem driftSaveDone_noNew (cells : Option Stored) (s : State) :
    NoNewRequest s (driftSaveDone cells s) := by
  unfold driftSaveDone
  split
  · exact concludeSettle_noNew _ _ (.ite _ (enterRest_keeps
      (ps := [.chip, .driver, .composer, .store]) (setStore_keeps _ (KeepsBut.refl _ s)
        (by decide)) (by simp)).noNewRequest (.of_eq rfl rfl))
  all_goals exact .refl s

theorem thermalJobEnd_noNew (s : State) : NoNewRequest s (thermalJobEnd s) := by
  unfold thermalJobEnd
  split
  · exact .ite _ (.refl s) (settleWork_noNew (endThermal_keeps
      (ps := [.thermal, .wear, .composer]) _ (KeepsBut.refl _ s) (by simp)).noNewRequest)
  all_goals exact .refl s

theorem gainEnd_noNew (s : State) : NoNewRequest s (gainEnd s) := by
  unfold gainEnd
  split
  · exact .ite _ (.refl s) (concludeSettle_noNew _ _ (.of_eq rfl rfl))
  all_goals exact .refl s

/-! ## Resets (R121, R175) -/

theorem coldReset_noNew (pins : StrapPins) (s t : State) : NoNewRequest t (coldReset pins s) :=
  .of_idle ⟨rfl, rfl⟩

theorem clearWarm_noNew (s t : State) : NoNewRequest t (clearWarm s) := .of_idle ⟨rfl, rfl⟩

theorem resetPinRelease_noNew (pins : StrapPins) (s : State) :
    Leads (.resetPinRelease pins) s (NoNewRequest s) := by
  refine .intro rfl ?_
  split
  · exact coldReset_noNew _ _ s
  · exact clearWarm_noNew (setPinLow false s) s
  all_goals exact .of_eq rfl rfl

/-! ## The commands that place requests (R60, R68, R69, R79) -/

theorem startupChecksDone_sensorLaw (f : StoreFindings) (h : SensorLaw s) :
    SensorLaw (startupChecksDone f s) := by
  unfold startupChecksDone
  dsimp only
  split_ifs
  · exact concludeSettle_sensorLaw _ (checkedState f s) (startJoined_sensorLaw .start
      (h.noNew (checkedState_keeps f s).noNewRequest))
  · exact h

theorem thermalTick_sensorLaw (h : SensorLaw s) : SensorLaw (thermalTick s) :=
  concludeSettle_sensorLaw _ _ (startJoined_sensorLaw _ (s := (s.setTimebase _).setThermal _) h)

theorem restWakeExpiry_sensorLaw (h : SensorLaw s) : SensorLaw (restWakeExpiry s) := by
  unfold restWakeExpiry
  split_ifs
  · exact concludeSettle_sensorLaw _ _ (startJoined_sensorLaw _ (s := clearLoad (s.setChip _)) h)
  · exact h

theorem settleTimerExpiry_sensorLaw (h : SensorLaw s) : SensorLaw (settleTimerExpiry s) := by
  unfold settleTimerExpiry
  split
  · exact (beginRead_sensorLaw _ h).noNew (settle_noNew (startNext_noNew _))
  all_goals exact h

/-- A tick or an expiry of the timebase. -/
theorem onTick_sensorLaw {f : State → State} (hf : SensorLaw (f s)) (h : SensorLaw s) :
    SensorLaw (onTick f s) := by
  unfold onTick
  split_ifs
  · exact hf
  · exact h

/-! ## Every step -/

/-- The commands that may place requests on the bus. -/
def Places : Instr → Prop
  | .startupChecksDone _ | .thermalTick | .restWakeExpiry | .settleTimerExpiry => True
  | _ => False

/-- No other command does. -/
theorem leads_noNew (s : State) : ∀ c, ¬Places c → Leads c s (NoNewRequest s)
  | .startupChecksDone _, h | .thermalTick, h | .restWakeExpiry, h | .settleTimerExpiry, h =>
    absurd trivial h
  | .powerOn pins, _ =>
    .intro rfl (.ite _ (coldReset_noNew ⟨0, 0, false⟩ s s) (coldReset_noNew pins s s))
  | .resetPinRelease pins, _ => resetPinRelease_noNew pins s
  | .warmReset _, _ => .intro rfl (.ite _ (clearWarm_noNew s s) (.refl s))
  | .loadSample, _ =>
    .intro rfl (millisecond_keeps
      (ps := [.timebase, .authority, .linkA, .linkB, .wear, .driver]) (KeepsBut.refl _ s)
      (by simp)).noNewRequest
  | .pilotTick, _ => .intro rfl (.ite _ (pilotTick_noNew s) (.refl s))
  | .scrubTick, _ => .intro rfl (.ite _ (scrubTick_noNew s) (.refl s))
  | .reportTick, _ =>
    .intro rfl (.ite _ (conclude_noNew (t := s.setTimebase _) _ _ (.of_eq rfl rfl)) (.refl s))
  | .driftSaveTick, _ => .intro rfl (.ite _ (driftSaveTick_noNew s) (.refl s))
  | .primingTimerExpiry _, _ => .intro rfl (.ite _ (.of_eq rfl rfl) (.refl s))
  | .linkStale l, _ => .intro rfl (.ite _ (ageExpiry_noNew l s) (.refl s))
  | .blankAfterExpiry, _ => .intro rfl (.ite _ (blankAfterExpiry_noNew s) (.refl s))
  | .creditResendTimer l, _ =>
    .intro rfl (.ite _ (offerCredits_keeps (ps := [.linkA, .linkB]) l (KeepsBut.refl _ s)
      (by simp)).noNewRequest (.refl s))
  | .signalDetected l, _ =>
    .intro rfl (.ite _ (setLinkState_keeps (ps := [.linkA, .linkB]) l _ (KeepsBut.refl _ s)
      (by simp)).noNewRequest (.refl s))
  | .symbolLock l, _ =>
    .intro rfl (.ite _ (offerCredits_keeps (ps := [.linkA, .linkB]) l
      (setLinkState_keeps l _ (KeepsBut.refl _ s) (by simp)) (by simp)).noNewRequest (.refl s))
  | .linkDown l, _ => .intro rfl (linkDown_noNew l s)
  | .init l m, _ | .frameHead l m, _ | .row l m, _ | .promptMessageArrival l _ m, _
  | .block (.port l m), _ => .intro rfl (receive_noNew l _ m s)
  | .answerSent who, _ => answerSent_noNew who s
  | .unknownKind l, _ =>
    .intro rfl (refusePrompt_keeps (ps := [.linkA, .linkB]) l (KeepsBut.refl _ s)
      (by simp)).noNewRequest
  | .block (.tool _ _), _ => .intro rfl (toolStep_noNew _ _ _ s)
  | .wall l, _ | .take l, _ => .intro rfl (promptStep_noNew l _ s)
  | .dark v, _ | .light v, _ | .rest v, _ | .queryZoneStatus v, _ | .queryStoreStatus v, _
  | .queryThermalState v, _ | .queryWearState v, _ | .queryGainState v, _
  | .queryComposerState v, _ | .querySensorState v, _ | .queryAuthorityState v, _
  | .queryLinkState v, _ | .queryConfiguration v, _ | .close v, _ | .reset v, _ | .rebuild v, _
  | .setJobLevel v, _ | .setPhaseTable v, _ | .setDarkPolicy v, _ | .setHoldTime v, _
  | .setBlankAfter v, _ | .setThermalInterval v, _ | .setK v, _ | .setRho v, _ | .setFCap v, _
  | .setSensorMap v, _ | .setAssumedAmbient v, _ | .setPilotInterval v, _ | .setScrubInterval v, _
  | .setReportInterval v, _ | .setDriftSaveInterval v, _ | .setRestWakeInterval v, _ =>
    .intro rfl (requestStep_noNew v _ _ _ s)
  | .trim _ _, _ | .wearClear _ _, _ | .bank _ _, _ | .latch _ _ _, _ | .identity _ _, _ =>
    .intro rfl (toolStep_noNew _ _ _ s)
  | .sync low, _ => .intro rfl (sync_noNew low s)
  | .serviceFrame bytes, _ => .intro rfl (.ite _ (receiveBytes_noNew bytes s) (.refl s))
  | .serviceFrameTimeout, _ => .intro rfl (.ite _ (.of_eq rfl rfl) (.refl s))
  | .serviceBreak _, _ => .intro rfl (.ite _ (returnToSync_noNew s) (.refl s))
  | .idle, _ =>
    .intro rfl (.ite _ ((returnToSync_noNew s).trans (.of_eq rfl rfl)) (.refl s))
  | .sensorResponse f, _ =>
    .intro rfl (.ite _ (concludeSettle_noNew _ _ (sensorResponse_noNew f s)) (.refl s))
  | .sensorDeadline, _ =>
    .intro rfl (.ite _ (concludeSettle_noNew _ _ (sensorDeadline_noNew s)) (.refl s))
  | .blockReadDone cells, _ => .intro rfl (blockReadDone_noNew cells s)
  | .blockProgramDone cells, _ => .intro rfl (blockProgramDone_noNew cells s)
  | .identityProgramDone cells, _ => .intro rfl (identityProgramDone_noNew cells s)
  | .driftSaveDone cells, _ => .intro rfl (driftSaveDone_noNew cells s)
  | .thermalJobEnd, _ => .intro rfl (thermalJobEnd_noNew s)
  | .gainEnd, _ => .intro rfl (gainEnd_noNew s)
  | .resetPinDrivenLow, _ =>
    .intro rfl (.ite _ (clearWarm_noNew (setPinLow true s) s) (.of_eq rfl rfl))
  | .powerLoss, _ => .intro rfl (coldReset_noNew ⟨0, 0, false⟩ s s)

/-- Every command keeps the law: those that place requests place named ones, each merged with its
equal. -/
theorem leads_sensorLaw (h : SensorLaw s) (c : Instr) : Leads c s SensorLaw := by
  by_cases hp : Places c
  · cases c with
    | startupChecksDone f => exact .intro rfl (startupChecksDone_sensorLaw f h)
    | thermalTick => exact .intro rfl (onTick_sensorLaw (thermalTick_sensorLaw h) h)
    | restWakeExpiry => exact .intro rfl (restWakeExpiry_sensorLaw h)
    | settleTimerExpiry => exact .intro rfl (onTick_sensorLaw (settleTimerExpiry_sensorLaw h) h)
    | _ => exact hp.elim
  · exact (leads_noNew s c hp).mono fun _ => h.noNew

end SensorLaw

/-- Settles O53: on the front command by `leads_sensorLaw`; an idle second moves the wake counter
alone. -/
theorem sensorLawIsKept : Obligations.SensorLawIsKept := by
  intro s t h hs
  cases hp : s.pending with
  | nil =>
    rw [step_nil hp] at hs
    cases hs
    exact h.noNew (.ite _ (.of_eq rfl rfl) (.refl s))
  | cons c rest =>
    rw [step_cons hp] at hs
    exact (leads_sensorLaw (s := s.setPending rest) h c).of_exec hs

end Sys2Proof.Machine
end

section
/-! The end of a temperature transaction (R61, R62, R68, R69, R123 to R128, R178, R184 to R186): the
record, the open round without the sensor, the next transaction, and the end of the round by its
marks; and the health of a sensor with the temperature that a zone is assigned (R59, R127). -/

namespace Sys2Proof.Machine

-- One proof after the other: side by side their threads want too much memory.
set_option Elab.async false

section Temperature

variable {s u : State} {q : Nat} {c : Completion} {r : Round} {row : Instr} {tr : Transaction}

/-! ## Sensor health and the sensor of a zone (R59, R127) -/

theorem healthOfMisses_eq (n : Nat) :
    healthOfMisses n = if 3 ≤ n then .lost else if n = 0 then .live else .suspect := by
  match n with
  | 0 | 1 | 2 => rfl
  | n + 3 => simp [healthOfMisses]

theorem tempHealth_eq (q : Nat) (s : State) :
    s.tempHealth q =
      if q ∉ s.settings.sensorMap then .absent
      else if (s.tempRecord q).reading = none ∨ 3 ≤ (s.tempRecord q).misses then .lost
      else if (s.tempRecord q).misses = 0 then .live else .suspect := by
  unfold State.tempHealth
  rw [healthOfMisses_eq]
  by_cases hr : (s.tempRecord q).reading = none <;> simp [hr]

theorem sensorUsable_eq (q : Nat) (s : State) :
    s.sensorUsable q = (decide (s.tempHealth q = .live) || decide (s.tempHealth q = .suspect)) := by
  unfold State.sensorUsable
  cases s.tempHealth q <;> rfl

/-- R127: a usable sensor holds a reading. -/
theorem reading_of_usable (h : s.sensorUsable q = true) :
    ∃ t, (s.tempRecord q).reading = some t := by
  refine Option.ne_none_iff_exists'.mp fun hn => ?_
  have hlost : s.tempHealth q = .absent ∨ s.tempHealth q = .lost := by
    by_cases hm : q ∉ s.settings.sensorMap
    · exact .inl (if_pos hm)
    · exact .inr ((if_neg hm).trans (if_pos hn))
  unfold State.sensorUsable at h
  rcases hlost with hlost | hlost
  · rw [hlost] at h
    exact Bool.false_ne_true h
  · rw [hlost] at h
    exact Bool.false_ne_true h

/-- R1: the quadrant of a zone, from its row and its column. -/
theorem quadrantOf_eq (z : Nat) : quadrantOf z = 2 * (z / 8) + z % 4 / 2 := by
  unfold quadrantOf
  omega

/-- The readings that the usable sensors hold. -/
def State.usableReadings (s : State) : List Int :=
  (List.range 4).filterMap fun q => if s.sensorUsable q then (s.tempRecord q).reading else none

theorem usableReadings_eq (s : State) :
    s.usableReadings =
      ((List.range 4).filter s.sensorUsable).map fun q => (s.tempRecord q).reading.getD 0 := by
  unfold State.usableReadings
  induction List.range 4 with
  | nil => rfl
  | cons q qs ih =>
    cases hu : s.sensorUsable q with
    | false => simp [hu, ih]
    | true =>
      obtain ⟨t, ht⟩ := reading_of_usable hu
      simp [hu, ht, ih]

theorem sensed_of_usable {z : Nat} (h : s.sensorUsable (quadrantOf z) = true) :
    ∃ t, (s.tempRecord (quadrantOf z)).reading = some t ∧ s.sensed z = (t, .quadrant) := by
  obtain ⟨t, ht⟩ := reading_of_usable h
  refine ⟨t, ht, ?_⟩
  unfold State.sensed
  dsimp only
  rw [if_pos h, ht]
  rfl

/-- R59: without the quadrant's sensor, the mean of the usable readings, or the assumed ambient. -/
theorem sensed_of_unusable {z : Nat} (h : s.sensorUsable (quadrantOf z) = false) :
    s.sensed z =
      if s.usableReadings = [] then (s.settings.assumedAmbient, .ambient)
      else (s.usableReadings.sum / (s.usableReadings.length : Int), .mean) := by
  unfold State.sensed
  dsimp only
  rw [if_neg (Bool.eq_false_iff.mp h), usableReadings_eq, List.length_map]
  simp only [List.map_eq_nil_iff]

/-- The mean is rounded down. -/
theorem floor_mean {l : List Int} (h : l ≠ []) :
    l.sum / (l.length : Int) * l.length ≤ l.sum ∧
      l.sum < (l.sum / (l.length : Int) + 1) * l.length := by
  have hpos : (0 : Int) < (l.length : Int) := by exact_mod_cast List.length_pos_iff.mpr h
  exact ⟨Int.ediv_mul_le _ hpos.ne', Int.lt_ediv_add_one_mul_self _ hpos⟩

/-- R59: the three ways a zone is assigned its temperature, with the usable sensors told by their
health. -/
theorem sensed_cases (z : Nat) (s : State) :
    let own := 2 * (z / 8) + z % 4 / 2
    let usable (q : Nat) : Bool :=
      decide (s.tempHealth q = .live) || decide (s.tempHealth q = .suspect)
    let held := [0, 1, 2, 3].filterMap fun q =>
      if usable q then (s.tempRecord q).reading else none
    (usable own = true → ∃ t, (s.tempRecord own).reading = some t ∧
      s.sensed z = (t, .quadrant)) ∧
    (usable own = false → held ≠ [] → ∃ mean : Int, s.sensed z = (mean, .mean) ∧
      mean * held.length ≤ held.sum ∧ held.sum < (mean + 1) * held.length) ∧
    (usable own = false → held = [] → s.sensed z = (s.settings.assumedAmbient, .ambient)) := by
  have hheld : ([0, 1, 2, 3].filterMap fun q =>
      if s.sensorUsable q then (s.tempRecord q).reading else none) = s.usableReadings := rfl
  simp only [← sensorUsable_eq, ← quadrantOf_eq, hheld]
  refine ⟨sensed_of_usable, fun hown hne => ?_, fun hown hnone => ?_⟩
  · exact ⟨_, (sensed_of_unusable hown).trans (if_neg hne), floor_mean hne⟩
  · exact (sensed_of_unusable hown).trans (if_pos hnone)

/-! ## The record and the delivery (R124, R125, R127, R128) -/

/-- R127: the bus once a transaction of temperature sensor `q` has ended. -/
def tempSensors (q : Nat) (c : Completion) (n : Sensors) : Sensors :=
  { n with
    inFlight := none
    temps := n.temps.modify q fun k =>
      ⟨missCount c k.misses, match c with | .good v => some v | .bad | .missed => k.reading⟩
    counts := n.counts.modify q (countsAfter c) }

/-- The state in which the completion is delivered. -/
def tempRecorded (q : Nat) (c : Completion) (s : State) : State :=
  s.setSensors (tempSensors q c s.sensors)

theorem recordCompletion_temp (q : Nat) (c : Completion) (s : State) :
    recordCompletion (.temp q) c (s.setSensors { s.sensors with inFlight := none }) =
      tempRecorded q c s := by
  cases c <;> rfl

theorem endTransaction_temp (hr : tr.request = .temp q) (hw : tr.requesters = [.thermal]) :
    endTransaction tr c s = startNext (tempCompletion q (tempRecorded q c s)) := by
  rw [endTransaction, hr, hw, recordCompletion_temp]
  rfl

/-- R124: a temperature response that passes its check is classified by its flag and its range. -/
theorem exec_endsWith_temp (hl : s.live = true) (h : EndsWith row tr c s)
    (hr : tr.request = .temp q) (hw : tr.requesters = [.thermal]) :
    exec row s = .next (conclude [] s
      (settle (startNext (tempCompletion q (tempRecorded q c s))))) := by
  have hevent : ∀ {f : State → State}, f s = endTransaction tr c s → onSensor f s =
      conclude [] s (settle (startNext (tempCompletion q (tempRecorded q c s)))) := fun hf => by
    rw [onSensor, if_pos hl, hf, endTransaction_temp hr hw]
  obtain ⟨hi, ⟨rfl, rfl⟩ | ⟨f, rfl, hok, htag, hc⟩⟩ := h
  · refine congrArg Host.Outcome.next (hevent ?_)
    rw [sensorDeadline, hi]
  · refine congrArg Host.Outcome.next (hevent ?_)
    have hclass : classify tr.request f = c := by
      rw [hr] at hc ⊢
      rw [hc, classify]
      cases f.failed <;> simp
    simp only [sensorResponse, if_pos hok, hi, if_pos htag, hclass]

/-! ## The round that the completion meets (R61, R62) -/

theorem tempCompletion_of_none (h : s.thermal.round = none) : tempCompletion q s = s := by
  unfold tempCompletion
  rw [h]

/-- R61: the open round loses the sensor and goes on. -/
theorem tempCompletion_of_more (h : s.thermal.round = some r) (hq : q ∈ r.owed)
    (hmore : r.owed.filter (· ≠ q) ≠ []) :
    tempCompletion q s = setRound (some { r with owed := r.owed.filter (· ≠ q) }) s := by
  unfold tempCompletion
  rw [h]
  simp only [List.contains_eq_mem, hq, decide_true, if_true, List.isEmpty_iff, if_neg hmore]

/-- R62: with its last owed sensor the round ends by its marks. -/
theorem tempCompletion_of_last (h : s.thermal.round = some r) (hq : q ∈ r.owed)
    (hlast : r.owed.filter (· ≠ q) = []) : tempCompletion q s = endRound r s := by
  unfold tempCompletion
  rw [h]
  simp only [List.contains_eq_mem, hq, decide_true, if_true, List.isEmpty_iff, if_pos hlast]
  rfl

/-! ## The marks of a round that ends (R62, R68, R69, R107) -/

/-- R62, R107: what the composer holds behind a round with or without the THERMAL mark. -/
def roundAsked (mark : Bool) (k : Composer) : Composer :=
  { k with thermalPending := k.thermalPending || (mark && !k.runs .thermal) }

theorem requestThermal_of_mark (mark : Bool) (s : State) :
    (if mark = true then requestThermal s else s) = s.setComposer (roundAsked mark s.composer) := by
  have hcomposer : requestThermal s = s.setComposer (requestThermal s).composer := by
    unfold requestThermal
    split_ifs <;> rfl
  cases mark with
  | true =>
    rw [if_pos rfl, hcomposer, requestThermal_composer]
    rfl
  | false =>
    rw [if_neg Bool.false_ne_true, roundAsked, Bool.false_and, Bool.or_false]
    rfl

/-- Every zone's assigned sensor temperature. -/
def State.sensedZones (s : State) : List Int := (List.range 16).map fun z => (s.sensed z).1

/-- R68: on a cold start-up every zone takes its assigned temperature. -/
theorem endStartRound_eq (s : State) :
    endStartRound s =
      (s.setThermal
        { s.thermal with
          temps := if s.chip.coldStart = true then s.sensedZones else s.thermal.temps }).setChip
        { s.chip with phase := .running, coldStart := false } := by
  unfold endStartRound
  by_cases hc : s.chip.coldStart = true
  · simp only [if_pos hc]
    rfl
  · simp only [if_neg hc]
    rfl

/-- R69: the estimator once the SAMPLE mark has acted. -/
def sampledThermal (s : State) : Thermal :=
  { s.thermal with
    round := none, ticks := 0, temps := s.sensedZones
    sampleAfterTake := s.thermal.sampleAfterTake || s.composer.runs .thermal }

/-- R184, R185: with no command held the part stays in REST, its pilot emitters dark. -/
theorem enterRest_of_none (h : s.chip.held = .none) :
    enterRest s = stayInRest (setPilotDrive Rgb.zero s) := by
  unfold enterRest
  rw [h]

/-- R186: with a command held it leaves the rest in the same step. -/
theorem enterRest_of_held {p : PowerState}
    (h : s.chip.held = .light ∧ p = .run ∨ s.chip.held = .dark ∧ p = .dark) :
    enterRest s = leaveRest p (setPilotDrive Rgb.zero s) := by
  unfold enterRest
  rcases h with ⟨h, rfl⟩ | ⟨h, rfl⟩
  · rw [h]
  · rw [h]

/-! ## The state that the round's end leaves -/

/-- The record is in, the estimator stands at `v`, and what the round's mark asks is asked. -/
def roundEnded (q : Nat) (c : Completion) (mark : Bool) (v : Thermal) (s : State) : State :=
  ((tempRecorded q c s).setThermal v).setComposer (roundAsked mark s.composer)

theorem roundEnded_keeps (mark : Bool) (v : Thermal) :
    KeepsBut [.sensors, .thermal, .composer] s (roundEnded q c mark v s) :=
  setComposer_keeps _ (setThermal_keeps _ (setSensors_keeps _ (KeepsBut.refl _ s) (by decide))
    (by decide)) (by decide)

/-- The state once the START mark has acted: start-up has ended, and on a cold one every zone has
its assigned temperature. -/
def startEnded (q : Nat) (c : Completion) (mark : Bool) (s : State) : State :=
  (roundEnded q c mark
    { s.thermal with
      round := none
      temps :=
        if s.chip.coldStart = true then (tempRecorded q c s).sensedZones else s.thermal.temps }
    s).setChip { s.chip with phase := .running, coldStart := false }

theorem startEnded_keeps (mark : Bool) :
    KeepsBut [.sensors, .thermal, .chip, .composer] s (startEnded q c mark s) :=
  setChip_keeps _ ((roundEnded_keeps mark _).mono (by simp)) (by decide)

/-- The state once the SAMPLE mark has acted: sampled, and the pilot emitters dark. -/
def sampleEnded (q : Nat) (c : Completion) (mark : Bool) (s : State) : State :=
  setPilotDrive Rgb.zero (roundEnded q c mark (sampledThermal (tempRecorded q c s)) s)

theorem sampleEnded_keeps (mark : Bool) :
    KeepsBut [.sensors, .thermal, .composer, .driver] s (sampleEnded q c mark s) :=
  setPilotDrive_keeps _ ((roundEnded_keeps mark _).mono (by simp)) (by simp)

/-! ## The end of a round by its marks (R62) -/

/-- A round without START and SAMPLE ends with its request alone. -/
theorem endRound_plain (hstart : r.start = false) (hsample : r.sample = false) :
    endRound r (tempRecorded q c s) =
      roundEnded q c r.thermal { s.thermal with round := none } s := by
  unfold endRound
  simp only [hstart, hsample, Bool.false_eq_true, if_false]
  exact requestThermal_of_mark _ _

/-- R68, R178: a round with the START mark ends start-up. -/
theorem endRound_start (hstart : r.start = true) (hsample : r.sample = false) :
    endRound r (tempRecorded q c s) = startEnded q c r.thermal s := by
  unfold endRound
  simp only [hstart, hsample, Bool.false_eq_true, if_true, if_false]
  rw [requestThermal_of_mark, endStartRound_eq]
  rfl

/-- R69, R185: a round with the SAMPLE mark ends the sample. -/
theorem endRound_sample (hstart : r.start = false) (hsample : r.sample = true)
    (hp : s.chip.power = .restSample) :
    endRound r s =
      (enterRest (s.setThermal (sampledThermal s))).setComposer
        (roundAsked r.thermal (enterRest (s.setThermal (sampledThermal s))).composer) := by
  have hreported : endSampleRound (setRound none s) =
      enterRest (s.setThermal (sampledThermal s)) := if_pos hp
  unfold endRound
  simp only [hstart, hsample, Bool.false_eq_true, if_true, if_false]
  rw [requestThermal_of_mark, hreported]

/-- R184: with no command held the part stays in REST. -/
theorem endRound_rests (hstart : r.start = false) (hsample : r.sample = true)
    (hp : s.chip.power = .restSample) (hheld : s.chip.held = .none) :
    endRound r (tempRecorded q c s) = stayInRest (sampleEnded q c r.thermal s) := by
  rw [endRound_sample (s := tempRecorded q c s) hstart hsample hp,
    enterRest_of_none (s := (tempRecorded q c s).setThermal _) hheld]
  rfl

/-- R186: with a command held the part leaves the rest. -/
theorem endRound_leaves {p : PowerState} (hstart : r.start = false) (hsample : r.sample = true)
    (hp : s.chip.power = .restSample)
    (hheld : s.chip.held = .light ∧ p = .run ∨ s.chip.held = .dark ∧ p = .dark) :
    endRound r (tempRecorded q c s) = leaveRest p (sampleEnded q c r.thermal s) := by
  rw [endRound_sample (s := tempRecorded q c s) hstart hsample hp,
    enterRest_of_held (s := (tempRecorded q c s).setThermal _) hheld]
  rfl

/-- With an empty queue no transaction starts behind the end of the round. -/
theorem startNext_roundEnds (h : s.sensors.queue = []) (hround : s.thermal.round = some r)
    (hq : q ∈ r.owed) (hlast : r.owed.filter (· ≠ q) = []) :
    startNext (tempCompletion q (tempRecorded q c s)) = endRound r (tempRecorded q c s) := by
  have hsensors : (endRound r (tempRecorded q c s)).sensors = tempSensors q c s.sensors :=
    endRound_keeps (ps := [.thermal, .chip, .driver, .composer]) _
      (KeepsBut.refl _ (tempRecorded q c s)) (by simp) .sensors (by decide)
  rw [tempCompletion_of_last (s := tempRecorded q c s) hround hq hlast]
  exact startNext_of_empty (by rw [hsensors]; exact h)

/-! ## What keeps a state steady -/

/-- A stopped composer's own request takes part in no scan. -/
theorem Seeks.of_stopped {x : Requester} (h : Seeks u x) (hc : u.composerStopped = true)
    (hs : u.store = s.store) : Seeks s x := by
  cases x with
  | composer => exact absurd (h.2.symm.trans hc) Bool.false_ne_true
  | _ =>
    unfold Seeks at h ⊢
    rw [← hs]
    exact h

/-- R15: the banks stand in REST as they stood in REST_SAMPLE. -/
theorem settleBanks_stayInRest (hp : s.chip.power = .restSample) :
    settleBanks (stayInRest s) = stayInRest (settleBanks s) := by
  unfold settleBanks forgetRows primeBanks stayInRest State.carries State.bank State.height
  simp only [setChip_chip, setDriver_chip, setChip_driver, setDriver_driver, hp, darkHeld]
  rfl

/-- A steady part stays steady where its sample ends in REST, whatever the round has left of the
bus, the estimator and the composer's request. -/
theorem Steady.stays_in_rest (h : Steady s) (hp : s.chip.power = .restSample)
    (k : KeepsBut [.sensors, .thermal, .composer, .driver] s u)
    (hd : u.driver = { s.driver with pilotDrive := u.driver.pilotDrive })
    (hdeferred : u.composer.deferred = s.composer.deferred)
    (hst : u.composer.staging = s.composer.staging) : Steady (stayInRest u) := by
  obtain ⟨hn, hbanks, hforce, hseeks⟩ := h
  have hchip : u.chip = s.chip := k.chip_eq (by decide)
  have hrender : u.render = s.render := k.render_eq (by decide)
  have hstopped : (stayInRest u).composerStopped = true := Bool.or_true _
  refine ⟨.inl ⟨hdeferred.trans hn.deferred, .inl hstopped⟩, ?_, .inr ?_, ?_⟩
  · rw [settleBanks_stayInRest (by rw [hchip]; exact hp),
      settleBanks_of_pilotDrive hchip (k.authority_eq (by decide)) hd, hbanks, ← hd]
    rfl
  · have hdark : ¬s.isRendering = true := by simp [State.isRendering, hp]
    obtain ⟨hstaged, hgain⟩ := hforce.resolve_left hdark
    exact ⟨fun z => hst ▸ hstaged z, (congrArg Render.pendingGain hrender).trans hgain⟩
  · have hstore : (stayInRest u).store = s.store := k .store (by decide)
    rw [hstore]
    exact hseeks.imp_right fun hno x hx => hno x (hx.of_stopped hstopped hstore)

/-! ## The ends of a temperature transaction -/

/-- An event that leaves the composer and the chip alone asks nothing of them. -/
theorem temperatureEvent_quiet {P : State → Prop}
    (he : exec row s = .next (conclude [] s (settle u))) (k : KeepsBut [.sensors, .thermal] s u)
    (hp : P u) : Leads row s (QuietFrom s P) := by
  have hsettle : KeepsBut
      [.sensors, .thermal, .composer, .store, .driver, .wear, .render] s (settle u) :=
    settle_keeps (k.mono (by simp)) (by simp)
  rw [conclude_of_kept hsettle (by decide) (by decide)] at he
  exact .intro he (.intro hp fun hq =>
    hq.through_quiet_tick (k.mono (by simp [tickParts])) (k .composer (by decide)))

/-- R61, R123: the round goes on without the sensor, and the next entry starts. -/
theorem temperatureEnds_next {e : QueuedRequest} {rest : List QueuedRequest}
    (he : exec row s = .next (conclude [] s
      (settle (startNext (tempCompletion q (tempRecorded q c s))))))
    (hqueue : s.sensors.queue = e :: rest)
    (hpresent : ∀ p, e.request = .temp p → p ∈ s.settings.sensorMap)
    (hround : s.thermal.round = some r) (hq : q ∈ r.owed)
    (hmore : r.owed.filter (· ≠ q) ≠ []) :
    Leads row s (QuietFrom s fun u =>
      u.sensors =
        { tempSensors q c s.sensors with
          queue := rest, inFlight := some ⟨e.request, e.requesters, s.sensors.tag, 5⟩
          tag := (s.sensors.tag + 1) % 16 } ∧
      u.thermal = { s.thermal with round := some { r with owed := r.owed.filter (· ≠ q) } } ∧
      KeepsBut [.sensors, .thermal] s u) := by
  have hthere : ∀ w : State, w.settings = s.settings → w.absentFor e.request = false := by
    intro w hw
    cases hreq : e.request with
    | light f => rfl
    | temp p => exact absentFor_of_mem (by rw [hw]; exact hpresent p hreq)
  rw [tempCompletion_of_more (s := tempRecorded q c s) hround hq hmore,
    startNext_of_present (s := setRound _ (tempRecorded q c s)) rfl hqueue (hthere _ rfl)] at he
  have hk : ∀ n, KeepsBut [.sensors, .thermal] s ((setRound
      (some { r with owed := r.owed.filter (· ≠ q) }) (tempRecorded q c s)).setSensors n) :=
    fun n => setSensors_keeps _ (setRound_keeps _ (setSensors_keeps _ (KeepsBut.refl _ s)
      (by decide)) (by simp)) (by decide)
  exact temperatureEvent_quiet he (hk _) ⟨rfl, rfl, hk _⟩

/-- A completion that no round waits for changes the record alone. -/
theorem temperatureEnds_alone
    (he : exec row s = .next (conclude [] s
      (settle (startNext (tempCompletion q (tempRecorded q c s))))))
    (hqueue : s.sensors.queue = []) (hround : s.thermal.round = none) :
    Leads row s (QuietFrom s fun u => u = tempRecorded q c s) := by
  rw [tempCompletion_of_none (s := tempRecorded q c s) hround,
    startNext_of_empty (s := tempRecorded q c s) hqueue] at he
  have hk : KeepsBut [.sensors] s (tempRecorded q c s) :=
    setSensors_keeps _ (KeepsBut.refl _ s) (by decide)
  exact temperatureEvent_quiet he (hk.mono (by simp)) rfl

/-- The end of start-up is a report's one cause (R147). -/
theorem causesOf_phase {d : State} (ha : d.authority = s.authority)
    (hp : d.chip.phase ≠ s.chip.phase) : causesOf [] s d = [.power] := by
  simp [causesOf, ha, hp.symm]

section RoundEnds

variable (hqueue : s.sensors.queue = []) (hround : s.thermal.round = some r)
  (hq : q ∈ r.owed) (hlast : r.owed.filter (· ≠ q) = [])
  (he : exec row s = .next (conclude [] s
    (settle (startNext (tempCompletion q (tempRecorded q c s))))))

include hqueue hround hq hlast he

/-- R62: the round's end, and nothing that starts behind it. -/
theorem exec_roundEnds :
    exec row s = .next (conclude [] s (settle (endRound r (tempRecorded q c s)))) := by
  rw [he, startNext_roundEnds hqueue hround hq hlast]

/-- A round without START and SAMPLE ends with its THERMAL request, if it carries one. -/
theorem temperatureEnds_plain {P : State → Prop} (hstart : r.start = false)
    (hsample : r.sample = false)
    (hP : P (roundEnded q c r.thermal { s.thermal with round := none } s)) :
    Leads row s (SettledFrom s P) := by
  have hexec := exec_roundEnds hqueue hround hq hlast he
  rw [endRound_plain hstart hsample] at hexec
  have hk := roundEnded_keeps (s := s) (q := q) (c := c) r.thermal { s.thermal with round := none }
  have hsettle : KeepsBut
      [.sensors, .thermal, .composer, .store, .driver, .wear, .render] s
      (settle (roundEnded q c r.thermal { s.thermal with round := none } s)) :=
    settle_keeps (hk.mono (by simp)) (by simp)
  refine .intro (hexec.trans (congrArg _ (conclude_of_kept hsettle (by decide) (by decide))))
    (.intro hP fun hs hb => ?_)
  have hbusy : Busy (roundEnded q c r.thermal { s.thermal with round := none } s) :=
    hb.of_running rfl rfl rfl
  rw [settle_of_steady (hs.through_tick (hk.mono (by simp [tickParts])) (.inl hbusy) rfl)]
  exact hP

/-- R68, R178: a round with the START mark ends start-up, with a report. -/
theorem temperatureEnds_start {P : State → Prop} (hstart : r.start = true)
    (hsample : r.sample = false) (hphase : s.chip.phase = .polling)
    (hP : P (startEnded q c r.thermal s)) :
    LeadsReporting row s [.power] (Settled P) := by
  have hexec := exec_roundEnds hqueue hround hq hlast he
  rw [endRound_start hstart hsample] at hexec
  refine .intro hexec (causesOf_phase ?_ ?_) (.intro hP)
  · exact settle_authority (startEnded_keeps r.thermal) (by decide)
  · rw [settle_chip, hphase]
    exact Phase.noConfusion

/-- R69, R184, R185: a round with the SAMPLE mark, and no command held: REST, with a report. -/
theorem temperatureEnds_rests {P : State → Prop} (hstart : r.start = false)
    (hsample : r.sample = true) (hp : s.chip.power = .restSample) (hheld : s.chip.held = .none)
    (hP : P (stayInRest (sampleEnded q c r.thermal s))) :
    LeadsReporting row s [.power] (QuietFrom s P) := by
  have hexec := exec_roundEnds hqueue hround hq hlast he
  rw [endRound_rests hstart hsample hp hheld] at hexec
  have hk := sampleEnded_keeps (s := s) (q := q) (c := c) r.thermal
  refine .intro hexec (causesOf_power ?_ ?_)
    (.intro hP fun hs => hs.stays_in_rest hp hk rfl rfl rfl)
  · exact settle_authority (ps := [.sensors, .thermal, .composer, .driver, .chip])
      (stayInRest_keeps (hk.mono (by simp)) (by simp)) (by decide)
  · rw [settle_chip, hp]
    exact PowerState.noConfusion

/-- R185, R186: the same with a command held: the part leaves the rest. -/
theorem temperatureEnds_leaves {p : PowerState} (hstart : r.start = false)
    (hsample : r.sample = true) (hp : s.chip.power = .restSample)
    (hheld : s.chip.held = .light ∧ p = .run ∨ s.chip.held = .dark ∧ p = .dark) :
    LeadsReporting row s [.power] (LeavesRest p (sampleEnded q c r.thermal s)) := by
  have hexec := exec_roundEnds hqueue hround hq hlast he
  rw [endRound_leaves hstart hsample hp hheld] at hexec
  have hk := sampleEnded_keeps (s := s) (q := q) (c := c) r.thermal
  refine .intro hexec (causesOf_power ?_ ?_) (leavesRest_leaveRest p (sampleEnded q c r.thermal s))
  · exact settle_authority (ps := [.sensors, .thermal, .composer, .driver, .chip])
      (leaveRest_keeps p (hk.mono (by simp)) (by simp)) (by decide)
  · rw [settle_chip, hp]
    rcases hheld with ⟨-, rfl⟩ | ⟨-, rfl⟩
    · exact PowerState.noConfusion
    · exact PowerState.noConfusion

end RoundEnds

end Temperature

/-! ## The statement -/

/-- Settles O40: the ways a transaction ends by the queue and the open round, and the end of a round
by its marks; a sensor's health and a zone's temperature by their own lemmas. -/
theorem temperatureCompletions : Obligations.TemperatureCompletions := by
  refine ⟨fun row tr c q s hl hrow hr hw => ?_, tempHealth_eq, fun z _ s => sensed_cases z s⟩
  · intro measured
    have he := exec_endsWith_temp hl hrow hr hw
    refine ⟨fun e rest r hqueue hpresent hround hq hmore =>
        temperatureEnds_next he hqueue hpresent hround hq hmore,
      fun hqueue hround => temperatureEnds_alone he hqueue hround,
      fun r hqueue hround hq hlast => ?_⟩
    intro pending ended sensed
    refine ⟨fun hstart hsample => ?_, fun hstart hsample hphase _ => ?_,
      fun hstart hsample hp _ => ?_⟩
    · exact temperatureEnds_plain hqueue hround hq hlast he hstart hsample
        ⟨⟨rfl, rfl⟩, rfl, roundEnded_keeps _ _⟩
    · exact temperatureEnds_start hqueue hround hq hlast he hstart hsample hphase
        ⟨⟨rfl, rfl⟩, rfl, rfl, startEnded_keeps _⟩
    · intro after
      refine ⟨fun hheld => ?_, fun p hheld => ?_⟩
      · exact temperatureEnds_rests hqueue hround hq hlast he hstart hsample hp hheld
          ⟨⟨⟨rfl, rfl⟩, rfl, rfl⟩, rfl,
            stayInRest_keeps ((sampleEnded_keeps _).mono (by simp)) (by simp)⟩
      · obtain ⟨d, t, hexec, hleaves, hreport⟩ :=
          temperatureEnds_leaves hqueue hround hq hlast he hstart hsample hp hheld
        exact ⟨d, t, hexec, ⟨sampleEnded q c r.thermal s, ⟨⟨rfl, rfl⟩, rfl, rfl⟩,
          sampleEnded_keeps _, hleaves⟩, hreport⟩

end Sys2Proof.Machine
end

section
/-! The operations of the authority unit (R133, R137 to R144), each as the parts it writes: a link
that becomes STALE, a record put in force, a move of authority, the entry to HOLDING. -/

namespace Sys2Proof.Machine

-- One proof after the other: side by side their threads want too much memory.
set_option Elab.async false

section AuthorityUnit

variable (l : Link) (r : WallRecord) (s : State)

/-! ## Freshness (R133, R141) -/

/-- R141: the pending take once link `l` has become STALE. -/
def takeWithout (l : Link) (p : Option Link) : Option Link := if p = some l then none else p

theorem becomeStale_eq :
    becomeStale l s = (s.setLink l { s.link l with fresh := false }).setAuthority
      { s.authority with pendingTake := takeWithout l s.authority.pendingTake } := by
  unfold becomeStale takeWithout
  dsimp only
  rw [setLink_authority]
  split_ifs
  · rfl
  · cases l <;> rfl

/-! ## Records (R143, R144) -/

/-- R144: a record that takes the force it has asks nothing of the composer. -/
theorem composerWithRecord_self (c : Composer) : composerWithRecord r r c = c := by
  simp [composerWithRecord]

theorem joinAll_eq (u : State) :
    joinAll u = u.setComposer { u.composer with buildSet := List.range 16 } :=
  congrArg u.setComposer (joinAll_composer u)

theorem putInForce_eq :
    putInForce r s = (s.setAuthority { s.authority with record := r }).setComposer
      (composerWithRecord s.authority.record r s.composer) := by
  have hjoin : ∀ (p : Prop) [Decidable p] (u : State), (if p then u else joinAll u) =
      u.setComposer
        { u.composer with buildSet := if p then u.composer.buildSet else List.range 16 } :=
    fun p _ u => by
      split_ifs
      · rfl
      · exact joinAll_eq u
  have hgain : ∀ (p : Prop) [Decidable p] (u : State), (if p then u else requestGain u) =
      u.setComposer
        { u.composer with gainPending := u.composer.gainPending || decide ¬p } :=
    fun p _ u => by
      by_cases hp : p
      · simp only [hp, if_true, not_true, decide_false, Bool.or_false]
        rfl
      · simp only [hp, if_false, not_false_iff, decide_true, Bool.or_true]
        rfl
  unfold putInForce
  dsimp only
  rw [hjoin, hgain]
  rfl

/-- R143: the record in force once link `l` has authority: its stored record, if it has one. -/
def adopted (l : Link) (s : State) : WallRecord := (s.link l).stored.getD s.authority.record

theorem adoptRecord_eq :
    adoptRecord l s = (s.setAuthority { s.authority with record := adopted l s }).setComposer
      (composerWithRecord s.authority.record (adopted l s) s.composer) := by
  unfold adoptRecord adopted
  split
  · rename_i r' hstored
    rw [putInForce_eq, hstored, Option.getD_some]
  · rename_i hstored
    rw [hstored, Option.getD_none, composerWithRecord_self]
    rfl

/-! ## Moves of authority (R135, R137, R139) -/

theorem moveAuthority_eq :
    moveAuthority l s =
      (s.setAuthority
        { s.authority with
          holder := some l, pendingTake := none
          changes := min 65535 (s.authority.changes + 1), record := adopted l s }).setComposer
        (composerWithRecord s.authority.record (adopted l s) s.composer) := by
  rw [moveAuthority, adoptRecord_eq]
  unfold adopted
  cases l <;> rfl

/-- R137: RENDERING becomes HOLDING; another output state stays. -/
def heldOutput (a : Authority) : Authority :=
  if a.output = .rendering then
    { a with output := .holding, holdingTime := 0, holdings := min 65535 (a.holdings + 1) }
  else a

theorem enterHolding_eq : enterHolding s = s.setAuthority (heldOutput s.authority) := by
  unfold enterHolding heldOutput
  split_ifs <;> rfl

theorem holdExpiry_of_moves (h : s.authority.holder = some l)
    (hu : (s.link l.other).usable = true) : holdExpiry l s = moveAuthority l.other s := by
  rw [holdExpiry, if_pos h, if_pos hu]

theorem holdExpiry_of_holds (h : s.authority.holder = some l)
    (hu : (s.link l.other).usable = false) : holdExpiry l s = enterHolding s := by
  rw [holdExpiry, if_pos h, if_neg (by rw [hu]; exact Bool.false_ne_true)]

theorem holdExpiry_of_other (h : s.authority.holder ≠ some l) : holdExpiry l s = s := if_neg h

end AuthorityUnit
end Sys2Proof.Machine
end

section
/-! The law of authority (R132): a link that holds authority is READY. A port that is READY stays so
through every operation but its DOWN and a reset; authority moves to a READY link alone (R135, R137,
R139), and a link that goes DOWN gives it up in the same step (R139). -/

namespace Sys2Proof.Machine

-- One proof after the other: side by side their threads want too much memory.
set_option Elab.async false

section AuthorityLaw

variable {s t : State}

/-! ## The law and the parts it speaks of -/

/-- The holder stands, and every port that is READY stays so. -/
theorem AuthorityLaw.congr (h : AuthorityLaw s) (ha : t.authority.holder = s.authority.holder)
    (hl : ∀ l, (s.link l).state = .ready → (t.link l).state = .ready) : AuthorityLaw t :=
  fun l hh => hl l (h l (ha.symm.trans hh))

/-- The law speaks of the authority and the ports alone. -/
theorem AuthorityLaw.frame {ps : List Part} (h : AuthorityLaw s) (k : KeepsBut ps s t)
    (hp : .authority ∉ ps ∧ .linkA ∉ ps ∧ .linkB ∉ ps := by decide) : AuthorityLaw t := by
  obtain ⟨ha, hla, hlb⟩ := hp
  refine h.congr (by rw [k.authority_eq ha]) fun l hr => ?_
  have hl : t.link l = s.link l := by
    cases l
    · exact k .linkA hla
    · exact k .linkB hlb
  rw [hl]
  exact hr

theorem AuthorityLaw.ite (p : Prop) [Decidable p] (hs : AuthorityLaw s) (ht : AuthorityLaw t) :
    AuthorityLaw (if p then s else t) := by
  split_ifs
  · exact hs
  · exact ht

/-- A port that is READY stays so. -/
theorem AuthorityLaw.setLink (h : AuthorityLaw s) (l : Link) (v : LinkPort)
    (hv : (s.link l).state = .ready → v.state = .ready := by exact fun hr => hr) :
    AuthorityLaw (s.setLink l v) := by
  refine h.congr (by rw [setLink_authority]) fun k hr => ?_
  by_cases hk : k = l
  · subst hk
    rw [setLink_link_same]
    exact hv hr
  · rw [setLink_link_of_ne s l v hk]
    exact hr

/-- The holder stands. -/
theorem AuthorityLaw.setAuthority (h : AuthorityLaw s) {v : Authority}
    (hv : v.holder = s.authority.holder) : AuthorityLaw (s.setAuthority v) :=
  h.congr hv fun l hr => by cases l <;> exact hr

/-- A READY link may hold authority. -/
theorem AuthorityLaw.of_holder {l : Link} (hh : t.authority.holder = some l)
    (hr : (t.link l).state = .ready) : AuthorityLaw t := fun k hk => by
  rw [hh] at hk
  cases hk
  exact hr

theorem authorityLaw_of_none (hh : t.authority.holder = none) : AuthorityLaw t := fun l hl => by
  rw [hh] at hl
  cases hl

/-! ## The end of a step -/

theorem settleWork_authorityLaw (h : AuthorityLaw s) : AuthorityLaw (settleWork s) :=
  h.frame (settleWork_keeps (ps := [.composer, .store, .driver, .thermal, .wear])
    (KeepsBut.refl _ s) (by simp))

theorem settle_authorityLaw (h : AuthorityLaw s) : AuthorityLaw (settle s) :=
  h.frame (settle_keeps (ps := [.composer, .store, .driver, .thermal, .wear, .render])
    (KeepsBut.refl _ s) (by simp))

theorem send_authorityLaw (l : Link) (m : Outgoing) (h : AuthorityLaw s) :
    AuthorityLaw (send l m s) := h.setLink l _

theorem sendReport_authorityLaw (l : Link) (body : List Byte) (h : AuthorityLaw s) :
    AuthorityLaw (sendReport l body s) := .ite _ (send_authorityLaw l _ h) h

theorem report_authorityLaw (cs : List Cause) (h : AuthorityLaw s) : AuthorityLaw (report cs s) := by
  have hcounted : AuthorityLaw (s.setAuthority
      { s.authority with
        reports := wrap16 s.authority.reports, lastSent := some s.gain.tileCapacity }) :=
    h.setAuthority rfl
  exact .ite _ (sendReport_authorityLaw .b _ (sendReport_authorityLaw .a _
    (hcounted.frame (clearLimited_keeps (ps := [.render]) (KeepsBut.refl _ _) (by simp))))) h

theorem conclude_authorityLaw (extra : List Cause) (before : State) (h : AuthorityLaw s) :
    AuthorityLaw (conclude extra before s) := .ite _ (report_authorityLaw _ h) h

/-- The end of a step that may report. -/
theorem concludeSettle_authorityLaw (extra : List Cause) (before : State) (h : AuthorityLaw s) :
    AuthorityLaw (conclude extra before (settle s)) :=
  conclude_authorityLaw extra before (settle_authorityLaw h)

/-- A round joined or opened, and the transaction that then starts, touch no port. -/
theorem startJoined_authorityLaw (m : RoundMark) (h : AuthorityLaw s) :
    AuthorityLaw (startNext (joinRound m s)) :=
  h.frame (startNext_keeps (ps := [.thermal, .chip, .driver, .composer, .wear, .sensors])
    (joinRound_keeps m (KeepsBut.refl _ s) (by simp)) (by simp))

/-! ## Moves of authority (R133 to R139) -/

/-- R133: a usable link is READY. -/
theorem LinkPort.ready_of_usable {p : LinkPort} (h : p.usable = true) : p.state = .ready :=
  beq_iff_eq.mp (Bool.and_eq_true_iff.mp h).1

/-- R144: a record put in force leaves the holder. -/
theorem putInForce_authorityLaw (r : WallRecord) (h : AuthorityLaw s) :
    AuthorityLaw (putInForce r s) := by
  have hrecord : AuthorityLaw (s.setAuthority { s.authority with record := r }) :=
    h.setAuthority rfl
  rw [putInForce_eq]
  exact hrecord.frame (setComposer_keeps (ps := [.composer]) _ (KeepsBut.refl _ _) (by decide))

/-- R135, R137, R139: authority moves to a READY link. -/
theorem moveAuthority_authorityLaw {l : Link} (hr : (s.link l).state = .ready) :
    AuthorityLaw (moveAuthority l s) := by
  rw [moveAuthority_eq]
  refine .of_holder (l := l) rfl ?_
  rw [setComposer_link, setAuthority_link]
  exact hr

theorem enterHolding_authorityLaw (h : AuthorityLaw s) : AuthorityLaw (enterHolding s) :=
  .ite _ (h.setAuthority rfl) h

/-- R133, R141: freshness and the pending take do not touch the holder. -/
theorem becomeStale_authorityLaw (l : Link) (h : AuthorityLaw s) :
    AuthorityLaw (becomeStale l s) := by
  rw [becomeStale_eq]
  exact (h.setLink l { s.link l with fresh := false }).setAuthority (by rw [setLink_authority])

theorem holdExpiry_authorityLaw (l : Link) (h : AuthorityLaw s) :
    AuthorityLaw (holdExpiry l s) := by
  unfold holdExpiry
  split_ifs with hh hu
  · exact moveAuthority_authorityLaw (LinkPort.ready_of_usable hu)
  · exact enterHolding_authorityLaw h
  · exact h

/-- R139: a link that has gone DOWN has no authority; what it held has moved to the other link, where
that is usable. -/
theorem authorityDown_authorityLaw (l : Link)
    (h : s.authority.holder = some l.other → (s.link l.other).state = .ready) :
    AuthorityLaw (authorityDown l s) := by
  have hstale := becomeStale_eq l s
  unfold authorityDown
  dsimp only
  rw [hstale]
  split_ifs with hh hu
  · exact moveAuthority_authorityLaw (LinkPort.ready_of_usable hu)
  · exact enterHolding_authorityLaw (authorityLaw_of_none rfl)
  · intro k hk
    rw [setLink_authority] at hh hk
    have hk' : s.authority.holder = some k := hk
    cases l <;> cases k
    · exact absurd hk hh
    · exact h hk'
    · exact h hk'
    · exact absurd hk hh

theorem openFrame_authorityLaw (h : AuthorityLaw s) : AuthorityLaw (openFrame s) := by
  have hk : AuthorityLaw (releaseWaiting (moveIntoForce s)) :=
    h.frame (releaseWaiting_keeps (ps := [.render, .composer, .driver])
      (moveIntoForce_keeps (KeepsBut.refl _ s) (by simp)) (by simp))
  exact hk.setAuthority rfl

/-- R135: the link of the frame head is READY. -/
theorem takeFrameHead_authorityLaw {l : Link} (hr : (s.link l).state = .ready)
    (h : AuthorityLaw s) : AuthorityLaw (takeFrameHead l s) := by
  have hf : AuthorityLaw (refresh l s) := h.setLink l _
  have hready : ((refresh l s).link l).state = .ready := by
    rw [refresh, setLink_link_same]
    exact hr
  exact .ite _ (.ite _ (openFrame_authorityLaw (moveAuthority_authorityLaw hready))
    (.ite _ (openFrame_authorityLaw hf) hf)) hf

/-! ## The links -/

theorem setCounts_authorityLaw (l : Link) (f : LinkCounts → LinkCounts) (h : AuthorityLaw s) :
    AuthorityLaw (setCounts l f s) := h.setLink l _

/-- R162: a frame head that a READY link passes on. -/
theorem passFrameHead_authorityLaw {l : Link} (body : List Byte) (hr : (s.link l).state = .ready)
    (h : AuthorityLaw s) : AuthorityLaw (passFrameHead l body s) := by
  have hpassed : ∀ u : State, (u.link l).state = .ready → AuthorityLaw u → AuthorityLaw
      (conclude [] (u.setLink l { u.link l with lastSequence := some (getU16 0 body) })
        (settle (takeFrameHead l
          (u.setLink l { u.link l with lastSequence := some (getU16 0 body) })))) :=
    fun u hu hlaw => concludeSettle_authorityLaw _ _
      (takeFrameHead_authorityLaw (by rw [setLink_link_same]; exact hu) (hlaw.setLink l _))
  unfold passFrameHead
  dsimp only
  split_ifs
  · exact hpassed _ (by rw [setCounts, setLink_link_same]; exact hr) (setCounts_authorityLaw l _ h)
  · exact hpassed _ hr h

theorem takeRow_authorityLaw (l : Link) (y : Nat) (pixels : List (Rgb Nat)) (h : AuthorityLaw s) :
    AuthorityLaw (takeRow l y pixels s) := by
  have hrow : AuthorityLaw (renderRow y pixels s) :=
    h.frame (renderRow_keeps (ps := [.render, .driver]) y pixels (KeepsBut.refl _ s) (by simp))
  exact .ite _ (.ite _ hrow (h.setLink l _)) h

theorem passRow_authorityLaw (l : Link) (body : List Byte) (h : AuthorityLaw s) :
    AuthorityLaw (passRow l body s) := by
  unfold passRow
  dsimp only
  split_ifs
  · exact setCounts_authorityLaw l _ h
  · exact setCounts_authorityLaw l _ h
  · exact setCounts_authorityLaw l _ h
  · exact takeRow_authorityLaw l _ _ h

/-- R161: the head of a bulk queue requested. -/
theorem requestHead_authorityLaw (l : Link) (h : AuthorityLaw s) :
    AuthorityLaw (requestHead l s) := by
  unfold requestHead
  dsimp only
  split
  · exact (h.setLink l { s.link l with outstanding := .current }).frame
      (placeProgram_keeps (ps := [.store]) l _ (KeepsBut.refl _ _) (by simp))
  all_goals exact h

theorem answerBlock_authorityLaw (l : Link) (tag : Byte) (r : Result) (h : AuthorityLaw s) :
    AuthorityLaw (answerBlock l tag r s) := send_authorityLaw l _ (send_authorityLaw l _ h)

/-- R160: a BLOCK refused. -/
theorem refuseBlock_authorityLaw (l : Link) (tag : Byte) (h : AuthorityLaw s) :
    AuthorityLaw (refuseBlock l tag s) :=
  answerBlock_authorityLaw l tag _ (setCounts_authorityLaw l _ h)

theorem takeBlock_authorityLaw (l : Link) (tag : Byte) (body : List Byte) (h : AuthorityLaw s) :
    AuthorityLaw (takeBlock l tag body s) := by
  unfold takeBlock
  split_ifs
  · exact setCounts_authorityLaw l _ h
  · split
    · split_ifs
      · exact (requestHead_authorityLaw l (h.setLink l _)).frame
          (settleStore_keeps (ps := [.store]) (KeepsBut.refl _ _) (by simp))
      · exact refuseBlock_authorityLaw l tag h
    · exact refuseBlock_authorityLaw l tag h

theorem enqueuePrompt_authorityLaw (l : Link) (kind : Byte) (u : LinkUnit) (h : AuthorityLaw s) :
    AuthorityLaw (enqueuePrompt l kind u s) :=
  .ite _ (h.setLink l _) (setCounts_authorityLaw l _ h)

/-- R155: a message on a READY link. -/
theorem takeReady_authorityLaw {l : Link} (kind : Byte) (u : LinkUnit)
    (hr : (s.link l).state = .ready) (h : AuthorityLaw s) :
    AuthorityLaw (takeReady l kind u s) := by
  unfold takeReady
  split_ifs
  · exact setCounts_authorityLaw l _ h
  · exact passFrameHead_authorityLaw u.body hr h
  · exact setCounts_authorityLaw l _ h
  · exact passRow_authorityLaw l u.body h
  · exact takeBlock_authorityLaw l u.tag u.body h
  · exact enqueuePrompt_authorityLaw l kind u h

theorem receive_authorityLaw (l : Link) (kind : Byte) (u : LinkUnit) (h : AuthorityLaw s) :
    AuthorityLaw (receive l kind u s) := by
  have hfailed : AuthorityLaw (countCheckFailure l s) := setCounts_authorityLaw l _ h
  have hpending : AuthorityLaw (takePending l kind u s) :=
    .ite _ (h.setLink l _ fun _ => rfl) (setCounts_authorityLaw l _ h)
  unfold receive
  refine .ite _ h ?_
  split
  · exact h
  · exact h
  · exact .ite _ hpending hfailed
  · rename_i hr
    exact .ite _ (takeReady_authorityLaw kind u hr h) hfailed

/-- R161, R154: the completion of a port's program. -/
theorem completeLink_authorityLaw (l : Link) (ok : Bool) (h : AuthorityLaw s) :
    AuthorityLaw (completeLink l ok s) := by
  unfold completeLink
  dsimp only
  split
  · exact requestHead_authorityLaw l (answerBlock_authorityLaw l _ _ (h.setLink l _))
  · exact h.setLink l _
  · exact .ite _ (requestHead_authorityLaw l (h.setLink l _)) (h.setLink l _)
  · exact h

/-- R159: a message that has left its send queue. -/
theorem linkSent_authorityLaw (l : Link) (h : AuthorityLaw s) : AuthorityLaw (linkSent l s) := by
  have hafter : ∀ (m : Outgoing) {u : State}, AuthorityLaw u → AuthorityLaw (afterSent l m u) :=
    fun m u hu => by
      have hended := hu.setLink l { u.link l with awaiting := false }
      unfold afterSent
      split
      · exact hended
      · exact hended.frame (dueReset_keeps (ps := [.chip]) _ (KeepsBut.refl _ _) (by simp))
      all_goals exact hu
  unfold linkSent
  split
  · exact hafter _ (h.setLink l _)
  · exact h

/-- R154, R139: a link that goes DOWN. -/
theorem goDown_authorityLaw (l : Link) (h : AuthorityLaw s) : AuthorityLaw (goDown l s) := by
  have hdown : ∀ u : State, u.authority.holder = s.authority.holder →
      u.link l.other = s.link l.other → AuthorityLaw (authorityDown l u) := fun u ha hl =>
    authorityDown_authorityLaw l fun hh => by
      rw [hl]
      exact h _ (ha.symm.trans hh)
  unfold goDown
  dsimp only
  split_ifs
  · exact settle_authorityLaw (hdown _ (by cases l <;> rfl) (by cases l <;> rfl))
  · exact settle_authorityLaw (hdown _ (by cases l <;> rfl) (by cases l <;> rfl))

theorem linkDown_authorityLaw (l : Link) (h : AuthorityLaw s) : AuthorityLaw (linkDown l s) := by
  refine .ite _ h ?_
  split
  · exact h
  · rename_i htraining
    exact h.setLink l _ fun hr => LinkState.noConfusion (htraining.symm.trans hr)
  · exact conclude_authorityLaw _ _ (goDown_authorityLaw l h)
  · exact conclude_authorityLaw _ _ (goDown_authorityLaw l h)

/-! ## Requests -/

/-- R150: a new hold time may move authority to a usable link. -/
theorem applyHoldTime_authorityLaw (v : Nat) (h : AuthorityLaw s) :
    AuthorityLaw (applyHoldTime v s) := by
  have hset : AuthorityLaw (s.setSettings { s.settings with holdTime := v }) :=
    h.frame (setSettings_keeps (ps := [.settings]) _ (KeepsBut.refl _ s) (by decide))
  have stale : ∀ (l : Link) (p : Prop) [Decidable p] {u : State}, AuthorityLaw u →
      AuthorityLaw (if p then becomeStale l u else u) := fun l p _ _ hu =>
    .ite p (becomeStale_authorityLaw l hu) hu
  have expiry : ∀ (l : Link) (p : Prop) [Decidable p] {u : State}, AuthorityLaw u →
      AuthorityLaw (if p then holdExpiry l u else u) := fun l p _ _ hu =>
    .ite p (holdExpiry_authorityLaw l hu) hu
  exact expiry .b _ (expiry .a _ (stale .b _ (stale .a _ hset)))

theorem applyBlankAfter_authorityLaw (v : Nat) (h : AuthorityLaw s) :
    AuthorityLaw (applyBlankAfter v s) := by
  have hset : AuthorityLaw (s.setSettings { s.settings with blankAfter := v }) :=
    h.frame (setSettings_keeps (ps := [.settings]) _ (KeepsBut.refl _ s) (by decide))
  exact .ite _ (hset.setAuthority rfl) hset

theorem applySetting_authorityLaw (x : Setting) (v : Int) (h : AuthorityLaw s) :
    AuthorityLaw (applySetting x v s) := by
  have hk : KeepsBut [.settings, .render, .sensors] s s := KeepsBut.refl _ s
  cases x with
  | holdTime => exact settle_authorityLaw (applyHoldTime_authorityLaw _ h)
  | blankAfter => exact settle_authorityLaw (applyBlankAfter_authorityLaw _ h)
  | fCap => exact h.frame (capGains_keeps _ (setSettings_keeps _ hk (by decide)) (by simp))
  | sensorMap => exact h.frame (remapSensors_keeps _ hk (by simp))
  | _ => exact h.frame (setSettings_keeps _ hk (by decide))

theorem performSet_authorityLaw (op : SetOp) (h : AuthorityLaw s) :
    AuthorityLaw (performSet op s).state := by
  have hk : KeepsBut [.composer, .store, .driver] s s := KeepsBut.refl _ s
  cases op with
  | jobLevel k v =>
    unfold performSet setJobLevel
    dsimp only
    split_ifs
    · exact h
    · exact h
    · exact settleWork_authorityLaw (h.frame (setComposer_keeps _ hk (by decide)))
  | phaseTable t =>
    unfold performSet setPhaseTable
    dsimp only
    split_ifs
    · exact h
    · exact h.frame (setStore_keeps _ hk (by decide))
    · exact h
  | darkPolicy b v =>
    unfold performSet setDarkPolicy
    dsimp only
    split_ifs
    · exact h
    · split
      · exact h.frame (setBankPolicy_keeps b _ hk (by simp))
      · exact h
  | value x v =>
    unfold performSet setValue
    dsimp only
    split_ifs
    · exact h
    · exact h
    · exact applySetting_authorityLaw x _ h
    · exact applySetting_authorityLaw x _ h

theorem powerCommand_authorityLaw (o : Origin) {f : State → State}
    (hf : KeepsBut [.chip, .store, .wear, .composer] s (f s)) (h : AuthorityLaw s) :
    AuthorityLaw (powerCommand o f s).state := by
  unfold powerCommand
  split_ifs
  · exact settle_authorityLaw (h.frame hf)
  · exact h

/-- R142: a record stored, and put in force on the authority link. -/
theorem storeRecord_authorityLaw (l : Link) (r : WallRecord) (h : AuthorityLaw s) :
    AuthorityLaw (storeRecord l r s) :=
  .ite _ (putInForce_authorityLaw r (h.setLink l _)) (h.setLink l _)

/-- The owner's rule of a request that links and tool share. -/
theorem perform_authorityLaw (o : Origin) (r : Request) (h : AuthorityLaw s) :
    AuthorityLaw (perform o r s).state := by
  have hk : KeepsBut [.chip, .store, .wear, .composer] s s := KeepsBut.refl _ s
  cases r with
  | wall r =>
    cases o with
    | link l => exact settleWork_authorityLaw (storeRecord_authorityLaw l _ h)
    | tool => exact h
  | take =>
    cases o with
    | link l =>
      unfold perform performTake takeCommand
      dsimp only
      split_ifs
      · exact h.setAuthority rfl
      · exact h.setAuthority rfl
      · exact h
    | tool => exact h
  | dark => exact powerCommand_authorityLaw o (commandDark_keeps hk (by simp)) h
  | light => exact powerCommand_authorityLaw o (commandLight_keeps hk (by simp)) h
  | rest => exact powerCommand_authorityLaw o (commandRest_keeps hk (by simp)) h
  | rebuild zs =>
    unfold perform performRebuild
    dsimp only
    split_ifs
    · exact h
    · exact settleWork_authorityLaw (h.frame (joinBuild_keeps zs hk (by simp)))
  | query q => exact h
  | set op => exact performSet_authorityLaw op h
  | close =>
    exact .ite _ h (settle_authorityLaw (h.frame (setChip_keeps _ hk (by decide))))
  | reset => exact h

theorem performTool_authorityLaw (tag : Byte) (r : ToolRequest) (h : AuthorityLaw s) :
    AuthorityLaw (performTool tag r s).state := by
  have hk : KeepsBut [.wear, .store, .composer] s s := KeepsBut.refl _ s
  cases r with
  | shared r => exact perform_authorityLaw .tool r h
  | block p =>
    unfold performTool toolBlock
    dsimp only
    split_ifs
    · exact h.frame (offerProgram_keeps _ _ s)
    · exact h
  | identity fields =>
    unfold performTool toolIdentity
    dsimp only
    split_ifs
    · exact h
    · exact h.frame (offerProgram_keeps _ _ s)
    · exact h
  | trim codes => exact settleWork_authorityLaw (h.frame (setTrims_keeps codes hk (by simp)))
  | wearClear z => exact settleWork_authorityLaw (h.frame (clearWear_keeps z hk (by simp)))
  | bank es => exact h.frame (setBankModes_keeps es (KeepsBut.refl _ s))
  | latch b v =>
    exact h.frame (setBankLatch_keeps (ps := [.driver]) b v (KeepsBut.refl _ s) (by simp))

theorem handleFrame_authorityLaw (tag kind : Byte) (req : Option ToolRequest)
    (h : AuthorityLaw s) : AuthorityLaw (handleFrame tag kind req s) := by
  rcases handleFrame_cases tag kind req s with hk | ⟨r, -, he⟩
  · exact h.frame hk
  · rw [he]
    exact (performTool_authorityLaw tag r h).frame (answerTool_keeps _ _ _ _)

theorem beginPrompt_authorityLaw (l : Link) (rest : List Message) (h : AuthorityLaw s) :
    AuthorityLaw (beginPrompt l rest s) := h.setLink l _

theorem promptStep_authorityLaw (l : Link) (mine : Request → Bool) (h : AuthorityLaw s) :
    AuthorityLaw (promptStep l mine s) := by
  rcases promptStep_cases l mine s with he | ⟨m, rest, r, he⟩
  · exact he.symm ▸ h
  · rw [he, handlePrompt_eq]
    exact conclude_authorityLaw _ _ (send_authorityLaw l _
      (perform_authorityLaw (.link l) r (beginPrompt_authorityLaw l rest h)))

theorem refusePrompt_authorityLaw (l : Link) (h : AuthorityLaw s) :
    AuthorityLaw (refusePrompt l s) := by
  refine .ite _ ?_ h
  split
  · split
    · exact h
    · exact send_authorityLaw l _ (beginPrompt_authorityLaw l _ h)
  · exact h

theorem toolStep_authorityLaw (tag kind : Byte) (req : Option ToolRequest) (h : AuthorityLaw s) :
    AuthorityLaw (toolStep tag kind req s) := by
  rcases toolStep_cases tag kind req s with he | he
  · exact he.symm ▸ h
  · exact he ▸ conclude_authorityLaw _ _ (handleFrame_authorityLaw tag kind req h)

theorem requestStep_authorityLaw {α : Type} (v : Via α) (mine : Request → Bool) (kind : Byte)
    (req : α → Option Request) (h : AuthorityLaw s) :
    AuthorityLaw (requestStep v mine kind req s) := by
  cases v with
  | port l => exact promptStep_authorityLaw l mine h
  | tool tag a => exact toolStep_authorityLaw tag kind _ h

/-! ## Service frames -/

theorem setService_authorityLaw (v : ServiceLine) (h : AuthorityLaw s) :
    AuthorityLaw (s.setService v) :=
  h.frame (setService_keeps (ps := [.service]) v (KeepsBut.refl _ s) (by decide))

theorem endFrame_authorityLaw (buf : List Byte) (h : AuthorityLaw s) :
    AuthorityLaw (endFrame buf s) := by
  have hnone : AuthorityLaw (setReceiving none s) := setService_authorityLaw _ h
  exact .ite _ (conclude_authorityLaw _ _ (handleFrame_authorityLaw _ _ _ hnone))
    (setService_authorityLaw _ hnone)

theorem discardFrame_authorityLaw (h : AuthorityLaw s) : AuthorityLaw (discardFrame s) :=
  h.frame (discardFrame_keeps (ps := [.service]) (KeepsBut.refl _ s) (by simp))

theorem receiveByte_authorityLaw (b : LineByte) (h : AuthorityLaw s) :
    AuthorityLaw (receiveByte b s) := by
  have hi : AuthorityLaw (s.setService { s.service with idle := 0 }) := setService_authorityLaw _ h
  have hdiscard := discardFrame_authorityLaw hi
  unfold receiveByte
  dsimp only
  split
  · exact .ite _ (setService_authorityLaw _ hi) hdiscard
  · exact .ite _ hdiscard (.ite _ hdiscard (.ite _ (endFrame_authorityLaw _ hi)
      (setService_authorityLaw _ hi)))

theorem receiveBytes_authorityLaw (bytes : List LineByte) (h : AuthorityLaw s) :
    AuthorityLaw (bytes.foldl (fun s b => receiveByte b s) s) := by
  induction bytes generalizing s with
  | nil => exact h
  | cons b bytes ih => exact ih (receiveByte_authorityLaw b h)

/-! ## Resets and start-up (R132, R175, R177) -/

/-- After a reset no link holds authority. -/
theorem coldReset_authorityLaw (pins : StrapPins) (s : State) : AuthorityLaw (coldReset pins s) :=
  authorityLaw_of_none rfl

theorem clearWarm_authorityLaw (s : State) : AuthorityLaw (clearWarm s) := authorityLaw_of_none rfl

theorem setChip_authorityLaw (v : Chip) (h : AuthorityLaw s) : AuthorityLaw (s.setChip v) :=
  h.frame (setChip_keeps (ps := [.chip]) v (KeepsBut.refl _ s) (by decide))

theorem resetPinRelease_authorityLaw (pins : StrapPins) (h : AuthorityLaw s) :
    Leads (.resetPinRelease pins) s AuthorityLaw := by
  refine .intro rfl ?_
  split
  · exact coldReset_authorityLaw _ _
  · exact authorityLaw_of_none rfl
  all_goals exact setChip_authorityLaw _ h

theorem startupChecksDone_authorityLaw (f : StoreFindings) (h : AuthorityLaw s) :
    AuthorityLaw (startupChecksDone f s) := by
  have hchecked : AuthorityLaw (checkedState f s) := h.frame (checkedState_keeps f s)
  exact .ite _ (concludeSettle_authorityLaw _ (checkedState f s)
    (startJoined_authorityLaw _ hchecked)) h

/-! ## Ticks and expiries -/

/-- R173: the milliseconds of the ports and of the output state. -/
theorem millisecond_authorityLaw (h : AuthorityLaw s) : AuthorityLaw (millisecond s) := by
  have hholder : s.authority.tick.holder = s.authority.holder := by
    unfold Authority.tick
    split_ifs <;> rfl
  have hbase : AuthorityLaw (s.setTimebase s.timebase.step) :=
    h.frame (setTimebase_keeps (ps := [.timebase]) _ (KeepsBut.refl _ s) (by decide))
  have hticked : AuthorityLaw (((s.setTimebase s.timebase.step).setAuthority
      s.authority.tick).setLink .a s.linkA.tick |>.setLink .b s.linkB.tick) :=
    ((hbase.setAuthority hholder).setLink .a _).setLink .b _
  exact .ite _ (hticked.frame (loadSample_keeps (ps := [.wear, .driver]) (tickBanks_keeps
    (setWear_keeps _ (KeepsBut.refl _ _) (by decide)) (by simp)) (by simp))) h

theorem onTick_authorityLaw {f : State → State} (hf : AuthorityLaw (f s)) (h : AuthorityLaw s) :
    AuthorityLaw (onTick f s) := .ite _ hf h

theorem thermalTick_authorityLaw (h : AuthorityLaw s) : AuthorityLaw (thermalTick s) :=
  concludeSettle_authorityLaw _ _ (startJoined_authorityLaw _ (h.frame (setThermal_keeps
    (ps := [.timebase, .thermal]) _ (setTimebase_keeps _ (KeepsBut.refl _ s) (by decide))
    (by decide))))

theorem pilotTick_authorityLaw (h : AuthorityLaw s) : AuthorityLaw (pilotTick s) :=
  settleWork_authorityLaw (h.frame (startSequence_keeps
    (ps := [.wear, .composer, .driver, .timebase])
    (setTimebase_keeps _ (KeepsBut.refl _ s) (by decide)) (by simp)))

theorem scrubTick_authorityLaw (h : AuthorityLaw s) : AuthorityLaw (scrubTick s) :=
  settleWork_authorityLaw (h.frame (requestScrub_keeps (ps := [.composer, .timebase])
    (setTimebase_keeps _ (KeepsBut.refl _ s) (by decide)) (by simp)))

theorem reportTick_authorityLaw (h : AuthorityLaw s) : AuthorityLaw (reportTick s) :=
  conclude_authorityLaw _ _ (h.frame (setTimebase_keeps (ps := [.timebase]) _ (KeepsBut.refl _ s)
    (by decide)))

theorem driftSaveTick_authorityLaw (h : AuthorityLaw s) : AuthorityLaw (driftSaveTick s) :=
  h.frame (settleStore_keeps (ps := [.timebase, .store]) (requestSave_keeps _ (setTimebase_keeps _
    (KeepsBut.refl _ s) (by decide)) (by simp)) (by simp))

theorem restWakeExpiry_authorityLaw (h : AuthorityLaw s) : AuthorityLaw (restWakeExpiry s) :=
  .ite _ (concludeSettle_authorityLaw _ _ (startJoined_authorityLaw _
    (h.frame (clearLoad_keeps (ps := [.chip, .driver])
      (setChip_keeps _ (KeepsBut.refl _ s) (by decide)) (by simp))))) h

theorem settleTimerExpiry_authorityLaw (h : AuthorityLaw s) :
    AuthorityLaw (settleTimerExpiry s) := by
  unfold settleTimerExpiry
  split
  · exact settle_authorityLaw (h.frame (startNext_keeps
      (ps := [.thermal, .chip, .driver, .composer, .wear, .sensors])
      (beginRead_keeps _ (KeepsBut.refl _ s) (by simp)) (by simp)))
  all_goals exact h

theorem ageExpiry_authorityLaw (l : Link) (h : AuthorityLaw s) : AuthorityLaw (ageExpiry l s) :=
  .ite _ (concludeSettle_authorityLaw _ _ (holdExpiry_authorityLaw l
    (becomeStale_authorityLaw l (h.setLink l _)))) h

theorem blankAfterExpiry_authorityLaw (h : AuthorityLaw s) : AuthorityLaw (blankAfterExpiry s) :=
  .ite _ (concludeSettle_authorityLaw _ _ (h.setAuthority rfl)) h

theorem offerCredits_authorityLaw (l : Link) (h : AuthorityLaw s) :
    AuthorityLaw (offerCredits l s) := send_authorityLaw l _ (h.setLink l _)

/-- R153: bring-up moves a link that is not yet READY. -/
theorem signalDetected_authorityLaw (l : Link) (h : AuthorityLaw s) :
    AuthorityLaw (signalDetected l s) := by
  unfold signalDetected
  split_ifs with hd
  · exact h.setLink l _ fun hr => LinkState.noConfusion (hd.2.symm.trans hr)
  · exact h

theorem symbolLock_authorityLaw (l : Link) (h : AuthorityLaw s) :
    AuthorityLaw (symbolLock l s) := by
  unfold symbolLock
  split_ifs with ht
  · exact offerCredits_authorityLaw l
      (h.setLink l _ fun hr => LinkState.noConfusion (ht.2.symm.trans hr))
  · exact h

theorem answerSent_authorityLaw (who : Sender) (h : AuthorityLaw s) :
    Leads (.answerSent who) s AuthorityLaw := by
  cases who with
  | link l => exact .intro rfl (.ite _ (linkSent_authorityLaw l h) h)
  | service =>
    exact .intro rfl (.ite _ (h.frame (serviceSent_keeps (ps := [.service, .chip])
      (KeepsBut.refl _ s) (by simp))) h)

theorem sync_authorityLaw (low : Nat) (h : AuthorityLaw s) : AuthorityLaw (sync low s) :=
  .ite _ (.ite _ (concludeSettle_authorityLaw _ _ (h.frame (reportSync_keeps
    (ps := [.chip, .composer, .service]) (setService_keeps _ (KeepsBut.refl _ s) (by simp))
    (by simp)))) (setService_authorityLaw _ h)) h

/-! ## The ends of grants and jobs (R43, R45, R47, R55, R67, R99) -/

theorem onSensor_authorityLaw {f : State → State}
    (hf : KeepsBut [.thermal, .chip, .driver, .composer, .wear, .sensors] s (f s))
    (h : AuthorityLaw s) : AuthorityLaw (onSensor f s) :=
  .ite _ (concludeSettle_authorityLaw _ _ (h.frame hf)) h

theorem blockReadDone_authorityLaw (cells : Option Stored) (h : AuthorityLaw s) :
    AuthorityLaw (blockReadDone cells s) := by
  unfold blockReadDone
  split
  · exact settle_authorityLaw (h.frame (endBlockRead_keeps _ cells s))
  all_goals exact h

/-- A program's completion reaches its requester, and the decision and the scan follow. -/
theorem programEnded_authorityLaw (who : Requester) (ok : Bool) (h : AuthorityLaw s) :
    AuthorityLaw (settleWork (reportProgram who ok s)) := by
  refine settleWork_authorityLaw ?_
  cases who with
  | linkA => exact completeLink_authorityLaw .a ok h
  | linkB => exact completeLink_authorityLaw .b ok h
  | service =>
    exact h.frame (completeService_keeps (ps := [.store, .service]) ok (KeepsBut.refl _ s)
      (by simp))
  | composer => exact h
  | driftSave => exact h

theorem blockProgramDone_authorityLaw (cells : Option Stored) (h : AuthorityLaw s) :
    AuthorityLaw (blockProgramDone cells s) := by
  have hk : KeepsBut [.store, .composer] s s := KeepsBut.refl _ s
  unfold blockProgramDone
  split
  · exact programEnded_authorityLaw _ _ (h.frame (setPort_keeps _ (joinBuild_keeps _
      (countProgramFailure_keeps _ (setBlockState_keeps _ _ (setSlot_keeps _ _ hk (by simp))
        (by simp)) (by simp)) (by simp)) (by simp)))
  all_goals exact h

theorem identityProgramDone_authorityLaw (cells : Option Stored) (h : AuthorityLaw s) :
    AuthorityLaw (identityProgramDone cells s) := by
  have hk : KeepsBut [.store, .composer] s s := KeepsBut.refl _ s
  unfold identityProgramDone
  split
  · exact programEnded_authorityLaw .service _ (h.frame (setPort_keeps _ (joinAll_keeps
      (countProgramFailure_keeps _ (loadIdentity_keeps (setStore_keeps _ hk (by decide)) (by simp))
        (by simp)) (by simp)) (by simp)))
  all_goals exact h

theorem driftSaveDone_authorityLaw (cells : Option Stored) (h : AuthorityLaw s) :
    AuthorityLaw (driftSaveDone cells s) := by
  have hk : KeepsBut [.chip, .driver, .composer, .store] s s := KeepsBut.refl _ s
  unfold driftSaveDone
  split
  · exact concludeSettle_authorityLaw _ _ (.ite _
      (h.frame (enterRest_keeps (setStore_keeps _ hk (by decide)) (by simp)))
      (h.frame (setStore_keeps _ hk (by decide))))
  all_goals exact h

theorem thermalJobEnd_authorityLaw (h : AuthorityLaw s) : AuthorityLaw (thermalJobEnd s) := by
  unfold thermalJobEnd
  split
  · exact .ite _ h (settleWork_authorityLaw (h.frame (endThermal_keeps
      (ps := [.thermal, .wear, .composer]) _ (KeepsBut.refl _ s) (by simp))))
  all_goals exact h

theorem gainEnd_authorityLaw (h : AuthorityLaw s) : AuthorityLaw (gainEnd s) := by
  unfold gainEnd
  split
  · exact .ite _ h (concludeSettle_authorityLaw _ _ (h.frame (endGain_keeps _ s)))
  all_goals exact h

/-! ## Every step -/

/-- Every command keeps the law. -/
theorem leads_authorityLaw (h : AuthorityLaw s) : ∀ c, Leads c s AuthorityLaw
  | .powerOn pins =>
    .intro rfl (.ite _ (setChip_authorityLaw _ (coldReset_authorityLaw ⟨0, 0, false⟩ s))
      (coldReset_authorityLaw pins s))
  | .resetPinRelease pins => resetPinRelease_authorityLaw pins h
  | .warmReset _ => .intro rfl (.ite _ (setChip_authorityLaw _ (clearWarm_authorityLaw s)) h)
  | .startupChecksDone f => .intro rfl (startupChecksDone_authorityLaw f h)
  | .loadSample => .intro rfl (millisecond_authorityLaw h)
  | .thermalTick => .intro rfl (onTick_authorityLaw (thermalTick_authorityLaw h) h)
  | .pilotTick => .intro rfl (onTick_authorityLaw (pilotTick_authorityLaw h) h)
  | .scrubTick => .intro rfl (onTick_authorityLaw (scrubTick_authorityLaw h) h)
  | .reportTick => .intro rfl (onTick_authorityLaw (reportTick_authorityLaw h) h)
  | .driftSaveTick => .intro rfl (onTick_authorityLaw (driftSaveTick_authorityLaw h) h)
  | .restWakeExpiry => .intro rfl (restWakeExpiry_authorityLaw h)
  | .primingTimerExpiry b =>
    .intro rfl (onTick_authorityLaw (h.frame (primingExpired_keeps (ps := [.driver]) b.val
      (KeepsBut.refl _ s) (by simp))) h)
  | .settleTimerExpiry => .intro rfl (onTick_authorityLaw (settleTimerExpiry_authorityLaw h) h)
  | .linkStale l => .intro rfl (onTick_authorityLaw (ageExpiry_authorityLaw l h) h)
  | .blankAfterExpiry => .intro rfl (onTick_authorityLaw (blankAfterExpiry_authorityLaw h) h)
  | .creditResendTimer l => .intro rfl (.ite _ (offerCredits_authorityLaw l h) h)
  | .signalDetected l =>
    .intro rfl (signalDetected_authorityLaw l h)
  | .symbolLock l => .intro rfl (symbolLock_authorityLaw l h)
  | .linkDown l => .intro rfl (linkDown_authorityLaw l h)
  | .init l u | .frameHead l u | .row l u | .promptMessageArrival l _ u | .block (.port l u) =>
    .intro rfl (receive_authorityLaw l _ u h)
  | .answerSent who => answerSent_authorityLaw who h
  | .unknownKind l => .intro rfl (refusePrompt_authorityLaw l h)
  | .block (.tool _ _) => .intro rfl (toolStep_authorityLaw _ _ _ h)
  | .wall l | .take l => .intro rfl (promptStep_authorityLaw l _ h)
  | .dark v | .light v | .rest v | .queryZoneStatus v | .queryStoreStatus v | .queryThermalState v
  | .queryWearState v | .queryGainState v | .queryComposerState v | .querySensorState v
  | .queryAuthorityState v | .queryLinkState v | .queryConfiguration v | .close v | .reset v
  | .rebuild v | .setJobLevel v | .setPhaseTable v | .setDarkPolicy v
  | .setHoldTime v | .setBlankAfter v | .setThermalInterval v | .setK v | .setRho v | .setFCap v
  | .setSensorMap v | .setAssumedAmbient v | .setPilotInterval v | .setScrubInterval v
  | .setReportInterval v | .setDriftSaveInterval v | .setRestWakeInterval v =>
    .intro rfl (requestStep_authorityLaw v _ _ _ h)
  | .trim _ _ | .wearClear _ _ | .bank _ _ | .latch _ _ _ | .identity _ _ =>
    .intro rfl (toolStep_authorityLaw _ _ _ h)
  | .sync low => .intro rfl (sync_authorityLaw low h)
  | .serviceFrame bytes => .intro rfl (.ite _ (receiveBytes_authorityLaw bytes h) h)
  | .serviceFrameTimeout => .intro rfl (.ite _ (discardFrame_authorityLaw h) h)
  | .serviceBreak _ =>
    .intro rfl (.ite _ (h.frame (returnToSync_keeps (ps := [.service, .chip])
      (KeepsBut.refl _ s) (by simp))) h)
  | .idle =>
    .intro rfl (.ite _ (h.frame (setService_keeps (ps := [.service, .chip]) _
      (returnToSync_keeps (KeepsBut.refl _ s) (by simp)) (by simp))) h)
  | .sensorResponse f =>
    .intro rfl (onSensor_authorityLaw (sensorResponse_keeps f (KeepsBut.refl _ s) (by simp)) h)
  | .sensorDeadline =>
    .intro rfl (onSensor_authorityLaw (sensorDeadline_keeps (KeepsBut.refl _ s) (by simp)) h)
  | .blockReadDone cells => .intro rfl (blockReadDone_authorityLaw cells h)
  | .blockProgramDone cells => .intro rfl (blockProgramDone_authorityLaw cells h)
  | .identityProgramDone cells => .intro rfl (identityProgramDone_authorityLaw cells h)
  | .driftSaveDone cells => .intro rfl (driftSaveDone_authorityLaw cells h)
  | .thermalJobEnd => .intro rfl (thermalJobEnd_authorityLaw h)
  | .gainEnd => .intro rfl (gainEnd_authorityLaw h)
  | .resetPinDrivenLow =>
    .intro rfl (.ite _ (setChip_authorityLaw _ (clearWarm_authorityLaw (setPinLow true s)))
      (setChip_authorityLaw _ h))
  | .powerLoss => .intro rfl (setChip_authorityLaw _ (coldReset_authorityLaw ⟨0, 0, false⟩ s))

end AuthorityLaw

/-- Settles O51: on the front command by `leads_authorityLaw`; an idle second moves the wake counter
alone. -/
theorem authorityLawIsKept : Obligations.AuthorityLawIsKept := by
  intro s t h hs
  cases hp : s.pending with
  | nil =>
    rw [step_nil hp] at hs
    cases hs
    exact .ite _ (setChip_authorityLaw _ h) h
  | cons c rest =>
    rw [step_cons hp] at hs
    exact (leads_authorityLaw (h.frame (setPending_keeps (ps := [.pending]) rest
      (KeepsBut.refl _ s) (by decide))) c).of_exec hs

end Sys2Proof.Machine
end

section
/-! Requests whose step may end in a report (R147, R158): the owner's rule and the answer behind it,
then the report of what the owner changed. What follows in a step does not see the link ports, so
that an owner that does not see them either acts behind a link's prompt as at the step's beginning. -/

namespace Sys2Proof.Machine

-- One proof after the other: side by side their threads want too much memory.
set_option Elab.async false

/-! ## What does not see the link ports -/

/-- The operation neither reads a link port nor writes one. -/
def LinkBlind (f : State → State) : Prop :=
  ∀ (l : Link) (p : LinkPort) (s : State), f (s.setLink l p) = (f s).setLink l p

section LinkBlind

variable {f g : State → State}

theorem LinkBlind.comp (hg : LinkBlind g) (hf : LinkBlind f) : LinkBlind fun s => g (f s) :=
  fun l p s => (congrArg g (hf l p s)).trans (hg l p (f s))

theorem linkBlind_id : LinkBlind fun s => s := fun _ _ _ => rfl

theorem linkBlind_settleBanks : LinkBlind settleBanks := fun l p s => by cases l <;> rfl

theorem linkBlind_absorbBuild (read : BlockRead) : LinkBlind (absorbBuild read) := fun l p s => by
  have hfill : ∀ f, (s.setLink l p).fillBlock f read = s.fillBlock f read := by
    cases l <;> exact fun _ => rfl
  have hzone : ∀ z, (s.setLink l p).zoneBlocks z = s.zoneBlocks z := by
    cases l <;> exact fun _ => rfl
  unfold absorbBuild
  rw [setLink_composer]
  cases s.composer.staging with
  | filling f =>
    dsimp only
    rw [hfill, hzone, setComposer_setLink, requestBlock_setLink]
    split_ifs
    · rfl
    · cases l <;> rfl
  | _ => rfl

theorem linkBlind_absorbScrub (level left : Nat) (read : BlockRead) :
    LinkBlind (absorbScrub level left read) := fun l p s => by
  unfold absorbScrub
  split_ifs <;> cases l <;> rfl

theorem linkBlind_absorbRead (read : BlockRead) : LinkBlind (absorbRead read) := fun l p s => by
  unfold absorbRead
  rw [setLink_composer]
  split
  · exact linkBlind_absorbBuild read l p s
  · exact linkBlind_absorbScrub _ _ read l p s
  all_goals rfl

theorem linkBlind_takeDeferred : LinkBlind takeDeferred := fun l p s => by
  unfold takeDeferred
  rw [composerStopped_setLink, setLink_composer, setComposer_setLink]
  split_ifs
  · rfl
  · split
    · exact linkBlind_absorbRead _ l p _
    · rfl

theorem linkBlind_settleRender : LinkBlind settleRender := fun l p s => by
  have hr : (s.setLink l p).isRendering = s.isRendering := by cases l <;> rfl
  have hc : commitStaged (s.setLink l p) = (commitStaged s).setLink l p := by
    unfold commitStaged
    rw [setLink_composer]
    cases s.composer.staging <;> cases l <;> rfl
  have ha : ∀ u : State, applyPendingGain (u.setLink l p) = (applyPendingGain u).setLink l p := by
    intro u
    unfold applyPendingGain
    rw [setLink_render]
    cases u.render.pendingGain <;> cases l <;> rfl
  unfold settleRender moveIntoForce
  rw [hr, hc, ha]
  split_ifs <;> rfl

theorem linkBlind_settleWork : LinkBlind settleWork := settleWork_setLink

theorem linkBlind_settle : LinkBlind settle :=
  linkBlind_settleWork.comp (linkBlind_settleRender.comp
    (linkBlind_takeDeferred.comp linkBlind_settleBanks))

/-- It leaves them as they are. -/
theorem LinkBlind.link_eq (hf : LinkBlind f) (l : Link) (s : State) : (f s).link l = s.link l := by
  have hsame : s.setLink l (s.link l) = s := by cases l <;> rfl
  have h := hf l (s.link l) s
  rw [hsame] at h
  rw [h, setLink_link_same]

/-- Behind a prompt it acts as at the step's beginning. -/
theorem LinkBlind.handledAt_eq {α : Type} (hf : LinkBlind f) (v : Via α) (s : State) :
    f (handledAt v s) = handledAt v (f s) := by
  cases v with
  | port l =>
    refine (hf l _ s).trans ?_
    show _ = beginPrompt l ((f s).link l).prompts.tail (f s)
    rw [beginPrompt, hf.link_eq]
  | tool tag a => rfl

end LinkBlind

/-! ## The answer of a step that may report -/

theorem handledAt_service {α : Type} (v : Via α) (s : State) :
    (handledAt v s).service = s.service := by
  cases v with
  | port l => cases l <;> rfl
  | tool tag a => rfl

/-- A step without a cause ends without a report. -/
theorem LeadsReporting.leads {c : Instr} {s : State} {P : State → Prop}
    (h : LeadsReporting c s [] P) : Leads c s P := by
  obtain ⟨d, t, he, hp, hr⟩ := h
  have ht : t = d := by simpa [Reported] using hr
  exact ⟨t, he, ht ▸ hp⟩

/-- The causes are a matter of the authority and the chip. -/
theorem causesOf_congr {extra : List Cause} {s t u : State} (ha : u.authority = t.authority)
    (hc : u.chip = t.chip) : causesOf extra s u = causesOf extra s t := by
  unfold causesOf
  rw [ha, hc]

section Requests

variable {α : Type} {v : Via α} {kind : Byte} {layout : α → List Byte} {a : α} {s : State}
  {c : Instr} {r : Request} {mine : Request → Bool} {req : α → Option Request} {cs : List Cause}
  {P : State → Prop}

/-- The answer's part is neither the authority nor the chip. -/
theorem causesOf_answer {extra : List Cause} {t d : State} (h : KeepsBut [answerPart v] t d) :
    causesOf extra s d = causesOf extra s t :=
  causesOf_congr (h.authority_eq (notMem_answerPart v (by decide)))
    (h.chip_eq (notMem_answerPart v (by decide)))

/-- R147, R158: the owner's rule, the answer behind it, and the report of what the rule changed.
`own` is what the rule did to the port's own fields. -/
theorem requestStep_reports {own : LinkPort → LinkPort}
    (he : exec c s = .next (requestStep v mine kind req s)) (h : Asks v kind layout a s)
    (hparse : parseRequest kind (layout a) = some r) (hreq : req a = some r)
    (hmine : mine r = true)
    (hown : ∀ l, v = .port l → (actedAt v r s).state.link l =
      { own (s.link l) with
        prompts := (s.link l).prompts.tail, awaiting := true, sends := (s.link l).sends })
    (hservice : (actedAt v r s).state.service = s.service)
    (hcs : causesOf [] s (actedAt v r s).state = cs)
    (hp : ∀ d, AnsweredWith v kind (r == .reset) (actedAt v r s).result (actedAt v r s).content own
        s d → KeepsBut [answerPart v] (actedAt v r s).state d → P d) :
    LeadsReporting c s cs P := by
  have hconclude : ∀ d, requestStep v mine kind req s = conclude [] s d →
      KeepsBut [answerPart v] (actedAt v r s).state d →
      AnsweredWith v kind (r == .reset) (actedAt v r s).result (actedAt v r s).content own s d →
      LeadsReporting c s cs P := fun d hd hk ha =>
    .intro (he.trans (congrArg _ hd)) ((causesOf_answer hk).trans hcs) (hp d ha hk)
  cases v with
  | port l =>
    obtain ⟨hs, hw, tag, rest, hq⟩ := h
    have hat : handledAt (.port l : Via α) s = beginPrompt l rest s := by
      simp only [handledAt, hq, List.tail_cons]
    refine hconclude
      (send l (.answer (if r == .reset then .resetPrompt else .prompt) tag kind
        (actedAt (.port l : Via α) r s).result (actedAt (.port l : Via α) r s).content)
        (actedAt (.port l : Via α) r s).state) ?_ (setLink_keepsBut l _ _)
      ⟨tag, layout a, rest, hq, ?_⟩
    · refine (promptStep_of_head hs hw hq hparse hmine).trans ?_
      rw [handlePrompt_eq, ← hat]
      rfl
    · rw [send_link_same, hown l rfl, hq]
      rfl
  | tool tag b =>
    obtain ⟨rfl, hs, hl, hroom⟩ := h
    have hreset : (ToolRequest.shared r == .shared .reset) = (r == .reset) := by
      rw [Bool.eq_iff_iff, beq_iff_eq, beq_iff_eq, ToolRequest.shared.injEq]
    refine hconclude
      (pushAnswer ⟨tag, kind, (actedAt (.tool tag b) r s).result,
        (actedAt (.tool tag b) r s).content, r == .reset⟩ (actedAt (.tool tag b) r s).state) ?_
      (pushAnswer_keeps _ (KeepsBut.refl _ _) (by simp [answerPart])) ?_
    · unfold requestStep
      dsimp only
      rw [hreq, Option.map_some, toolStep_of_room hs hl hroom, hreset]
      rfl
    · show (pushAnswer _ _).service = _
      rw [pushAnswer_service, hservice]

/-- An owner that does not see the link ports acts as at the step's beginning. -/
theorem requestStep_reports_blind {f : State → State} {res : Result}
    (he : exec c s = .next (requestStep v mine kind req s)) (h : Asks v kind layout a s)
    (hparse : parseRequest kind (layout a) = some r) (hreq : req a = some r)
    (hmine : mine r = true) (hnoreset : (r == .reset) = false)
    (hacted : actedAt v r s = acted res (f (handledAt v s))) (hf : LinkBlind f)
    (hservice : ∀ u, (f u).service = u.service) (hcs : causesOf [] s (f s) = cs)
    (hp : ∀ d, Answered v kind res s d → KeepsBut [answerPart v] (f s) d → P d) :
    LeadsReporting c s cs P := by
  have hstate : (actedAt v r s).state = handledAt v (f s) := by
    rw [hacted]
    exact hf.handledAt_eq v s
  have hkeep : KeepsBut [answerPart v] (f s) (actedAt v r s).state := by
    rw [hstate]
    exact handledAt_keeps v (f s)
  refine requestStep_reports (own := id) he h hparse hreq hmine (fun l hl => ?_) ?_
    ((causesOf_answer hkeep).trans hcs) fun d ha hk => hp d ?_ (hkeep.trans hk)
  · subst hl
    rw [hstate]
    show (beginPrompt l _ (f s)).link l = _
    rw [beginPrompt_link_same, hf.link_eq]
    rfl
  · rw [hstate, handledAt_service, hservice]
  · rw [hacted, hnoreset] at ha
    exact ha

end Requests

end Sys2Proof.Machine
end

section
/-! TAKE (R140, R141): judged on the authority and the freshness at its handling. -/

namespace Sys2Proof.Machine

-- One proof after the other: side by side their threads want too much memory.
set_option Elab.async false

section Take

variable {l : Link} {s : State}

/-- R140: the three rows, at the head's handling. -/
theorem takeCommand_beginPrompt (rest : List Message) :
    takeCommand l (beginPrompt l rest s) =
      if s.authority.holder = some l then
        some ((beginPrompt l rest s).setAuthority { s.authority with pendingTake := none })
      else if (s.link l).usable then
        some ((beginPrompt l rest s).setAuthority { s.authority with pendingTake := some l })
      else none := by
  cases l <;> rfl

/-- A TAKE writes the pending take alone. -/
theorem take_answers {p : Option Link} {r : Result} (h : Asks (.port l) kindTake noBody () s)
    (hacted : performTake l (beginPrompt l (s.link l).prompts.tail s) =
      acted r ((beginPrompt l (s.link l).prompts.tail s).setAuthority
        { s.authority with pendingTake := p })) :
    Leads (.take l) s fun t =>
      t.authority = { s.authority with pendingTake := p } ∧
        Answered (.port l : Via Unit) kindTake r s t ∧ KeepsBut [linkPart l, .authority] s t := by
  have hat : actedAt (.port l : Via Unit) .take s = acted r
      ((beginPrompt l (s.link l).prompts.tail s).setAuthority
        { s.authority with pendingTake := p }) := hacted
  refine (requestStep_reports (v := (.port l : Via Unit)) (mine := (· == .take))
    (req := fun _ => some .take) (own := id) rfl h parseRequest_take rfl rfl (fun k hk => ?_) ?_ ?_
    fun d ha hk => ?_).leads
  · cases hk
    rw [hat]
    show (State.setAuthority _ _).link l = _
    rw [setAuthority_link, beginPrompt_link_same]
    rfl
  · rw [hat]
    cases l <;> rfl
  · rw [hat]
    cases l <;> simp [causesOf, acted, beginPrompt]
  · rw [hat] at ha hk
    have hauth : d.authority = { s.authority with pendingTake := p } :=
      hk.authority_eq (notMem_answerPart (.port l : Via Unit) (by decide))
    refine ⟨hauth, ha, ?_⟩
    exact (setAuthority_keeps _ ((setLink_keepsBut l _ s).mono (by simp)) (by simp)).trans
      (hk.mono (by simp [answerPart]))

end Take

/-- Settles O23: the row that holds at the handling writes the pending take, the last one as it
stood. -/
theorem takeIsJudgedAtHandling : Obligations.TakeIsJudgedAtHandling := by
  intro l s h pends
  have htake := takeCommand_beginPrompt (l := l) (s := s) (s.link l).prompts.tail
  split_ifs with hh hu
  · refine take_answers h ?_
    rw [performTake, htake, if_pos hh]
  · refine take_answers h ?_
    rw [performTake, htake, if_neg hh, if_pos hu]
  · refine take_answers h ?_
    rw [performTake, htake, if_neg hh, if_neg hu]
    cases l <;> rfl

end Sys2Proof.Machine
end

section
/-! REPORT_TICK and the bytes of a capacity report (R147 to R149, R9, R38). -/

namespace Sys2Proof.Machine

-- One proof after the other: side by side their threads want too much memory.
set_option Elab.async false

/-! ## Masks -/

/-- Each cause has a bit of its own. -/
theorem Cause.bit_injective : Function.Injective Cause.bit :=
  Function.LeftInverse.injective
    (g := fun n => [Cause.periodic, .capacity, .short, .authority, .output, .power].getD n .periodic)
    fun c => by cases c <;> rfl

theorem causesMask_lt (cs : List Cause) : causesMask cs < 64 := by
  rw [causesMask, maskOf_eq_ofBits]
  exact Nat.ofBits_lt_two_pow _

theorem testBit_causesMask (cs : List Cause) (c : Cause) :
    (causesMask cs).testBit c.bit = true ↔ c ∈ cs := by
  have hc : c.bit < 6 := by cases c <;> decide
  rw [causesMask, maskOf_eq_ofBits, Nat.testBit_ofBits_lt _ _ hc, List.any_eq_true]
  simp only [beq_iff_eq, Cause.bit_injective.eq_iff, exists_eq_right]

section Body

variable {s : State}

theorem reportFlags_lt (s : State) : s.reportFlags < 16 := by
  rw [State.reportFlags, maskOf_eq_ofBits]
  exact Nat.ofBits_lt_two_pow _

/-- The flags' bits in the order of R148. -/
theorem testBit_reportFlags (s : State) :
    (s.reportFlags.testBit 0 = true ↔ s.builtGeneration = none) ∧
    (s.reportFlags.testBit 1 = true ↔ s.store.identityValid = false) ∧
    (s.reportFlags.testBit 2 = true ↔ s.store.driftReset = true) ∧
    (s.reportFlags.testBit 3 = true ↔ s.chip.config = .opened) := by
  unfold State.reportFlags
  rw [maskOf_eq_ofBits, Nat.testBit_ofBits_lt _ 0 (by decide), Nat.testBit_ofBits_lt _ 1 (by decide),
    Nat.testBit_ofBits_lt _ 2 (by decide), Nat.testBit_ofBits_lt _ 3 (by decide)]
  exact ⟨beq_iff_eq, iff_of_eq (Bool.not_eq_true' _), Iff.rfl, beq_iff_eq⟩

/-! ## The built generation (R38) -/

theorem builtGeneration_eq_some_iff (h : s.render.zones ≠ []) (g : Nat) :
    s.builtGeneration = some g ↔ ∀ z ∈ s.render.zones, z.built = true ∧ z.generation = g := by
  unfold State.builtGeneration
  cases hz : s.render.zones with
  | nil => exact absurd hz h
  | cons z zs =>
    simp only [Option.ite_none_right_eq_some, Option.some.injEq, List.all_eq_true,
      Bool.and_eq_true, beq_iff_eq]
    constructor
    · rintro ⟨hall, rfl⟩
      exact hall
    · intro hall
      have hg : z.generation = g := (hall z List.mem_cons_self).2
      exact ⟨hg ▸ hall, hg⟩

theorem builtGeneration_eq_none_iff (h : s.render.zones ≠ []) :
    s.builtGeneration = none ↔
      ¬∃ g, ∀ z ∈ s.render.zones, z.built = true ∧ z.generation = g := by
  rw [Option.eq_none_iff_forall_ne_some, not_exists]
  exact forall_congr' fun g => not_congr (builtGeneration_eq_some_iff h g)

/-! ## Codes of one byte (R189) -/

theorem putU8_holderCode (o : Option Link) :
    putU8 (holderCode o) = [match o with | none => 0 | some .a => 1 | some .b => 2] := by
  rcases o with _ | _ | _ <;> rfl

theorem putU8_outputCode (o : OutputState) :
    putU8 o.code = [match o with | .rendering => 0 | .holding => 1 | .blanked => 2] := by
  cases o <;> rfl

theorem putU8_powerCode (p : PowerState) :
    putU8 p.code =
      [match p with
       | .run => 0 | .dark => 1 | .restingEntry => 2 | .rest => 3 | .restSample => 4] := by
  cases p <;> rfl

/-! ## The 43 bytes (R148) -/

variable (n : Nat) (cs : List Cause)

theorem length_reportBody (h : s.store.constants.serial.length = 8) :
    (s.reportBody n cs).length = 43 := by
  simp [State.reportBody, h]

theorem reportBody_fields (h : s.store.constants.serial.length = 8) :
    FieldAt (s.reportBody n cs) 0 (putU16 n) ∧
    FieldAt (s.reportBody n cs) 2 (putU8 (causesMask cs)) ∧
    FieldAt (s.reportBody n cs) 3 s.store.constants.serial ∧
    FieldAt (s.reportBody n cs) 11 (putU32 s.gain.tileCapacity) ∧
    FieldAt (s.reportBody n cs) 15
      (putU8 s.gain.weakest ++ putU8 s.gain.shortCount ++ putU8 s.gain.cappedCount) ∧
    FieldAt (s.reportBody n cs) 18 (putU32 (min 4294967295 s.render.limited.sum)) ∧
    FieldAt (s.reportBody n cs) 22 (putU16 s.authority.record.generation) ∧
    FieldAt (s.reportBody n cs) 24 (putU16 (s.builtGeneration.getD 0)) ∧
    FieldAt (s.reportBody n cs) 26 (putU8 s.reportFlags) ∧
    FieldAt (s.reportBody n cs) 27 (putU8 (holderCode s.authority.holder) ++
      putU8 s.authority.output.code ++ putU8 s.chip.power.code) ∧
    FieldAt (s.reportBody n cs) 30 (putU8 s.sensorsLost) ∧
    FieldAt (s.reportBody n cs) 31
      (putU32 s.wear.kappa.r ++ putU32 s.wear.kappa.g ++ putU32 s.wear.kappa.b) := by
  have hlimited : s.limitedTotal = min 4294967295 s.render.limited.sum := rfl
  unfold State.reportBody
  rw [hlimited]
  refine ⟨?_, ?_, ?_, ?_, ?_, ?_, ?_, ?_, ?_, ?_, ?_, ?_⟩ <;>
    simp only [List.append_assoc, fieldAt_skip, fieldAt_cons, fieldAt_start, fieldAt_whole, h,
      length_putU8, length_putU16, length_putU32, Nat.reduceLeDiff, Nat.reduceSub]

end Body

/-! ## The tick -/

/-- The tick's own rule leaves authority, output and power: its one cause is PERIODIC. -/
theorem reportTick_reports {s : State} (h : s.timebaseRuns = true) :
    LeadsReporting .reportTick s [.periodic] fun d =>
      d = s.setTimebase { s.timebase with report := s.settings.reportInterval } := by
  let d := s.setTimebase { s.timebase with report := s.settings.reportInterval }
  have hcauses : causesOf [.periodic] d d = [.periodic] := by simp [causesOf]
  exact ⟨d, _, congrArg Host.Outcome.next (if_pos h), rfl, hcauses ▸ reported_conclude _ d d⟩

/-- Settles O12: the tick by `reportTick_reports`; the bytes one field behind another, with the
flags and the causes' mask bit by bit. -/
theorem reportTickReports : Obligations.ReportTickReports := by
  refine ⟨fun s h => reportTick_reports h, fun n cs s h => ?_, fun cs => ⟨causesMask_lt cs, ?_⟩⟩
  · intro body total mixed
    obtain ⟨hnumber, hmask, hserial, hcapacity, hgain, htotal, hgeneration, hbuilt, hflags, hcodes,
      hlost, hkappa⟩ := reportBody_fields n cs h
    obtain ⟨hmixed, hinvalid, hreset, hopen⟩ := testBit_reportFlags s
    rw [putU8_holderCode, putU8_outputCode, putU8_powerCode] at hcodes
    refine ⟨length_reportBody n cs h, hnumber, hmask, hserial, hcapacity, hgain, htotal,
      hgeneration, fun hz => ⟨fun hnone => ?_, fun g hg => ?_, s.reportFlags, hflags,
        reportFlags_lt s, hmixed.trans (builtGeneration_eq_none_iff hz), hinvalid, hreset, hopen⟩,
      hcodes, hlost, hkappa⟩
    · rw [(builtGeneration_eq_none_iff hz).mpr hnone] at hbuilt
      exact hbuilt
    · rw [(builtGeneration_eq_some_iff hz g).mpr hg] at hbuilt
      exact hbuilt
  · intro c
    have hbit := testBit_causesMask cs c
    cases c <;> exact hbit

end Sys2Proof.Machine
end

section
/-! WALL (R142 to R144): the record read back from its layout, stored on its link and, on the
authority link, put in force, with the work that then follows. -/

namespace Sys2Proof.Machine

-- One proof after the other: side by side their threads want too much memory.
set_option Elab.async false

/-! ## Numbers read back from their fields (R189) -/

section Fields

variable {bs : List Byte} {off : Nat}

theorem getU16_of_fieldAt {v : Nat} (h : FieldAt bs off (putU16 v)) (hv : v ≤ 65535) :
    getU16 off bs = v := by
  rw [FieldAt, length_putU16] at h
  rw [getU16, h, putU16, leNat_leBytes]
  exact Nat.mod_eq_of_lt (by omega)

theorem getU32_of_fieldAt {v : Nat} (h : FieldAt bs off (putU32 v)) (hv : v ≤ 4294967295) :
    getU32 off bs = v := by
  rw [FieldAt, length_putU32] at h
  rw [getU32, h, putU32, leNat_leBytes]
  exact Nat.mod_eq_of_lt (by omega)

theorem getS16_of_fieldAt {v : Int} (h : FieldAt bs off (putS16 v))
    (hv : -32768 ≤ v ∧ v ≤ 32767) : getS16 off bs = v := by
  rw [FieldAt, length_putS16] at h
  rw [getS16, h, putS16, leInt_leSigned] <;> omega

/-- A row of a matrix, coefficient by coefficient. -/
theorem getRow_of_fieldAt {r : Row3} (h : FieldAt bs off (putRow r)) (hr : rowFits r) :
    (⟨getS16 off bs, getS16 (off + 2) bs, getS16 (off + 4) bs⟩ : Row3) = r := by
  obtain ⟨h0, h1, h2⟩ := hr
  have hlen : (putRow r).length = 6 := by simp [putRow]
  have hfield : ∀ {n : Nat} {x : Int}, n ≤ 6 → FieldAt (putRow r) n (putS16 x) →
      FieldAt bs (off + n) (putS16 x) := fun hn k => h.field (by omega) k
  have f0 : FieldAt bs off (putS16 r.x0) := hfield (n := 0) (by omega) (by
    simp only [putRow, List.append_assoc, fieldAt_start])
  have f1 : FieldAt bs (off + 2) (putS16 r.x1) := hfield (by omega) (by
    simp [putRow, fieldAt_skip, fieldAt_start])
  have f2 : FieldAt bs (off + 4) (putS16 r.x2) := hfield (by omega) (by
    simp [putRow, fieldAt_skip, fieldAt_whole])
  rw [getS16_of_fieldAt f0 h0, getS16_of_fieldAt f1 h1, getS16_of_fieldAt f2 h2]

theorem getMat_of_fieldAt {m : Mat3} (h : FieldAt bs off (putMat m)) (hm : matFits m) :
    getMat off bs = m := by
  obtain ⟨h0, h1, h2⟩ := hm
  have hrow : ∀ r : Row3, (putRow r).length = 6 := fun r => by simp [putRow]
  have hlen : (putMat m).length = 18 := by simp [putMat, hrow]
  have f0 : FieldAt bs off (putRow m.r0) := h.field (n := 0) (by omega) (by
    simp only [putMat, List.append_assoc, fieldAt_start])
  have f1 : FieldAt bs (off + 6) (putRow m.r1) := h.field (by omega) (by
    simp [putMat, hrow, fieldAt_skip, fieldAt_start])
  have f2 : FieldAt bs (off + 12) (putRow m.r2) := h.field (by omega) (by
    simp [putMat, hrow, fieldAt_skip, fieldAt_whole])
  exact congr (congr (congrArg Mat3.mk (getRow_of_fieldAt f0 h0)) (getRow_of_fieldAt f1 h1))
    (getRow_of_fieldAt f2 h2)

end Fields

/-- The layout of a WALL is read back. -/
theorem parseWall_wallBody {r : WallRecord} (h : recordFits r) :
    parseWall (wallBody r) = some (.wall r) := by
  obtain ⟨hgeneration, htarget, hceiling⟩ := h
  have hmat : (putMat r.target).length = 18 := by simp [putMat, putRow]
  have f0 : FieldAt (wallBody r) 0 (putU16 r.generation) := by
    simp only [wallBody, List.append_assoc, fieldAt_start]
  have f2 : FieldAt (wallBody r) 2 (putMat r.target) := by
    simp [wallBody, fieldAt_skip, fieldAt_start]
  have f20 : FieldAt (wallBody r) 20 (putU32 r.ceiling) := by
    simp [wallBody, fieldAt_skip, fieldAt_whole, hmat]
  rw [parseWall, if_pos (by simp [wallBody, hmat]), getU16_of_fieldAt f0 hgeneration,
    getMat_of_fieldAt f2 htarget, getU32_of_fieldAt f20 hceiling]

/-! ## The record stored and in force (R142, R144) -/

section Wall

variable {l : Link} {r : WallRecord} {s : State}

/-- R142: the record in force follows a WALL of the authority link. -/
def walled (l : Link) (r : WallRecord) (s : State) : State :=
  if s.authority.holder = some l then putInForce r s else s

/-- R144: the record in force, and the work it asks of the composer. -/
theorem putInForce_writes (r : WallRecord) (s : State) :
    (putInForce r s).authority = { s.authority with record := r } ∧
      (putInForce r s).composer = composerWithRecord s.authority.record r s.composer ∧
      KeepsBut [.authority, .composer] s (putInForce r s) := by
  refine ⟨?_, ?_, putInForce_keeps r (KeepsBut.refl _ s) (by simp)⟩ <;> rw [putInForce_eq] <;> rfl

/-- In a steady state with a busy composer no work follows a record put in force. -/
theorem settleWork_putInForce_of_busy (hs : Steady s) (hb : Busy s) :
    settleWork (putInForce r s) = putInForce r s := by
  rw [putInForce_eq]
  exact settleWork_of_asked hs hb rfl rfl rfl rfl

theorem linkBlind_putInForce (r : WallRecord) : LinkBlind (putInForce r) := fun l p s => by
  rw [putInForce_eq, putInForce_eq, setLink_authority, setLink_composer]
  cases l <;> rfl

/-- A WALL writes the port's stored record, and what `walled` says. -/
theorem storeRecord_setLink (p : LinkPort) :
    storeRecord l r (s.setLink l p) = (walled l r s).setLink l { p with stored := some r } := by
  have hport : (s.setLink l p).setLink l { p with stored := some r } =
      s.setLink l { p with stored := some r } := by cases l <;> rfl
  unfold storeRecord walled
  dsimp only
  rw [setLink_link_same, hport, setLink_authority]
  split_ifs
  · exact linkBlind_putInForce r l _ s
  · rfl

theorem performWall_state (p : LinkPort) :
    (performWall l r (s.setLink l p)).state =
      (settleWork (walled l (clampRecord r) s)).setLink l
        { p with stored := some (clampRecord r) } := by
  show settleWork (storeRecord l (clampRecord r) (s.setLink l p)) = _
  rw [storeRecord_setLink, settleWork_setLink]

theorem walled_keeps (l : Link) (r : WallRecord) (s : State) :
    KeepsBut [.authority, .composer] s (walled l r s) := by
  unfold walled
  split_ifs
  · exact putInForce_keeps r (KeepsBut.refl _ s) (by simp)
  · exact KeepsBut.refl _ s

/-- A WALL leaves holder, output and power. -/
theorem causesOf_walled : causesOf [] s (settleWork (walled l r s)) = [] := by
  have hk : KeepsBut [.composer, .store, .driver, .thermal, .wear] (walled l r s)
      (settleWork (walled l r s)) := settleWork_keeps (KeepsBut.refl _ _) (by simp)
  have hwalled : causesOf [] s (walled l r s) = [] := by
    unfold walled
    split_ifs
    · rw [putInForce_eq]
      simp [causesOf]
    · simp [causesOf]
  exact (causesOf_congr (hk.authority_eq (by decide)) (hk.chip_eq (by decide))).trans hwalled

/-- A WALL's answer, and the work that followed in its step. -/
theorem wall_answers (hr : recordFits r) (h : Asks (.port l) kindWall wallBody r s) :
    Leads (.wall l) s fun t =>
      AnsweredWith (.port l : Via Unit) kindWall false
          (if r.ceiling ≤ 65536 then .done else .clamped) []
          (fun p => { p with stored := some (clampRecord r) }) s t ∧
        KeepsBut [linkPart l] (settleWork (walled l (clampRecord r) s)) t := by
  have hstate : (actedAt (.port l : Via WallRecord) (.wall r) s).state =
      (settleWork (walled l (clampRecord r) s)).setLink l
        { s.link l with
          prompts := (s.link l).prompts.tail, awaiting := true
          stored := some (clampRecord r) } := performWall_state (l := l) _
  have hkeep : KeepsBut [answerPart (.port l : Via WallRecord)]
      (settleWork (walled l (clampRecord r) s)) (actedAt (.port l : Via WallRecord) (.wall r) s).state := by
    rw [hstate]
    exact setLink_keepsBut l _ _
  refine (requestStep_reports (v := .port l) (mine := Request.isWall)
    (req := fun r => some (.wall r)) (own := fun p => { p with stored := some (clampRecord r) })
    rfl h ((parseRequest_wall _).trans (parseWall_wallBody hr)) rfl rfl (fun k hk => ?_) ?_
    ((causesOf_answer hkeep).trans causesOf_walled) fun d ha hk => ⟨ha, hkeep.trans hk⟩).leads
  · cases hk
    rw [hstate, setLink_link_same]
  · have hwork : KeepsBut [.authority, .composer, .store, .driver, .thermal, .wear] s
        (settleWork (walled l (clampRecord r) s)) :=
      settleWork_keeps ((walled_keeps l _ s).mono (by simp)) (by simp)
    rw [hstate, setLink_service]
    exact hwork .service (by decide)

end Wall

/-- Settles O22: the record clamped and stored; on the authority link the work that follows the new
record in force, on the other link the work of the state as it stood. -/
theorem wallStoredAndInForce : Obligations.WallStoredAndInForce := by
  intro l r s hr h r'
  refine (wall_answers hr h).mono fun t ⟨ha, hk⟩ => ⟨ha, fun hh => ?_, fun hh => ?_⟩
  · rw [walled, if_pos hh] at hk
    exact ⟨_, .intro (putInForce_writes r' s) fun hs hb => by
      rw [settleWork_putInForce_of_busy hs hb]
      exact putInForce_writes r' s, hk⟩
  · rw [walled, if_neg hh] at hk
    exact ⟨_, .intro rfl id, hk⟩

end Sys2Proof.Machine
end

section
/-! What follows in a step where no decision comes due: the banks, what moves into force, and the
scan (R12, R15, R17, R54). -/

namespace Sys2Proof.Machine

-- One proof after the other: side by side their threads want too much memory.
set_option Elab.async false

section Settling

variable {s t u : State}

/-- Being busy asks for the composer, and whether it is stopped. -/
theorem Busy.congr_stopped (h : Busy s) (hr : t.composer.running = s.composer.running)
    (hd : t.composer.deferred = s.composer.deferred)
    (hc : t.composerStopped = s.composerStopped) : Busy t := by
  unfold Busy
  rw [hr, hd, hc]
  exact h

theorem NoDecision.congr_stopped (h : NoDecision s) (hk : t.composer = s.composer)
    (hc : t.composerStopped = s.composerStopped) : NoDecision t :=
  h.imp (fun hb => hb.congr_stopped (by rw [hk]) (by rw [hk]) hc) fun hi => by rw [hk]; exact hi

/-- R54: the scan grants nothing: the port is taken, or no request takes part. -/
def NothingToGrant (s : State) : Prop := s.store.port ≠ .free ∨ ∀ r, ¬Seeks s r

theorem NothingToGrant.congr (h : NothingToGrant s) (hw : t.store = s.store)
    (hc : t.composerStopped = s.composerStopped) : NothingToGrant t := by
  have hseeks : ∀ r, Seeks t r ↔ Seeks s r := fun r => by
    unfold Seeks
    rw [hw, hc]
  simpa only [NothingToGrant, hw, hseeks] using h

theorem Steady.nothingToGrant (h : Steady s) : NothingToGrant s := h.2.2.2

/-- Nothing waits to move into force at once. -/
def NothingToForce (s : State) : Prop :=
  s.isRendering = true ∨
    (∀ z, s.composer.staging ≠ .staged z) ∧ s.render.pendingGain = none

theorem Steady.nothingToForce (h : Steady s) : NothingToForce s := h.2.2.1

/-- What moves into force does not stop the composer, and leaves its job. -/
theorem Busy.settleRender (h : Busy s) : Busy (settleRender s) := by
  obtain ⟨g, p, hc⟩ := settleRender_composer s
  have hk : KeepsBut [.render, .composer] s (Sys2Proof.Machine.settleRender s) :=
    settleRender_keeps (KeepsBut.refl _ s) (by simp)
  exact h.congr_stopped (by rw [hc]) (by rw [hc]) (hk.composerStopped_eq (by decide))

/-- A busy composer neither takes a read nor a decision. -/
theorem settle_of_busy_composer (h : Busy u) :
    settle u = settleStore (settleRender (settleBanks u)) := by
  have hb : Busy (settleBanks u) := h
  rw [settle, takeDeferred_of_none hb.1, settleWork, settleComposer_of_busy hb.settleRender]

/-- Then only the banks and what moves into force follow, where the arbiter has nothing to grant. -/
theorem settle_of_busy_granted (h : Busy u) (hg : NothingToGrant u) :
    settle u = settleRender (settleBanks u) := by
  have hk : KeepsBut [.render, .composer] (settleBanks u) (settleRender (settleBanks u)) :=
    settleRender_keeps (KeepsBut.refl _ _) (by simp)
  rw [settle_of_busy_composer h]
  exact settleStore_of_no_seeks
    (NothingToGrant.congr (s := u) hg (hk .store (by decide)) (hk.composerStopped_eq (by decide)))

/-- Only the banks follow where no decision is due and nothing waits. -/
theorem settle_of_forced (hn : NoDecision u) (hf : NothingToForce u) (hg : NothingToGrant u) :
    settle u = settleBanks u := by
  have hn' : NoDecision (settleBanks u) := hn
  have hf' : NothingToForce (settleBanks u) := hf
  have hg' : NothingToGrant (settleBanks u) := hg.congr rfl rfl
  rw [settle, takeDeferred_of_none hn'.deferred, settleRender_of_nothing hf', settleWork,
    settleComposer_of_noDecision hn', settleStore_of_no_seeks hg']

/-- While the engine is not rendering, what waits moves into force. -/
theorem settleRender_of_dark (h : u.isRendering = false) :
    settleRender u = (u.setRender (renderInForce u)).setComposer (composerInForce u) :=
  (forceFollows_settleRender u).trans (if_neg (by rw [h]; exact Bool.false_ne_true))

/-- What the banks follow is a matter of the driver before, and of the driver, the chip and the
authority after. -/
theorem BanksFollow.congr {s' t' : State} (h : BanksFollow s t) (hs : s'.driver = s.driver)
    (hd : t'.driver = t.driver) (hc : t'.chip = t.chip) (ha : t'.authority = t.authority) :
    BanksFollow s' t' := by
  unfold BanksFollow State.carries State.bank State.height at h ⊢
  rw [hs, hd, hc, ha]
  exact h

/-- The answer's part is no matter of the banks. -/
theorem BanksFollow.answered {α : Type} {v : Via α} (h : BanksFollow s t)
    (k : KeepsBut [answerPart v] t u) : BanksFollow s u :=
  h.congr rfl (k.driver_eq (notMem_answerPart v (by decide)))
    (k.chip_eq (notMem_answerPart v (by decide)))
    (k.authority_eq (notMem_answerPart v (by decide)))

/-- The chip's fields that no rule of what follows reads may change. -/
theorem Steady.setChip (h : Steady s) {v : Chip} (hp : v.power = s.chip.power)
    (hf : v.phase = s.chip.phase) (hc : v.config = s.chip.config)
    (hs : v.straps = s.chip.straps) : Steady (s.setChip v) := by
  have hstopped : (s.setChip v).composerStopped = s.composerStopped := by
    unfold State.composerStopped State.started
    rw [setChip_chip, hp, hf]
  have hrendering : (s.setChip v).isRendering = s.isRendering := by
    unfold State.isRendering
    rw [setChip_chip, hp, hc]
    rfl
  obtain ⟨hn, hbanks, hforce, hgrant⟩ := h
  refine ⟨hn.congr_stopped rfl hstopped, ?_, ?_, NothingToGrant.congr (s := s) hgrant rfl hstopped⟩
  · have hb : settleBanks (s.setChip v) = (settleBanks s).setChip v := by
      unfold settleBanks forgetRows primeBanks State.carries State.bank State.height
      simp only [setChip_chip, setDriver_chip, setChip_driver, setDriver_driver, hp, hc, hs]
      rfl
    rw [hb, hbanks]
  · rw [hrendering]
    exact hforce

end Settling

end Sys2Proof.Machine
end

section
/-! DARK and LIGHT (R146, R181, R182, R186): refused from a link that is not the authority; else the
power state they lead to, and what follows it. -/

namespace Sys2Proof.Machine

-- One proof after the other: side by side their threads want too much memory.
set_option Elab.async false

theorem LeadsReporting.mono {c : Instr} {s : State} {cs : List Cause} {P Q : State → Prop}
    (h : LeadsReporting c s cs P) (hq : ∀ d, P d → Q d) : LeadsReporting c s cs Q := by
  obtain ⟨d, t, he, hp, hr⟩ := h
  exact ⟨d, t, he, hq d hp, hr⟩

/-! ## Power commands (R146) -/

section PowerCommand

variable {v : Via Unit} {s : State} {row : Instr} {kind : Byte} {r : Request}
  {f : State → State}

theorem mayCommand_handledAt (v : Via Unit) (s : State) :
    (handledAt v s).mayCommand (originOf v) = true ↔ mayPass v s := by
  cases v with
  | port l =>
    have ha : (handledAt (.port l : Via Unit) s).authority = s.authority :=
      (handledAt_keeps _ s).authority_eq (notMem_answerPart _ (by decide))
    show ((handledAt (.port l : Via Unit) s).authority.holder == some l) = true ↔ _
    rw [ha, beq_iff_eq]
    rfl
  | tool tag a => exact ⟨fun _ => trivial, fun _ => rfl⟩

/-- A power command: its form, its row, and the rule of its owner. -/
structure PowerCommand (row : Via Unit → Instr) (kind : Byte) (r : Request)
    (f : State → State) : Prop where
  exec_row : ∀ v s, exec (row v) s = .next (plainStep kind r v s)
  parse : parseRequest kind [] = some r
  perform_eq : ∀ o s, perform o r s = powerCommand o f s
  not_reset : (r == .reset) = false
  blind : LinkBlind f
  keeps : ∀ s, KeepsBut [.chip, .composer, .store, .wear] s (f s)

variable {row : Via Unit → Instr}

/-- R146: from a link that is not the authority the command is refused. -/
theorem PowerCommand.refused (c : PowerCommand row kind r f) (h : Asks v kind noBody () s)
    (hno : ¬mayPass v s) : RefusedBy (row v) v kind .refusedState s := by
  have hacted : actedAt v r s = acted .refusedState (handledAt v s) :=
    (c.perform_eq _ _).trans (if_neg (mt (mayCommand_handledAt v s).mp hno))
  refine (requestStep_reports_blind (mine := (· == r)) (req := fun _ => some r) (c.exec_row v s) h
    c.parse rfl (beq_self_eq_true r) c.not_reset hacted linkBlind_id (fun _ => rfl) ?_
    fun d ha hk => ⟨ha, hk⟩).leads
  simp [causesOf]

/-- Else its owner's rule is carried out and settled, and the answer given behind it. -/
theorem PowerCommand.reports (c : PowerCommand row kind r f) (h : Asks v kind noBody () s)
    (hm : mayPass v s) {cs : List Cause} (hcs : causesOf [] s (f s) = cs) :
    LeadsReporting (row v) s cs fun d =>
      Answered v kind .done s d ∧ KeepsBut [answerPart v] (settle (f s)) d := by
  have hacted : actedAt v r s = acted .done (settle (f (handledAt v s))) :=
    (c.perform_eq _ _).trans (if_pos ((mayCommand_handledAt v s).mpr hm))
  have hsettle : ∀ u, KeepsBut [.chip, .composer, .store, .wear, .driver, .render, .thermal] u
      (settle (f u)) := fun u => settle_keeps ((c.keeps u).mono (by simp)) (by simp)
  have hcauses : causesOf [] s (settle (f s)) = cs :=
    (causesOf_congr (settle_authority (KeepsBut.refl [] (f s)) (by simp)) (settle_chip (f s))).trans
      hcs
  exact requestStep_reports_blind (mine := (· == r)) (req := fun _ => some r) (c.exec_row v s) h
    c.parse rfl (beq_self_eq_true r) c.not_reset hacted (linkBlind_settle.comp c.blind)
    (fun u => hsettle u .service (by decide)) hcauses fun d ha hk => ⟨ha, hk⟩

/-- A command that leaves the power state gives no report. -/
theorem PowerCommand.quiet (c : PowerCommand row kind r f) (h : Asks v kind noBody () s)
    (hm : mayPass v s) {x : HeldCommand} (hf : f s = setHeld x s) :
    Leads (row v) s (AnsweredAfter (QuietFrom s fun u =>
      u.chip = { s.chip with held := x } ∧ KeepsBut [.chip] s u) v kind .done s) := by
  have hcs : causesOf [] s (f s) = [] := by
    rw [hf]
    simp [causesOf, setHeld]
  refine ((c.reports h hm hcs).mono fun d ⟨ha, hk⟩ => ⟨settle (f s), ?_, ha, hk⟩).leads
  rw [hf]
  exact .intro ⟨rfl, setHeld_keeps x (KeepsBut.refl _ s) (by simp)⟩
    fun hs => hs.setChip rfl rfl rfl rfl

end PowerCommand

theorem linkBlind_commandDark : LinkBlind commandDark := fun l p s => by
  unfold commandDark
  rw [setLink_chip]
  cases s.chip.power <;> cases l <;> rfl

theorem linkBlind_commandLight : LinkBlind commandLight := fun l p s => by
  unfold commandLight
  rw [setLink_chip]
  cases s.chip.power <;> cases l <;> rfl

theorem powerCommand_dark : PowerCommand .dark kindDark .dark commandDark where
  exec_row _ _ := rfl
  parse := parseRequest_dark
  perform_eq _ _ := rfl
  not_reset := rfl
  blind := linkBlind_commandDark
  keeps s := commandDark_keeps (KeepsBut.refl _ s) (by simp)

theorem powerCommand_light : PowerCommand .light kindLight .light commandLight where
  exec_row _ _ := rfl
  parse := parseRequest_light
  perform_eq _ _ := rfl
  not_reset := rfl
  blind := linkBlind_commandLight
  keeps s := commandLight_keeps (KeepsBut.refl _ s) (by simp)

/-! ## Between RUN and DARK (R182) -/

section Goes

variable {s : State} {p : PowerState}

/-- What a steady part does as it goes over to `p`. -/
def GoneOver (p : PowerState) (s m : State) : Prop :=
  BanksFollow s m ∧
    (p = .dark → m.render = renderInForce s ∧ m.composer = composerInForce s) ∧
    (p = .run → m.render = s.render ∧ m.composer = s.composer) ∧
    KeepsBut [.chip, .render, .driver, .composer] s m

theorem setPower_composerStopped (h : p.resting = s.chip.power.resting) :
    (setPower p s).composerStopped = s.composerStopped := by
  unfold State.composerStopped State.started setPower
  rw [setChip_chip, h]

/-- R12: in DARK what waits moves into force. -/
theorem goneOver_dark (hp : s.chip.power = .run) (hs : Steady s) (hb : Busy s) :
    GoneOver .dark s (settle (setPower .dark s)) := by
  have hstopped : (setPower .dark s).composerStopped = s.composerStopped :=
    setPower_composerStopped (by rw [hp]; rfl)
  have hbusy : Busy (setPower .dark s) := hb.congr_stopped rfl rfl hstopped
  have hgrant : NothingToGrant (setPower .dark s) := hs.nothingToGrant.congr rfl hstopped
  rw [settle_of_busy_granted hbusy hgrant, settleRender_of_dark rfl]
  exact ⟨(banksFollow_settleBanks (setPower .dark s)).congr rfl rfl rfl rfl,
    fun _ => ⟨rfl, rfl⟩, fun h => PowerState.noConfusion h,
    setComposer_keeps _ (setRender_keeps _ (settleBanks_keeps (setPower_keeps _ (KeepsBut.refl _ s)
      (by simp)) (by simp)) (by simp)) (by simp)⟩

/-- Nothing waits that could move into force on the way back to RUN. -/
theorem goneOver_run (hp : s.chip.power = .dark) (hs : Steady s) :
    GoneOver .run s (settle (setPower .run s)) := by
  have hstopped : (setPower .run s).composerStopped = s.composerStopped :=
    setPower_composerStopped (by rw [hp]; rfl)
  have hdark : ¬s.isRendering = true := by simp [State.isRendering, hp]
  have hforce : NothingToForce (setPower .run s) := .inr (hs.nothingToForce.resolve_left hdark)
  have hnone : NoDecision (setPower .run s) := hs.1.congr_stopped rfl hstopped
  have hgrant : NothingToGrant (setPower .run s) := hs.nothingToGrant.congr rfl hstopped
  rw [settle_of_forced hnone hforce hgrant]
  exact ⟨(banksFollow_settleBanks (setPower .run s)).congr rfl rfl rfl rfl,
    fun h => PowerState.noConfusion h, fun _ => ⟨rfl, rfl⟩,
    settleBanks_keeps (setPower_keeps _ (KeepsBut.refl _ s) (by simp)) (by simp)⟩

/-- The answer's part is no matter of it. -/
theorem GoneOver.answered {α : Type} {v : Via α} {m d : State} (h : GoneOver p s m)
    (k : KeepsBut [answerPart v] m d) :
    BanksFollow s d ∧
      (p = .dark → d.render = renderInForce s ∧ d.composer = composerInForce s) ∧
      (p = .run → d.render = s.render ∧ d.composer = s.composer) ∧
      KeepsBut [.chip, .render, .driver, .composer, answerPart v] s d := by
  obtain ⟨hbanks, hdark, hrun, hkeep⟩ := h
  have hrender : d.render = m.render := k.render_eq (notMem_answerPart v (by decide))
  have hcomposer : d.composer = m.composer := k .composer (notMem_answerPart v (by decide))
  rw [hrender, hcomposer]
  exact ⟨hbanks.answered k, hdark, hrun, (hkeep.mono (by simp)).trans (k.mono (by simp))⟩

variable {v : Via Unit} {row : Via Unit → Instr} {kind : Byte} {r : Request} {f : State → State}

/-- A command that goes over to `p`, with its report. -/
theorem PowerCommand.goes (c : PowerCommand row kind r f) (h : Asks v kind noBody () s)
    (hm : mayPass v s) (hf : f s = setPower p s) (hp : p ≠ s.chip.power)
    (hgone : Steady s → p = .run ∨ Busy s → GoneOver p s (settle (setPower p s))) :
    LeadsReporting (row v) s [.power] fun d =>
      AnsweredAfter (Settled fun u =>
        u.chip = { s.chip with power := p } ∧ KeepsBut [.chip] s u) v kind .done s d ∧
      (Steady s → p = .run ∨ Busy s →
        BanksFollow s d ∧
        (p = .dark → d.render = renderInForce s ∧ d.composer = composerInForce s) ∧
        (p = .run → d.render = s.render ∧ d.composer = s.composer) ∧
        KeepsBut [.chip, .render, .driver, .composer, answerPart v] s d) := by
  have hcs : causesOf [] s (f s) = [.power] := by
    rw [hf]
    exact causesOf_power rfl hp
  refine (c.reports h hm hcs).mono fun d ⟨ha, hk⟩ => ?_
  rw [hf] at hk
  exact ⟨⟨_, .intro ⟨rfl, setPower_keeps p (KeepsBut.refl _ s) (by simp)⟩, ha, hk⟩,
    fun hs hb => (hgone hs hb).answered hk⟩

/-- A command that leaves the rest for `p`, with its report. -/
theorem PowerCommand.leaves (c : PowerCommand row kind r f) (h : Asks v kind noBody () s)
    (hm : mayPass v s) (hf : f s = leaveRest p s) (hp : p ≠ s.chip.power) :
    LeadsReporting (row v) s [.power] (AnsweredAfter (LeavesRest p s) v kind .done s) := by
  have hcs : causesOf [] s (f s) = [.power] := by
    rw [hf]
    exact causesOf_power rfl hp
  refine (c.reports h hm hcs).mono fun d ⟨ha, hk⟩ => ⟨_, leavesRest_leaveRest p s, ha, ?_⟩
  rw [hf] at hk
  exact hk

end Goes

/-- Settles O24: by the power state at handling. -/
theorem darkAndLight : Obligations.DarkAndLight := by
  intro v s
  refine ⟨fun l hv hno => ?_, fun hm => ?_⟩
  · subst hv
    exact ⟨fun h => powerCommand_dark.refused h hno, fun h => powerCommand_light.refused h hno⟩
  · intro goes holds leaves
    refine ⟨fun h => ?_, fun h => ?_⟩
    · cases hp : s.chip.power with
      | run =>
        exact powerCommand_dark.goes h hm (by rw [commandDark, hp]) (by rw [hp]; decide)
          fun hs hb => goneOver_dark hp hs (hb.resolve_left (by decide))
      | dark => exact powerCommand_dark.quiet h hm (by rw [commandDark, hp]; rfl)
      | restingEntry => exact powerCommand_dark.quiet h hm (by rw [commandDark, hp])
      | restSample => exact powerCommand_dark.quiet h hm (by rw [commandDark, hp])
      | rest => exact powerCommand_dark.leaves h hm (by rw [commandDark, hp]) (by rw [hp]; decide)
    · cases hp : s.chip.power with
      | run => exact powerCommand_light.quiet h hm (by rw [commandLight, hp]; rfl)
      | dark =>
        exact powerCommand_light.goes h hm (by rw [commandLight, hp]) (by rw [hp]; decide)
          fun hs _ => goneOver_run hp hs
      | restingEntry => exact powerCommand_light.quiet h hm (by rw [commandLight, hp])
      | restSample => exact powerCommand_light.quiet h hm (by rw [commandLight, hp])
      | rest => exact powerCommand_light.leaves h hm (by rw [commandLight, hp]) (by rw [hp]; decide)

end Sys2Proof.Machine
end

section
/-! REST (R146, R181, R183, R83, R87, R45): the entry to RESTING_ENTRY with its marked drift save,
which is granted at a free port where nothing else waits. -/

namespace Sys2Proof.Machine

-- One proof after the other: side by side their threads want too much memory.
set_option Elab.async false

/-! ## The marked save (R45, R54, R87) -/

section MarkedSave

variable {s u : State}

/-- Where nothing else waits, the marked save alone takes part in the scan. -/
theorem eligible_of_markedSave (hw : u.store.waiting = { Waiting.none with driftSave := some true })
    (r : Requester) : u.eligible r = true ↔ r = .driftSave := by
  rw [State.eligible, hw]
  cases r with
  | driftSave => exact iff_of_true rfl rfl
  | linkA => exact iff_of_false Bool.false_ne_true (by decide)
  | linkB => exact iff_of_false Bool.false_ne_true (by decide)
  | service => exact iff_of_false Bool.false_ne_true (by decide)
  | composer => exact iff_of_false Bool.false_ne_true (by decide)

/-- R54: at a free port with nothing else waiting the scan grants the marked save at once. -/
theorem settleStore_markedSave (ho : OpenTo .driftSave s)
    (hu : u.store =
      { s.store with waiting := { s.store.waiting with driftSave := some true } }) :
    SaveGranted true s (settleStore u) := by
  obtain ⟨hfree, hw, hlength, hmem⟩ := ho
  have hwaiting : u.store.waiting = { Waiting.none with driftSave := some true } := by
    rw [hu, hw]
  have heligible := eligible_of_markedSave hwaiting
  obtain ⟨p, hp, hphase⟩ := winningPhase_of_only (s := u) (r := .driftSave)
    (by rw [hu]; exact hlength) (by rw [hu]; exact hmem) ((heligible _).mpr rfl)
    fun q hq => Bool.eq_false_iff.mpr fun he => hq ((heligible q).mp he)
  have hgrant : settleStore u =
      grantRequest .driftSave (u.setStore { u.store with phasePointer := (p + 1) % 16 }) := by
    rw [settleStore, if_pos (by rw [hu]; exact hfree), hp]
    dsimp only
    rw [hphase]
  have hsave : (settleStore u).store =
      { u.store with
        phasePointer := (p + 1) % 16, waiting := Waiting.none
        port := .granted (.save true)
        drift := ⟨driftBytes u.wear, crc16 (driftBytes u.wear), true⟩ } := by
    rw [hgrant, grantRequest]
    dsimp only
    rw [setStore_store, hwaiting]
    rfl
  have hwear : (settleStore u).wear = u.wear :=
    settleStore_keeps (ps := [.store]) (KeepsBut.refl _ u) (by simp) .wear (by decide)
  rw [SaveGranted, hwear, hsave, hu, ← hw]

end MarkedSave

/-! ## The entry to RESTING_ENTRY (R183) -/

section Entry

variable {s : State}

/-- The composer once a pilot sequence has been abandoned: a changed κ requests GAIN (R83). -/
def abandonedComposer (s : State) : Composer :=
  { s.composer with
    gainPending := s.composer.gainPending || (decide (s.wear.state ≠ .idle) && s.wear.changed) }

/-- The wear unit then, its read left stale. -/
def abandonedWear (w : Wear) : Wear :=
  { w with
    state := .idle
    settleTimer := if w.state = .idle then w.settleTimer else 0
    staleRead :=
      (match w.state with
       | .read e => some e
       | .idle | .settle _ => w.staleRead) }

theorem abandonedWear_of_idle {w : Wear} (h : w.state = .idle) : abandonedWear w = w := by
  cases w
  cases h
  rfl

theorem abandonSequence_eq (s : State) :
    abandonSequence s = (s.setComposer (abandonedComposer s)).setWear (abandonedWear s.wear) := by
  have hstop : ∀ (w : Wear), s.wear.state ≠ .idle →
      (if s.wear.changed then requestGain (s.setWear w) else s.setWear w) =
        (s.setComposer (abandonedComposer s)).setWear w := fun w hn => by
    unfold abandonedComposer
    cases hc : s.wear.changed
    · simp only [Bool.and_false, Bool.or_false]
      rfl
    · simp only [decide_eq_true hn, Bool.and_true, Bool.or_true]
      rfl
  unfold abandonSequence
  cases hw : s.wear.state with
  | idle =>
    have hcomposer : abandonedComposer s = s.composer := by
      simp [abandonedComposer, hw]
    rw [hcomposer, abandonedWear_of_idle hw]
    rfl
  | settle e =>
    have hn : s.wear.state ≠ .idle := by simp [hw]
    refine (hstop _ hn).trans (congrArg (s.setComposer (abandonedComposer s)).setWear ?_)
    rw [abandonedWear, if_neg hn, hw]
  | read e =>
    have hn : s.wear.state ≠ .idle := by simp [hw]
    refine (hstop _ hn).trans (congrArg (s.setComposer (abandonedComposer s)).setWear ?_)
    rw [abandonedWear, if_neg hn, hw]

/-- R183: the state as the part enters RESTING_ENTRY. -/
def restEntered (s : State) : State :=
  (((s.setChip { s.chip with power := .restingEntry, held := .none }).setComposer
    (abandonedComposer s)).setStore
    { s.store with waiting := { s.store.waiting with driftSave := some true } }).setWear
    (abandonedWear s.wear)

theorem enterResting_eq (s : State) : enterResting s = restEntered s := by
  rw [enterResting, abandonSequence_eq, requestSave, Bool.or_true]
  rfl

theorem restEntered_keeps (s : State) :
    KeepsBut [.chip, .composer, .store, .wear] s (restEntered s) :=
  setWear_keeps _ (setStore_keeps _ (setComposer_keeps _ (setChip_keeps _ (KeepsBut.refl _ s)
    (by simp)) (by simp)) (by simp)) (by simp)

/-- What waits moves into force, whatever the request for GAIN. -/
theorem composerInForce_restEntered (s : State) :
    composerInForce (restEntered s) =
      { composerInForce s with gainPending := (abandonedComposer s).gainPending } := by
  have hstaging : (restEntered s).composer.staging = s.composer.staging := rfl
  unfold composerInForce
  rw [hstaging]
  cases s.composer.staging <;> rfl

/-- The state once the banks have followed and what waits has moved into force. -/
def restForced (s : State) : State :=
  ((settleBanks (restEntered s)).setRender (renderInForce s)).setComposer
    (composerInForce (restEntered s))

theorem settleRender_restEntered (s : State) :
    settleRender (settleBanks (restEntered s)) = restForced s := settleRender_of_dark rfl

theorem restForced_keeps (s : State) :
    KeepsBut [.chip, .composer, .store, .wear, .driver, .render] s (restForced s) :=
  setComposer_keeps _ (setRender_keeps _ (settleBanks_keeps ((restEntered_keeps s).mono (by simp))
    (by simp)) (by simp)) (by simp)

theorem restEntered_composerStopped (h : s.chip.power.resting = false) :
    (restEntered s).composerStopped = s.composerStopped := by
  unfold State.composerStopped State.started
  rw [h]
  rfl

/-- R87: with no decision due the marked save is granted where it alone waits at a free port. -/
theorem settle_restEntered_saves (ho : OpenTo .driftSave s)
    (hn : NoDecision ((restEntered s).setComposer (composerInForce (restEntered s)))) :
    SaveGranted true s (settle (restEntered s)) := by
  have hdeferred : (composerInForce (restEntered s)).deferred = s.composer.deferred := by
    rw [composerInForce_restEntered]
    unfold composerInForce
    cases s.composer.staging <;> rfl
  have hread : (settleBanks (restEntered s)).composer.deferred = none :=
    hdeferred.symm.trans hn.deferred
  have hnone : NoDecision (restForced s) := hn.congr_stopped rfl rfl
  rw [settle, takeDeferred_of_none hread, settleRender_restEntered, settleWork,
    settleComposer_of_noDecision hnone]
  exact settleStore_markedSave ho rfl

/-- What a busy part is left in, where the marked save waits or not. -/
theorem settle_restEntered_of_busy (hp : s.chip.power.resting = false) (hb : Busy s) :
    settle (restEntered s) = settleStore (restForced s) := by
  have hbusy : Busy (restEntered s) :=
    hb.congr_stopped rfl rfl (restEntered_composerStopped hp)
  rw [settle_of_busy_composer hbusy, settleRender_restEntered]

/-- R12, R17, R54: then the banks follow, what waits moves into force, and only the store's scan is
left. -/
theorem restEntry_of_busy (hp : s.chip.power.resting = false) (hb : Busy s) :
    (s.store.port ≠ .free → (settle (restEntered s)).store = (restEntered s).store) ∧
      (settle (restEntered s)).wear = (restEntered s).wear ∧
      (settle (restEntered s)).composer =
        { composerInForce s with gainPending := (abandonedComposer s).gainPending } ∧
      (settle (restEntered s)).render = renderInForce s ∧
      BanksFollow s (settle (restEntered s)) ∧
      KeepsBut [.chip, .render, .driver, .composer, .store, .wear] s (settle (restEntered s)) := by
  have hscan : KeepsBut [.store] (restForced s) (settleStore (restForced s)) :=
    settleStore_keeps (KeepsBut.refl _ _) (by simp)
  rw [settle_restEntered_of_busy hp hb, ← composerInForce_restEntered]
  refine ⟨fun hport => ?_, hscan .wear (by decide), hscan .composer (by decide),
    hscan.render_eq (by decide), ?_, ?_⟩
  · have htaken : (restForced s).store.port ≠ .free := hport
    rw [settleStore_of_taken htaken]
    rfl
  · exact (banksFollow_settleBanks (restEntered s)).congr rfl (hscan.driver_eq (by decide))
      (hscan.chip_eq (by decide)) (hscan.authority_eq (by decide))
  · exact ((restForced_keeps s).mono (by simp)).trans (hscan.mono (by simp))

end Entry

/-! ## The command (R146, R181) -/

section Command

variable {v : Via Unit} {s : State}

theorem linkBlind_commandRest : LinkBlind commandRest := fun l p s => by
  unfold commandRest
  rw [setLink_chip, enterResting_eq, enterResting_eq]
  cases s.chip.power <;> cases l <;> rfl

theorem powerCommand_rest : PowerCommand .rest kindRest .rest commandRest where
  exec_row _ _ := rfl
  parse := parseRequest_rest
  perform_eq _ _ := rfl
  not_reset := rfl
  blind := linkBlind_commandRest
  keeps s := commandRest_keeps (KeepsBut.refl _ s) (by simp)

/-- In REST the command changes nothing. -/
theorem rest_at_rest (h : Asks v kindRest noBody () s) (hm : mayPass v s)
    (hp : s.chip.power = .rest) :
    Leads (.rest v) s (AnsweredAfter (QuietFrom s fun u => u = s) v kindRest .done s) := by
  have hf : commandRest s = s := by rw [commandRest, hp]
  have hcs : causesOf [] s (commandRest s) = [] := by
    rw [hf]
    simp [causesOf]
  refine ((powerCommand_rest.reports h hm hcs).mono fun d ⟨ha, hk⟩ => ⟨_, ?_, ha, hk⟩).leads
  rw [hf]
  exact .intro rfl id

/-- From RUN and DARK it enters RESTING_ENTRY, with a report of the cause POWER. -/
theorem rest_enters (h : Asks v kindRest noBody () s) (hm : mayPass v s)
    (hp : s.chip.power = .run ∨ s.chip.power = .dark) :
    LeadsReporting (.rest v) s [.power] fun d =>
      Answered v kindRest .done s d ∧
        KeepsBut [answerPart v] (settle (restEntered s)) d := by
  have hf : commandRest s = restEntered s := by
    rw [← enterResting_eq]
    rcases hp with hp | hp <;> rw [commandRest, hp]
  have hpower : (restEntered s).chip.power ≠ s.chip.power := by
    rcases hp with hp | hp <;> rw [hp] <;> exact PowerState.noConfusion
  have hcs : causesOf [] s (commandRest s) = [.power] := by
    rw [hf]
    exact causesOf_power rfl hpower
  rw [← hf]
  exact powerCommand_rest.reports h hm hcs

end Command

/-- Settles O25: by the power state at handling; the entry by its state `restEntered`, and what
follows that. -/
theorem restBeginsWithAMarkedSave : Obligations.RestBeginsWithAMarkedSave := by
  intro v s h
  refine ⟨fun l hv hno => ?_, fun hm => ⟨fun hp => ?_, fun hp => ?_, rest_at_rest h hm⟩⟩
  · subst hv
    exact powerCommand_rest.refused h hno
  · intro asked entered
    refine (rest_enters h hm hp).mono fun d ⟨ha, hk⟩ => ⟨⟨_, .intro rfl, ha, hk⟩, ?_, ?_⟩
    · intro ho hn
      have hstore : d.store = (settle (restEntered s)).store :=
        hk .store (notMem_answerPart v (by decide))
      have hwear : d.wear = (settle (restEntered s)).wear :=
        hk .wear (notMem_answerPart v (by decide))
      rw [SaveGranted, hstore, hwear]
      exact settle_restEntered_saves ho hn
    · intro _ hb
      have hawake : s.chip.power.resting = false := by
        rcases hp with hp | hp <;> rw [hp] <;> rfl
      obtain ⟨hport, hwear, hcomposer, hrender, hbanks, hkeep⟩ := restEntry_of_busy hawake hb
      rw [hk .store (notMem_answerPart v (by decide)), hk .wear (notMem_answerPart v (by decide)),
        hk .composer (notMem_answerPart v (by decide)),
        hk .render (notMem_answerPart v (by decide))]
      exact ⟨hport, hwear, hcomposer, hrender, hbanks.answered hk,
        (hkeep.mono (by simp)).trans (hk.mono (by simp))⟩
  · refine powerCommand_rest.quiet h hm ?_
    rcases hp with hp | hp <;> rw [commandRest, hp]

end Sys2Proof.Machine
end

section
/-! What follows a change of the authority, the link ports and the settings (R12, R15, R54): nothing
from a steady state where the output state stays; what waits moves into force where it leaves
RENDERING. The composer's work leaves the banks. -/

namespace Sys2Proof.Machine

-- One proof after the other: side by side their threads want too much memory.
set_option Elab.async false

section Follows

variable {s t u : State}

/-! ## Banks and output state (R15) -/

/-- The banks ask of the output state only whether it is BLANKED. -/
theorem settleBanks_of_output (hb : settleBanks s = s) (hc : t.chip = s.chip)
    (ho : t.authority.output = .blanked ↔ s.authority.output = .blanked)
    (hd : t.driver = s.driver) : settleBanks t = t := by
  have hsame : settleBanks t = t.setDriver (settleBanks s).driver := by
    unfold settleBanks forgetRows primeBanks State.carries State.bank State.height
    simp only [setDriver_chip, setDriver_authority, setDriver_driver, hc, hd, ho]
    rfl
  rw [hsame, hb, ← hd]
  rfl

/-- The parts of the authority unit, the ports and the settings. -/
def authorityParts : List Part := [.settings, .linkA, .linkB, .authority]

/-- A steady state stays steady where the output state does. -/
theorem Steady.through_authority (h : Steady s) (k : KeepsBut authorityParts s u)
    (ho : u.authority.output = s.authority.output) : Steady u := by
  obtain ⟨hn, hbanks, hforce, hgrant⟩ := h
  have hchip : u.chip = s.chip := k.chip_eq (by decide)
  have hcomposer : u.composer = s.composer := k .composer (by decide)
  have hstopped : u.composerStopped = s.composerStopped := k.composerStopped_eq (by decide)
  refine ⟨hn.congr_stopped hcomposer hstopped,
    settleBanks_of_output hbanks hchip (by rw [ho]) (k.driver_eq (by decide)), ?_,
    NothingToGrant.congr (s := s) hgrant (k .store (by decide)) hstopped⟩
  rw [isRendering_congr hchip ho, hcomposer, k.render_eq (by decide)]
  exact hforce

/-- Nothing follows from a steady state with a busy composer, where the output state stays and only
work is asked of the composer. -/
theorem settle_of_asked (hs : Steady s) (hb : Busy s)
    (k : KeepsBut (.composer :: authorityParts) s u)
    (ho : u.authority.output = s.authority.output)
    (hr : u.composer.running = s.composer.running)
    (hd : u.composer.deferred = s.composer.deferred)
    (hst : u.composer.staging = s.composer.staging) : settle u = u := by
  have hchip : u.chip = s.chip := k.chip_eq (by decide)
  have hstopped : u.composerStopped = s.composerStopped := k.composerStopped_eq (by decide)
  have hforce : NothingToForce u := by
    unfold NothingToForce
    rw [isRendering_congr hchip ho, hst, k.render_eq (by decide)]
    exact hs.nothingToForce
  have hgrant : NothingToGrant u := hs.nothingToGrant.congr (k .store (by decide)) hstopped
  rw [settle_of_forced (.inl (hb.congr_stopped hr hd hstopped)) hforce hgrant]
  exact settleBanks_of_output hs.2.1 hchip (by rw [ho]) (k.driver_eq (by decide))

/-! ## What moves into force (R12) -/

theorem renderInForce_congr (hr : u.render = s.render) (hc : u.composer = s.composer) :
    renderInForce u = renderInForce s := by
  unfold renderInForce
  rw [hr, hc]

theorem composerInForce_congr (hc : u.composer = s.composer) :
    composerInForce u = composerInForce s := by
  unfold composerInForce
  rw [hc]

/-- Where no read is kept and the engine is not rendering, what waits moves into force. -/
theorem settle_render_of_dark (hd : u.composer.deferred = none) (hr : u.isRendering = false) :
    (settle u).render = renderInForce u := by
  have hb : (settleBanks u).composer.deferred = none := hd
  have hdark : (settleBanks u).isRendering = false := hr
  have hk : KeepsBut [.composer, .store, .driver, .thermal, .wear]
      (settleRender (settleBanks u)) (settle u) := by
    rw [settle, takeDeferred_of_none hb]
    exact settleWork_keeps (KeepsBut.refl _ _) (by simp)
  rw [hk.render_eq (by decide), settleRender_of_dark hdark]
  rfl

theorem settle_composer_of_busy (hb : Busy u) (hr : u.isRendering = false) :
    (settle u).composer = composerInForce u := by
  have hdark : (settleBanks u).isRendering = false := hr
  rw [settle_of_busy_composer hb, settleStore_composer, settleRender_of_dark hdark]
  rfl

/-- The output state leaves RENDERING: from a steady state with a busy composer only what waits
moves into force. -/
theorem settle_keeps_of_held (hs : Steady s) (hb : Busy s) (k : KeepsBut authorityParts s u)
    (ho : u.authority.output = .blanked ↔ s.authority.output = .blanked) :
    KeepsBut [.render, .composer] u (settle u) := by
  have hchip : u.chip = s.chip := k.chip_eq (by decide)
  have hcomposer : u.composer = s.composer := k .composer (by decide)
  have hstopped : u.composerStopped = s.composerStopped := k.composerStopped_eq (by decide)
  have hbusy : Busy u := hb.congr_stopped (by rw [hcomposer]) (by rw [hcomposer]) hstopped
  have hgrant : NothingToGrant u := hs.nothingToGrant.congr (k .store (by decide)) hstopped
  have hbanks : settleBanks u = u :=
    settleBanks_of_output hs.2.1 hchip ho (k.driver_eq (by decide))
  rw [settle_of_busy_granted hbusy hgrant, hbanks]
  exact settleRender_keeps (KeepsBut.refl _ u) (by simp)

/-! ## Work and banks -/

theorem startJob_banks (k : JobKind) (s : State) :
    (startJob k s).driver.banks = s.driver.banks := by
  cases k with
  | build =>
    have hk : KeepsBut [.composer, .store] s (startJob .build s) :=
      takeZone_keeps (setRunning_keeps _ (KeepsBut.refl _ s) (by simp)) (by simp)
    rw [hk.driver_eq (by decide)]
  | gain => rfl
  | thermal => rfl
  | scrub => rfl

theorem takeDecision_banks (s : State) : (takeDecision s).driver.banks = s.driver.banks := by
  unfold takeDecision
  split
  · rfl
  · exact startJob_banks _ s
  · rfl
  · split_ifs
    · exact startJob_banks _ s
    · rfl

theorem decideAtPoint_banks (level left : Nat) (s : State) :
    (decideAtPoint level left s).driver.banks = s.driver.banks := by
  unfold decideAtPoint
  split
  · split_ifs
    · exact startJob_banks _ (pushScrub level left s)
    · rfl
  · rfl

theorem settleComposer_banks (s : State) :
    (settleComposer s).driver.banks = s.driver.banks := by
  unfold settleComposer
  split_ifs
  · rfl
  · split
    · exact takeDecision_banks s
    · exact decideAtPoint_banks _ _ s
    · rfl

/-- What follows in a step changes the banks only as the states ask. -/
theorem settle_banks (u : State) : (settle u).driver.banks = (settleBanks u).driver.banks := by
  have hk : KeepsBut [.composer, .store, .render] (settleBanks u)
      (settleRender (takeDeferred (settleBanks u))) :=
    settleRender_keeps (takeDeferred_keeps (KeepsBut.refl _ _) (by simp)) (by simp)
  have hscan : KeepsBut [.store] (settleComposer (settleRender (takeDeferred (settleBanks u))))
      (settle u) := settleStore_keeps (KeepsBut.refl _ _) (by simp)
  rw [hscan.driver_eq (by decide), settleComposer_banks, hk.driver_eq (by decide)]

/-- A bank keeps its mode. -/
theorem settle_bank_mode (u : State) (b : Nat) : ((settle u).bank b).mode = (u.bank b).mode := by
  have hmode : ∀ (held : Bool) (k : Bank), (k.primed held).mode = k.mode := fun held k => by
    unfold Bank.primed
    split
    · rfl
    · split_ifs <;> rfl
  have hbanks : (settle u).driver.banks =
      u.driver.banks.map fun k => k.primed (darkHeld u.chip.power k) := settle_banks u
  unfold State.bank
  rw [hbanks, List.getD_eq_getElem?_getD, List.getD_eq_getElem?_getD, List.getElem?_map]
  cases u.driver.banks[b]? with
  | none => rfl
  | some k => exact hmode _ k

/-- R15: while BLANKED the lanes of a RENDER bank carry 0. -/
theorem laneCode_of_blanked (ho : u.authority.output = .blanked) {y : Nat}
    (hm : (u.bank (bankOf y)).mode = .render) (x : Nat) : u.laneCode x y = ⟨0, 0, 0⟩ := by
  have hcarries : u.carries (bankOf y) = .zero ∨ u.carries (bankOf y) = .nothing := by
    unfold State.carries
    simp only [hm, ho, if_true]
    split_ifs
    · exact .inl rfl
    · exact .inl rfl
    · cases (u.bank (bankOf y)).policy
      · exact .inl rfl
      · exact .inr rfl
    · exact .inl rfl
    · exact .inl rfl
  unfold State.laneCode
  rcases hcarries with h | h <;> rw [h] <;> rfl

end Follows

end Sys2Proof.Machine
end

section
/-! LINK_STALE and BLANK_AFTER_EXPIRY (R133, R137, R138, R141): the expiry of a link's age, and the
end of the time in HOLDING. -/

namespace Sys2Proof.Machine

-- One proof after the other: side by side their threads want too much memory.
set_option Elab.async false

/-! ## Causes of the authority unit (R147) -/

section Causes

variable {s u : State}

/-- A change of the output state alone is a report's one cause. -/
theorem causesOf_output (hc : u.chip = s.chip) (hh : u.authority.holder = s.authority.holder)
    (ho : u.authority.output ≠ s.authority.output) : causesOf [] s u = [.output] := by
  simp [causesOf, hc, hh, ho.symm]

/-- So is a change of the holder alone. -/
theorem causesOf_holder (hc : u.chip = s.chip) (hh : u.authority.holder ≠ s.authority.holder)
    (ho : u.authority.output = s.authority.output) : causesOf [] s u = [.authority] := by
  simp [causesOf, hc, ho, hh.symm]

theorem causesOf_none (hc : u.chip = s.chip) (hh : u.authority.holder = s.authority.holder)
    (ho : u.authority.output = s.authority.output) : causesOf [] s u = [] := by
  simp [causesOf, hc, hh, ho]

/-- What follows in a step gives no cause. -/
theorem causesOf_settle {extra : List Cause} : causesOf extra s (settle u) = causesOf extra s u :=
  causesOf_congr (settle_authority (KeepsBut.refl [] u) (by simp)) (settle_chip u)

end Causes

section Expiry

variable {l : Link} {s u : State}

/-! ## The link STALE (R133, R141) -/

/-- R133: the age reaches the hold time, and the link is STALE. -/
def staled (l : Link) (s : State) : State :=
  (s.setLink l
    { s.link l with age := max (s.link l).age s.settings.holdTime, fresh := false }).setAuthority
    { s.authority with pendingTake := takeWithout l s.authority.pendingTake }

/-- What the link's becoming STALE writes of the ports. -/
def StaleLinks (l : Link) (s u : State) : Prop :=
  u.link l = { s.link l with age := max (s.link l).age s.settings.holdTime, fresh := false } ∧
    u.link l.other = s.link l.other

theorem staled_links (l : Link) (s : State) : StaleLinks l s (staled l s) := by
  unfold StaleLinks staled
  rw [setAuthority_link, setAuthority_link, setLink_link_same, setLink_link_other]
  exact ⟨rfl, rfl⟩

theorem staled_keeps (l : Link) (s : State) :
    KeepsBut [.authority, linkPart l] s (staled l s) :=
  setAuthority_keeps _ ((setLink_keepsBut l _ s).mono (by simp)) (by simp)

theorem exec_linkStale (hs : s.timebaseRuns = true) (hf : (s.link l).fresh = true) :
    exec (.linkStale l) s = .next (conclude [] s (settle (holdExpiry l (staled l s)))) := by
  have hstale : becomeStale l
      (s.setLink l { s.link l with age := max (s.link l).age s.settings.holdTime }) =
        staled l s := by
    rw [becomeStale_eq]
    unfold staled
    cases l <;> rfl
  refine congrArg Host.Outcome.next ((if_pos hs).trans ?_)
  rw [ageExpiry, if_pos hf]
  exact congrArg (fun u => conclude [] s (settle (holdExpiry l u))) hstale

/-- Link `l` and the authority unit are among the parts that do not unsettle a state. -/
theorem KeepsBut.authorityParts (k : KeepsBut [.authority, linkPart l] s u) :
    KeepsBut authorityParts s u :=
  k.mono (by cases l <;> simp [Sys2Proof.Machine.authorityParts, linkPart])

/-! ## HOLDING (R137) -/

theorem enterHolding_of_rendering (h : s.authority.output = .rendering) :
    enterHolding s = s.setAuthority
      { s.authority with
        output := .holding, holdingTime := 0
        holdings := min 65535 (s.authority.holdings + 1) } := if_pos h

theorem enterHolding_of_other (h : s.authority.output ≠ .rendering) : enterHolding s = s :=
  if_neg h

/-- R137: with the other link not usable, the output is held. -/
def held (l : Link) (s : State) : State :=
  (staled l s).setAuthority
    { s.authority with
      pendingTake := takeWithout l s.authority.pendingTake, output := .holding, holdingTime := 0
      holdings := min 65535 (s.authority.holdings + 1) }

theorem holdExpiry_staled_of_rendering (hh : s.authority.holder = some l)
    (hu : (s.link l.other).usable = false) (ho : s.authority.output = .rendering) :
    holdExpiry l (staled l s) = held l s := by
  obtain ⟨-, hother⟩ := staled_links l s
  exact (holdExpiry_of_holds l (staled l s) hh (by rw [hother]; exact hu)).trans
    (enterHolding_of_rendering (s := staled l s) ho)

theorem held_keeps (l : Link) (s : State) : KeepsBut [.authority, linkPart l] s (held l s) :=
  setAuthority_keeps _ (staled_keeps l s) (by simp)

theorem held_links (l : Link) (s : State) : StaleLinks l s (held l s) := by
  unfold StaleLinks held
  rw [setAuthority_link, setAuthority_link]
  exact staled_links l s

/-- R12, R137: the expiry that holds the output. -/
theorem linkStale_holds (hs : s.timebaseRuns = true) (hf : (s.link l).fresh = true)
    (hh : s.authority.holder = some l) (hu : (s.link l.other).usable = false)
    (ho : s.authority.output = .rendering) :
    LeadsReporting (.linkStale l) s [.output] fun d => d = settle (held l s) := by
  have he := exec_linkStale hs hf
  rw [holdExpiry_staled_of_rendering hh hu ho] at he
  refine .intro he (causesOf_settle.trans (causesOf_output ?_ rfl ?_)) rfl
  · exact (held_keeps l s).authorityParts.chip_eq (by decide)
  · rw [ho]
    exact OutputState.noConfusion

theorem held_dark (l : Link) (s : State) : (held l s).isRendering = false := by
  simp [State.isRendering, held]

/-! ## A move to the other link (R137, R143) -/

/-- R137: with the other link usable, authority moves there. -/
def movedOver (l : Link) (s : State) : State :=
  ((staled l s).setAuthority
    { s.authority with
      holder := some l.other, pendingTake := none
      changes := min 65535 (s.authority.changes + 1)
      record := (s.link l.other).stored.getD s.authority.record }).setComposer
    (composerWithRecord s.authority.record
      ((s.link l.other).stored.getD s.authority.record) s.composer)

theorem holdExpiry_staled_of_usable (hh : s.authority.holder = some l)
    (hu : (s.link l.other).usable = true) : holdExpiry l (staled l s) = movedOver l s := by
  obtain ⟨-, hother⟩ := staled_links l s
  have hcomposer : (staled l s).composer = s.composer :=
    (staled_keeps l s).authorityParts .composer (by decide)
  rw [holdExpiry_of_moves l (staled l s) hh (by rw [hother]; exact hu), moveAuthority_eq, adopted,
    hother, hcomposer]
  rfl

theorem movedOver_keeps (l : Link) (s : State) :
    KeepsBut [.authority, linkPart l, .composer] s (movedOver l s) :=
  setComposer_keeps _ (setAuthority_keeps _ ((staled_keeps l s).mono (by simp)) (by simp)) (by simp)

theorem movedOver_links (l : Link) (s : State) : StaleLinks l s (movedOver l s) := by
  unfold StaleLinks movedOver
  rw [setComposer_link, setComposer_link, setAuthority_link, setAuthority_link]
  exact staled_links l s

theorem linkStale_moves (hs : s.timebaseRuns = true) (hf : (s.link l).fresh = true)
    (hh : s.authority.holder = some l) (hu : (s.link l.other).usable = true) :
    LeadsReporting (.linkStale l) s [.authority] fun d => d = settle (movedOver l s) := by
  have he := exec_linkStale hs hf
  rw [holdExpiry_staled_of_usable hh hu] at he
  refine .intro he (causesOf_settle.trans (causesOf_holder ?_ ?_ rfl)) rfl
  · exact (movedOver_keeps l s).chip_eq (by cases l <;> decide)
  · rw [hh]
    exact fun h => other_ne l (Option.some.inj h)

/-- In a steady state with a busy composer nothing follows the move. -/
theorem settle_movedOver_of_busy (hs : Steady s) (hb : Busy s) :
    settle (movedOver l s) = movedOver l s :=
  settle_of_asked hs hb
    ((movedOver_keeps l s).mono (by cases l <;> simp [authorityParts, linkPart])) rfl rfl rfl rfl

/-! ## Every other case (R133, R141) -/

theorem holdExpiry_staled_of_other
    (h : s.authority.holder ≠ some l ∨
      (s.link l.other).usable = false ∧ s.authority.output ≠ .rendering) :
    holdExpiry l (staled l s) = staled l s := by
  obtain ⟨-, hother⟩ := staled_links l s
  by_cases hh : s.authority.holder = some l
  · obtain ⟨hu, ho⟩ := h.resolve_left (not_not_intro hh)
    exact (holdExpiry_of_holds l (staled l s) hh (by rw [hother]; exact hu)).trans
      (enterHolding_of_other (s := staled l s) ho)
  · exact holdExpiry_of_other l (staled l s) hh

theorem linkStale_quiet (hs : s.timebaseRuns = true) (hf : (s.link l).fresh = true)
    (h : s.authority.holder ≠ some l ∨
      (s.link l.other).usable = false ∧ s.authority.output ≠ .rendering) :
    Leads (.linkStale l) s fun d => d = settle (staled l s) := by
  have he := exec_linkStale hs hf
  rw [holdExpiry_staled_of_other h] at he
  have hcauses : causesOf [] s (settle (staled l s)) = [] :=
    causesOf_settle.trans
      (causesOf_none ((staled_keeps l s).authorityParts.chip_eq (by decide)) rfl rfl)
  refine LeadsReporting.leads ?_
  exact .intro he hcauses rfl

/-! ## BLANKED (R138) -/

theorem blankAfterExpiry_blanks (hs : s.timebaseRuns = true) (ho : s.authority.output = .holding)
    (hn : s.settings.blankAfter ≠ 0) :
    LeadsReporting .blankAfterExpiry s [.output] fun d => d = settle (blank s) := by
  refine .intro (d := settle (blank s)) (extra := []) ?_
    (causesOf_settle.trans (causesOf_output rfl rfl ?_)) rfl
  · refine congrArg Host.Outcome.next ((if_pos hs).trans ?_)
    rw [blankAfterExpiry, if_pos ⟨ho, hn⟩]
  · rw [ho]
    exact OutputState.noConfusion

/-- A busy composer's work leaves the driver to the banks. -/
theorem banksFollow_of_busy (hb : Busy u) : BanksFollow u (settle u) := by
  have hforce : KeepsBut [.render, .composer] (settleBanks u) (settleRender (settleBanks u)) :=
    settleRender_keeps (KeepsBut.refl _ _) (by simp)
  have hk : KeepsBut [.render, .composer, .store] (settleBanks u) (settle u) := by
    rw [settle_of_busy_composer hb]
    exact settleStore_keeps (hforce.mono (by simp)) (by simp)
  exact (banksFollow_settleBanks u).congr rfl (hk.driver_eq (by decide)) (hk.chip_eq (by decide))
    (hk.authority_eq (by decide))

/-- From a steady state the banks alone follow the blanking. -/
theorem settle_blank_of_steady (hs : Steady s) (ho : s.authority.output = .holding) :
    settle (blank s) = settleBanks (blank s) := by
  have hdark : ¬s.isRendering = true := by simp [State.isRendering, ho]
  have hforce : NothingToForce (blank s) := .inr (hs.nothingToForce.resolve_left hdark)
  have hnone : NoDecision (blank s) := hs.1
  have hgrant : NothingToGrant (blank s) := hs.nothingToGrant
  exact settle_of_forced hnone hforce hgrant

end Expiry

/-- Settles O14: the three ways of a link's expiry, and the blanking. -/
theorem holdingAndBlanking : Obligations.HoldingAndBlanking := by
  refine ⟨fun l s hs hf => ?_, fun s hs ho hn => ?_⟩
  · intro stale pending
    refine ⟨fun hh hu ho => ?_, fun hh hu => ?_, fun h => ?_⟩
    · refine (linkStale_holds hs hf hh hu ho).mono fun d hd => ?_
      subst hd
      have hk := (held_keeps l s).authorityParts
      have hcomposer : (held l s).composer = s.composer := hk .composer (by decide)
      have hbusy : Busy s → Busy (held l s) := fun hb =>
        hb.congr_stopped (by rw [hcomposer]) (by rw [hcomposer]) (hk.composerStopped_eq (by decide))
      refine ⟨.intro ⟨held_links l s, rfl, held_keeps l s⟩, fun hd => ?_, fun hb => ?_,
        fun hb hq => ?_⟩
      · rw [settle_render_of_dark (by rw [hcomposer]; exact hd) (held_dark l s)]
        exact renderInForce_congr (hk.render_eq (by decide)) hcomposer
      · rw [settle_composer_of_busy (hbusy hb) (held_dark l s)]
        exact composerInForce_congr hcomposer
      · exact ((held_keeps l s).mono (by simp)).trans
          ((settle_keeps_of_held hq hb hk (by rw [ho]; simp [held])).mono (by simp))
    · refine (linkStale_moves hs hf hh hu).mono fun d hd => ?_
      subst hd
      exact .intro ⟨movedOver_links l s, rfl, rfl, movedOver_keeps l s⟩ fun hq hb => by
        rw [settle_movedOver_of_busy hq hb]
        exact ⟨movedOver_links l s, rfl, rfl, movedOver_keeps l s⟩
    · refine (linkStale_quiet hs hf h).mono fun d hd => ?_
      subst hd
      exact .intro ⟨staled_links l s, rfl, staled_keeps l s⟩ fun hq =>
        hq.through_authority (staled_keeps l s).authorityParts rfl
  · refine (blankAfterExpiry_blanks hs ho hn).mono fun d hd => ?_
    subst hd
    have hkeep : KeepsBut [.authority] s (blank s) := blank_keeps (KeepsBut.refl _ s) (by simp)
    refine ⟨.intro ⟨rfl, hkeep⟩, fun x y hm => ?_, fun hb => ?_, fun hq => ?_⟩
    · refine laneCode_of_blanked ?_ ?_ x
      · rw [settle_authority (KeepsBut.refl [] (blank s)) (by simp)]
        rfl
      · rw [settle_bank_mode]
        exact hm
    · have hbusy : Busy (blank s) := hb
      exact (banksFollow_of_busy hbusy).congr rfl rfl rfl rfl
    · rw [settle_blank_of_steady hq ho]
      exact ⟨(banksFollow_settleBanks (blank s)).congr rfl rfl rfl rfl,
        settleBanks_keeps (hkeep.mono (by simp)) (by simp)⟩

end Sys2Proof.Machine
end

section
/-! SET_HOLD_TIME and SET_BLANK_AFTER (R150): the new value acts at once, on both links' freshness
and on the time in HOLDING. -/

namespace Sys2Proof.Machine

-- One proof after the other: side by side their threads want too much memory.
set_option Elab.async false

/-! ## A new hold time and the links (R133, R141, R150) -/

section Aged

variable {n : Nat} {l : Link} {s : State}

/-- R150: a FRESH link whose age has reached the hold time `n`. -/
def LinkPort.overdue (n : Int) (p : LinkPort) : Bool := p.fresh && decide (n ≤ (p.age : Int))

theorem LinkPort.overdue_natCast (n : Nat) (p : LinkPort) :
    p.overdue n = (p.fresh && decide (n ≤ p.age)) :=
  congrArg (p.fresh && ·) (decide_eq_decide.mpr Int.ofNat_le)

/-- The port then: STALE where its age has reached `n`. -/
def agedPort (n : Int) (p : LinkPort) : LinkPort := { p with fresh := p.fresh && !p.overdue n }

/-- R141: the pending take then, cleared where its link is STALE. -/
def agedTake (n : Int) (s : State) : Option Link :=
  match s.authority.pendingTake with
  | some l => if (s.link l).overdue n then none else some l
  | none => none

/-- R150: the settings, both ports and the pending take under the new hold time. -/
def aged (n : Nat) (s : State) : State :=
  (((s.setSettings { s.settings with holdTime := n }).setLink .a (agedPort n s.linkA)).setLink .b
    (agedPort n s.linkB)).setAuthority { s.authority with pendingTake := agedTake n s }

theorem aged_link (n : Nat) (l : Link) (s : State) : (aged n s).link l = agedPort n (s.link l) := by
  cases l <;> rfl

theorem aged_keeps (n : Nat) (s : State) : KeepsBut authorityParts s (aged n s) :=
  have hsettings : KeepsBut authorityParts s
      (s.setSettings { s.settings with holdTime := n }) :=
    setSettings_keeps _ (KeepsBut.refl _ s) (by decide)
  have hlinkA := hsettings.trans ((setLink_keepsBut .a (agedPort n s.linkA) _).mono (by decide))
  have hlinkB := hlinkA.trans ((setLink_keepsBut .b (agedPort n s.linkB) _).mono (by decide))
  setAuthority_keeps _ hlinkB (by decide)

/-- A link that has gone STALE is not usable; another is as usable as it was. -/
theorem usable_agedPort (n : Int) (p : LinkPort) :
    (agedPort n p).usable = (p.usable && !p.overdue n) := by
  unfold agedPort LinkPort.usable
  exact (Bool.and_assoc _ _ _).symm

theorem agedPort_of_not (p : LinkPort) (h : p.overdue n = false) : agedPort n p = p := by
  rw [agedPort, h, Bool.not_false, Bool.and_true]

/-- One link's part of it. -/
theorem becomeStale_if (c : Bool) (l : Link) (s : State) :
    (if c then becomeStale l s else s) =
      (s.setLink l { s.link l with fresh := (s.link l).fresh && !c }).setAuthority
        { s.authority with
          pendingTake :=
            if c then takeWithout l s.authority.pendingTake else s.authority.pendingTake } := by
  cases c
  · rw [Bool.not_false, Bool.and_true]
    cases l <;> rfl
  · rw [if_pos rfl, becomeStale_eq, Bool.not_true, Bool.and_false]
    rfl

/-- R150: both links' parts, and then the hold expiry of a STALE authority link. -/
theorem applyHoldTime_eq (n : Nat) (s : State) :
    applyHoldTime n s =
      (if s.linkB.overdue n then holdExpiry .b
          (if s.linkA.overdue n then holdExpiry .a (aged n s) else aged n s)
        else if s.linkA.overdue n then holdExpiry .a (aged n s) else aged n s) := by
  have htake : agedTake n s =
      (if s.linkB.overdue n then
        takeWithout .b
          (if s.linkA.overdue n then takeWithout .a s.authority.pendingTake
            else s.authority.pendingTake)
        else if s.linkA.overdue n then takeWithout .a s.authority.pendingTake
        else s.authority.pendingTake) := by
    unfold agedTake
    rcases s.authority.pendingTake with _ | _ | _
    · show none = _
      split_ifs <;> rfl
    · show (if s.linkA.overdue n then none else some Link.a) = _
      split_ifs <;> rfl
    · show (if s.linkB.overdue n then none else some Link.b) = _
      split_ifs <;> rfl
  have haged : (if s.linkB.overdue n then
      becomeStale .b (if s.linkA.overdue n then
        becomeStale .a (s.setSettings { s.settings with holdTime := n })
        else s.setSettings { s.settings with holdTime := n })
      else if s.linkA.overdue n then
        becomeStale .a (s.setSettings { s.settings with holdTime := n })
      else s.setSettings { s.settings with holdTime := n }) = aged n s := by
    rw [becomeStale_if, becomeStale_if, aged, htake]
    rfl
  rw [← haged]
  unfold applyHoldTime
  simp only [LinkPort.overdue_natCast]
  rfl

/-- Where the authority link is not among the STALE, nothing else happens. -/
theorem applyHoldTime_of_kept
    (h : ∀ l, s.authority.holder = some l → (s.link l).overdue n = false) :
    applyHoldTime n s = aged n s := by
  have hother : ∀ l, (s.link l).overdue n = true → holdExpiry l (aged n s) = aged n s :=
    fun l hl => holdExpiry_of_other l (aged n s) fun hh =>
      Bool.noConfusion ((h l hh).symm.trans hl)
  have ha : (if s.linkA.overdue n then holdExpiry .a (aged n s) else aged n s) = aged n s := by
    split_ifs with hl
    · exact hother .a hl
    · rfl
  rw [applyHoldTime_eq, ha]
  split_ifs with hl
  · exact hother .b hl
  · rfl

/-- A STALE authority link is a hold expiry. -/
theorem applyHoldTime_of_expired (hh : s.authority.holder = some l)
    (hl : (s.link l).overdue n = true) : applyHoldTime n s = holdExpiry l (aged n s) := by
  have hholder : (aged n s).authority.holder = some l := hh
  rw [applyHoldTime_eq]
  cases l with
  | b =>
    have ha : holdExpiry .a (aged n s) = aged n s :=
      holdExpiry_of_other .a (aged n s) (by rw [hholder]; decide)
    have hb : s.linkB.overdue n = true := hl
    rw [ha, ite_self, if_pos hb]
  | a =>
    have ha : s.linkA.overdue n = true := hl
    rw [if_pos ha]
    split_ifs with hb
    · have hu : ((aged n s).link Link.a.other).usable = false := by
        have hstale : (s.link .b).overdue n = true := hb
        rw [show Link.a.other = .b from rfl, aged_link, usable_agedPort, hstale, Bool.not_true,
          Bool.and_false]
      rw [holdExpiry_of_holds .a (aged n s) hholder hu]
      refine holdExpiry_of_other .b _ ?_
      rw [enterHolding_eq, setAuthority_authority]
      unfold heldOutput
      split_ifs <;> rw [hholder] <;> decide
    · rfl

/-! ## Behind a prompt (R156) -/

/-- A port in the same standing: as far as authority sees it, it is the same. -/
structure LinkPort.SameStanding (p q : LinkPort) : Prop where
  state_eq : p.state = q.state
  fresh_eq : p.fresh = q.fresh
  age_eq : p.age = q.age
  stored_eq : p.stored = q.stored

variable {k : Link} {p : LinkPort}

theorem LinkPort.SameStanding.overdue_eq {q : LinkPort} (h : p.SameStanding q) (n : Int) :
    p.overdue n = q.overdue n := by
  unfold LinkPort.overdue
  rw [h.fresh_eq, h.age_eq]

theorem LinkPort.SameStanding.agedPort {q : LinkPort} (h : p.SameStanding q) (n : Int) :
    (Sys2Proof.Machine.agedPort n p).SameStanding (Sys2Proof.Machine.agedPort n q) where
  state_eq := h.state_eq
  fresh_eq := congrArg₂ (fun f g => f && !g) h.fresh_eq (h.overdue_eq n)
  age_eq := h.age_eq
  stored_eq := h.stored_eq

/-- A port of the same standing in place of link `k`'s leaves each link's standing. -/
theorem sameStanding_setLink (h : p.SameStanding (s.link k)) (j : Link) :
    ((s.setLink k p).link j).SameStanding (s.link j) := by
  by_cases hj : j = k
  · subst hj
    rw [setLink_link_same]
    exact h
  · rw [setLink_link_of_ne s k p hj]
    exact ⟨rfl, rfl, rfl, rfl⟩

/-- A hold expiry acts on the authority and the composer as before. -/
theorem holdExpiry_setLink (l : Link) (h : p.SameStanding (s.link k)) :
    holdExpiry l (s.setLink k p) = (holdExpiry l s).setLink k p := by
  have hother := sameStanding_setLink h l.other
  have hu : ((s.setLink k p).link l.other).usable = (s.link l.other).usable := by
    unfold LinkPort.usable
    rw [hother.state_eq, hother.fresh_eq]
  have hadopted : adopted l.other (s.setLink k p) = adopted l.other s := by
    unfold adopted
    rw [hother.stored_eq, setLink_authority]
  unfold holdExpiry
  rw [hu, moveAuthority_eq, moveAuthority_eq, enterHolding_eq, enterHolding_eq, hadopted,
    setLink_authority, setLink_composer]
  split_ifs <;> cases k <;> rfl

theorem holdExpiry_link (l j : Link) (s : State) : (holdExpiry l s).link j = s.link j := by
  unfold holdExpiry
  rw [moveAuthority_eq, enterHolding_eq]
  split_ifs
  · rw [setComposer_link, setAuthority_link]
  · rw [setAuthority_link]
  · rfl

theorem aged_setLink (n : Nat) (h : p.SameStanding (s.link k)) :
    aged n (s.setLink k p) = (aged n s).setLink k (agedPort n p) := by
  have htake : agedTake n (s.setLink k p) = agedTake n s := by
    unfold agedTake
    rw [setLink_authority]
    cases s.authority.pendingTake with
    | none => rfl
    | some j =>
      dsimp only
      rw [(sameStanding_setLink h j).overdue_eq]
  unfold aged
  rw [htake, setLink_authority, setLink_settings]
  cases k <;> rfl

/-- R150: the new hold time acts behind a prompt as at the step's beginning. -/
theorem applyHoldTime_setLink (n : Nat) (h : p.SameStanding (s.link k)) :
    applyHoldTime n (s.setLink k p) = (applyHoldTime n s).setLink k (agedPort n p) := by
  have hport : (agedPort n p).SameStanding ((aged n s).link k) := by
    rw [aged_link]
    exact h.agedPort n
  have hA : (s.setLink k p).linkA.overdue n = s.linkA.overdue n :=
    (sameStanding_setLink h .a).overdue_eq n
  have hB : (s.setLink k p).linkB.overdue n = s.linkB.overdue n :=
    (sameStanding_setLink h .b).overdue_eq n
  have hafter : (agedPort n p).SameStanding ((holdExpiry .a (aged n s)).link k) := by
    rw [holdExpiry_link]
    exact hport
  rw [applyHoldTime_eq, applyHoldTime_eq, hA, hB, aged_setLink n h]
  split_ifs
  · rw [holdExpiry_setLink .a hport, holdExpiry_setLink .b hafter]
  · rw [holdExpiry_setLink .b hport]
  · rw [holdExpiry_setLink .a hport]
  · rfl

end Aged

/-! ## The SET and its answer (R150, R180) -/

section Settings

variable {v : Via U32} {w : U32} {s : State} {n : Nat}

theorem numberOf_holdTime : NumberOf 3 .holdTime := by unfold NumberOf; decide

theorem numberOf_blankAfter : NumberOf 4 .blankAfter := by unfold NumberOf; decide

theorem parseRequest_value {b : Byte} {x : Setting} (hn : NumberOf b x) (w : U32) :
    parseRequest kindSet (setBody b 0 w) = some (.set (.value x w.toInt)) := by
  rw [parseRequest_set, parseSet_value hn, Option.map_some]

theorem clampInt_eq_self_iff {lo hi : Int} (h : lo ≤ hi) (x : Int) :
    clampInt lo hi x = x ↔ lo ≤ x ∧ x ≤ hi := by
  rw [clampInt_eq_ite h]
  split_ifs <;> omega

/-- Where the owner acts, the new hold time has done what it does at the step's beginning. -/
theorem settle_applyHoldTime_handledAt (v : Via U32) (n : Nat) (s : State) :
    KeepsBut [answerPart v] (settle (applyHoldTime n s))
        (settle (applyHoldTime n (handledAt v s))) ∧
      ∀ l, v = .port l → (settle (applyHoldTime n (handledAt v s))).link l =
        { agedPort n (s.link l) with
          prompts := (s.link l).prompts.tail, awaiting := true, sends := (s.link l).sends } := by
  cases v with
  | port k =>
    have hacted : settle (applyHoldTime n (handledAt (.port k : Via U32) s)) =
        (settle (applyHoldTime n s)).setLink k
          (agedPort n { s.link k with prompts := (s.link k).prompts.tail, awaiting := true }) := by
      rw [← linkBlind_settle]
      exact congrArg settle (applyHoldTime_setLink n ⟨rfl, rfl, rfl, rfl⟩)
    rw [hacted]
    refine ⟨setLink_keepsBut k _ _, fun l hl => ?_⟩
    cases hl
    rw [setLink_link_same]
    rfl
  | tool tag a => exact ⟨KeepsBut.refl _ _, fun l hl => by cases hl⟩

/-- R150: a SET of the hold time, answered behind what the new value does. -/
theorem setHoldTime_reports (h : Asks v kindSet (setBody 3 0) w s)
    (hn : (n : Int) = clampInt 20 1000 w.toInt) {cs : List Cause}
    (hcs : causesOf [] s (applyHoldTime n s) = cs) :
    LeadsReporting (.setHoldTime v) s cs fun d =>
      AnsweredWith v kindSet false
          (if 20 ≤ w.toInt ∧ w.toInt ≤ 1000 then .done else .clamped) [] (agedPort n) s d ∧
        KeepsBut [answerPart v] (settle (applyHoldTime n s)) d := by
  have hacted : actedAt v (.set (.value .holdTime w.toInt)) s =
      acted (if 20 ≤ w.toInt ∧ w.toInt ≤ 1000 then .done else .clamped)
        (settle (applyHoldTime n (handledAt v s))) := by
    have hfree : ¬((handledAt v s).isClosed = true ∧ (Setting.locked .holdTime = true ∨
        Setting.holdTime = .blankAfter ∧ w.toInt = 0)) := fun hl => by
      simp [Setting.locked] at hl
    have hmap : ¬(Setting.holdTime = .sensorMap ∧ (w.toInt < 0 ∨ 15 < w.toInt)) := by simp
    show setValue .holdTime w.toInt (handledAt v s) = _
    rw [setValue, if_neg hfree, if_neg hmap]
    unfold Setting.brought applySetting
    dsimp only
    rw [← hn, Int.toNat_natCast, hn, if_congr (clampInt_eq_self_iff (by decide) _) rfl rfl]
  obtain ⟨hkeep, hport⟩ := settle_applyHoldTime_handledAt v n s
  have hservice : KeepsBut [.settings, .linkA, .linkB, .authority, .composer, .driver, .render,
      .store, .thermal, .wear] (handledAt v s) (settle (applyHoldTime n (handledAt v s))) :=
    settle_keeps (applyHoldTime_keeps n (KeepsBut.refl _ _) (by simp)) (by simp)
  refine requestStep_reports (r := .set (.value .holdTime w.toInt)) (own := agedPort n)
    (mine := Request.setsValue .holdTime)
    (req := fun w => some (.set (.value .holdTime (signed32 w)))) rfl h
    (parseRequest_value numberOf_holdTime w) rfl (beq_self_eq_true _) ?_ ?_ ?_ fun d ha hk => ?_
  · rw [hacted]
    exact hport
  · rw [hacted]
    exact (hservice .service (by decide)).trans (handledAt_service v s)
  · rw [hacted]
    exact (causesOf_answer hkeep).trans (causesOf_settle.trans hcs)
  · rw [hacted] at ha hk
    exact ⟨ha, hkeep.trans hk⟩

end Settings

end Sys2Proof.Machine
end

section
/-! SET_HOLD_TIME and SET_BLANK_AFTER (R150), the cases: no STALE authority link, HOLDING, a move of
authority; the time in HOLDING over, or not. -/

namespace Sys2Proof.Machine

-- One proof after the other: side by side their threads want too much memory.
set_option Elab.async false

section HoldTime

variable {n : Nat} {l : Link} {s u : State}

/-- What the new hold time writes of the settings and the ports. -/
def HoldTimeActed (n : Nat) (s u : State) : Prop :=
  u.settings = { s.settings with holdTime := u.settings.holdTime } ∧
    (u.settings.holdTime : Int) = n ∧ ∀ l, u.link l = agedPort n (s.link l)

theorem aged_acted (n : Nat) (s : State) : HoldTimeActed n s (aged n s) :=
  ⟨rfl, rfl, (aged_link n · s)⟩

/-! ## No STALE authority link -/

theorem causesOf_aged (n : Nat) (s : State) : causesOf [] s (aged n s) = [] :=
  causesOf_none rfl rfl rfl

/-! ## HOLDING (R137) -/

/-- R137: the hold expiry with no other usable link. -/
def agedHeld (n : Nat) (s : State) : State :=
  (aged n s).setAuthority (heldOutput { s.authority with pendingTake := agedTake n s })

theorem applyHoldTime_holds (hh : s.authority.holder = some l)
    (hl : (s.link l).overdue n = true)
    (hu : (s.link l.other).usable = false ∨ (s.link l.other).overdue n = true) :
    applyHoldTime n s = agedHeld n s := by
  have hother : ((aged n s).link l.other).usable = false := by
    rw [aged_link, usable_agedPort]
    rcases hu with hu | hu
    · rw [hu, Bool.false_and]
    · rw [hu, Bool.not_true, Bool.and_false]
  rw [applyHoldTime_of_expired hh hl]
  exact (holdExpiry_of_holds l (aged n s) hh hother).trans (enterHolding_eq (aged n s))

theorem agedHeld_keeps (n : Nat) (s : State) : KeepsBut authorityParts s (agedHeld n s) :=
  setAuthority_keeps _ (aged_keeps n s) (by decide)

theorem agedHeld_acted (n : Nat) (s : State) : HoldTimeActed n s (agedHeld n s) :=
  ⟨rfl, rfl, fun l => (setAuthority_link _ _ l).trans (aged_link n l s)⟩

theorem heldOutput_holder (a : Authority) : (heldOutput a).holder = a.holder := by
  unfold heldOutput
  split_ifs <;> rfl

theorem heldOutput_output (a : Authority) :
    (heldOutput a).output = if a.output = .rendering then .holding else a.output := by
  unfold heldOutput
  split_ifs <;> rfl

theorem agedHeld_dark (n : Nat) (s : State) : (agedHeld n s).isRendering = false := by
  have ho : (agedHeld n s).authority.output ≠ .rendering := by
    show (heldOutput _).output ≠ _
    rw [heldOutput_output]
    split_ifs with h
    · exact OutputState.noConfusion
    · exact h
  simp [State.isRendering, ho]

theorem agedHeld_blanked_iff (n : Nat) (s : State) :
    (agedHeld n s).authority.output = .blanked ↔ s.authority.output = .blanked := by
  show (heldOutput _).output = _ ↔ _
  rw [heldOutput_output]
  split_ifs with h
  · rw [show s.authority.output = .rendering from h]
    decide
  · exact Iff.rfl

theorem causesOf_agedHeld (n : Nat) (s : State) :
    causesOf [] s (agedHeld n s) = if s.authority.output = .rendering then [.output] else [] := by
  have hholder : (agedHeld n s).authority.holder = s.authority.holder := heldOutput_holder _
  have houtput : (agedHeld n s).authority.output =
      if s.authority.output = .rendering then .holding else s.authority.output :=
    heldOutput_output _
  split_ifs with h
  · refine causesOf_output rfl hholder ?_
    rw [houtput, if_pos h, h]
    exact OutputState.noConfusion
  · refine causesOf_none rfl hholder ?_
    rw [houtput, if_neg h]

/-- R12: where the output leaves RENDERING, what waits moves into force; no more follows from a
steady state with a busy composer. -/
theorem forced_of_held (hs : Steady s) (hb : Busy s) (k : KeepsBut authorityParts s u)
    (hr : u.isRendering = false)
    (ho : u.authority.output = .blanked ↔ s.authority.output = .blanked) :
    (settle u).render = renderInForce s ∧ (settle u).composer = composerInForce s ∧
      KeepsBut [.settings, .linkA, .linkB, .authority, .render, .composer] s (settle u) := by
  have hcomposer : u.composer = s.composer := k .composer (by decide)
  have hbusy : Busy u := hb.congr_stopped (by rw [hcomposer]) (by rw [hcomposer])
    (k.composerStopped_eq (by decide))
  rw [settle_render_of_dark hbusy.1 hr, settle_composer_of_busy hbusy hr]
  exact ⟨renderInForce_congr (k.render_eq (by decide)) hcomposer, composerInForce_congr hcomposer,
    (k.mono (by simp [authorityParts])).trans ((settle_keeps_of_held hs hb k ho).mono (by simp))⟩

/-! ## A move of authority (R137, R143) -/

/-- R137: the hold expiry with the other link usable. -/
def agedMoved (n : Nat) (l : Link) (s : State) : State :=
  ((aged n s).setAuthority
    { s.authority with
      holder := some l.other, pendingTake := none
      changes := min 65535 (s.authority.changes + 1)
      record := (s.link l.other).stored.getD s.authority.record }).setComposer
    (composerWithRecord s.authority.record
      ((s.link l.other).stored.getD s.authority.record) s.composer)

theorem applyHoldTime_moves (hh : s.authority.holder = some l)
    (hl : (s.link l).overdue n = true) (hu : (s.link l.other).usable = true)
    (ho : (s.link l.other).overdue n = false) : applyHoldTime n s = agedMoved n l s := by
  have hport : (aged n s).link l.other = s.link l.other := by
    rw [aged_link, agedPort_of_not _ ho]
  rw [applyHoldTime_of_expired hh hl,
    holdExpiry_of_moves l (aged n s) hh (by rw [hport]; exact hu), moveAuthority_eq, adopted, hport]
  rfl

theorem agedMoved_keeps (n : Nat) (l : Link) (s : State) :
    KeepsBut [.settings, .linkA, .linkB, .authority, .composer] s (agedMoved n l s) :=
  setComposer_keeps _ (setAuthority_keeps _ ((aged_keeps n s).mono (by simp [authorityParts]))
    (by simp)) (by simp)

theorem agedMoved_acted (n : Nat) (l : Link) (s : State) :
    HoldTimeActed n s (agedMoved n l s) :=
  ⟨rfl, rfl, fun k => (setComposer_link _ _ k).trans ((setAuthority_link _ _ k).trans
    (aged_link n k s))⟩

theorem causesOf_agedMoved (hh : s.authority.holder = some l) :
    causesOf [] s (agedMoved n l s) = [.authority] := by
  refine causesOf_holder rfl ?_ rfl
  rw [hh]
  exact fun h => other_ne l (Option.some.inj h)

theorem settle_agedMoved_of_busy (hs : Steady s) (hb : Busy s) :
    settle (agedMoved n l s) = agedMoved n l s :=
  settle_of_asked hs hb ((agedMoved_keeps n l s).mono (by simp [authorityParts])) rfl rfl rfl rfl

/-! ## The SET -/

variable {v : Via U32} {w : U32}

/-- The answer of a SET of the hold time, behind what it did. -/
def HoldTimeAnswered (n : Nat) (v : Via U32) (w : U32) (s m d : State) : Prop :=
  AnsweredWith v kindSet false (if 20 ≤ w.toInt ∧ w.toInt ≤ 1000 then .done else .clamped) []
      (agedPort n) s d ∧
    KeepsBut [answerPart v] m d

theorem setHoldTime_kept (h : Asks v kindSet (setBody 3 0) w s)
    (hn : (n : Int) = clampInt 20 1000 w.toInt)
    (hkept : ∀ l, s.authority.holder = some l → (s.link l).overdue n = false) :
    Leads (.setHoldTime v) s fun d => ∃ m,
      QuietFrom s (fun u => HoldTimeActed n s u ∧
        u.authority = { s.authority with pendingTake := agedTake n s } ∧
        KeepsBut authorityParts s u) m ∧
      HoldTimeAnswered n v w s m d := by
  have he := applyHoldTime_of_kept hkept
  refine ((setHoldTime_reports h hn (by rw [he]; exact causesOf_aged n s)).mono
    fun d hd => ⟨_, ?_, hd⟩).leads
  rw [he]
  exact .intro ⟨aged_acted n s, rfl, aged_keeps n s⟩
    fun hq => hq.through_authority (aged_keeps n s) rfl

theorem setHoldTime_holds (h : Asks v kindSet (setBody 3 0) w s)
    (hn : (n : Int) = clampInt 20 1000 w.toInt) (hh : s.authority.holder = some l)
    (hl : (s.link l).overdue n = true)
    (hu : (s.link l.other).usable = false ∨ (s.link l.other).overdue n = true) :
    LeadsReporting (.setHoldTime v) s
      (if s.authority.output = .rendering then [.output] else []) fun d => ∃ m,
      Settled (fun u => HoldTimeActed n s u ∧
        u.authority = heldOutput { s.authority with pendingTake := agedTake n s } ∧
        KeepsBut authorityParts s u) m ∧
      HoldTimeAnswered n v w s m d ∧
      (Steady s → Busy s →
        d.render = renderInForce s ∧ d.composer = composerInForce s ∧
        KeepsBut [.settings, .linkA, .linkB, .authority, .render, .composer, answerPart v] s d) := by
  have he := applyHoldTime_holds hh hl hu
  refine (setHoldTime_reports h hn (by rw [he]; exact causesOf_agedHeld n s)).mono
    fun d ⟨ha, hkeep⟩ => ?_
  rw [he] at hkeep
  refine ⟨_, .intro ⟨agedHeld_acted n s, rfl, agedHeld_keeps n s⟩, ⟨ha, hkeep⟩, fun hq hb => ?_⟩
  obtain ⟨hrender, hcomposer, hforced⟩ := forced_of_held hq hb (agedHeld_keeps n s)
    (agedHeld_dark n s) (agedHeld_blanked_iff n s)
  rw [hkeep.render_eq (notMem_answerPart v (by decide)),
    hkeep .composer (notMem_answerPart v (by decide))]
  exact ⟨hrender, hcomposer, (hforced.mono (by simp)).trans (hkeep.mono (by simp))⟩

theorem setHoldTime_moves (h : Asks v kindSet (setBody 3 0) w s)
    (hn : (n : Int) = clampInt 20 1000 w.toInt) (hh : s.authority.holder = some l)
    (hl : (s.link l).overdue n = true) (hu : (s.link l.other).usable = true)
    (ho : (s.link l.other).overdue n = false) :
    LeadsReporting (.setHoldTime v) s [.authority] fun d => ∃ m,
      SettledFrom s (fun u => HoldTimeActed n s u ∧
        u.authority =
          { s.authority with
            holder := some l.other, pendingTake := none
            changes := min 65535 (s.authority.changes + 1)
            record := (s.link l.other).stored.getD s.authority.record } ∧
        u.composer =
          composerWithRecord s.authority.record
            ((s.link l.other).stored.getD s.authority.record) s.composer ∧
        KeepsBut [.settings, .linkA, .linkB, .authority, .composer] s u) m ∧
      HoldTimeAnswered n v w s m d := by
  have he := applyHoldTime_moves hh hl hu ho
  refine (setHoldTime_reports h hn (by rw [he]; exact causesOf_agedMoved hh)).mono
    fun d hd => ⟨_, ?_, hd⟩
  rw [he]
  exact .intro ⟨agedMoved_acted n l s, rfl, rfl, agedMoved_keeps n l s⟩ fun hq hb => by
    rw [settle_agedMoved_of_busy hq hb]
    exact ⟨agedMoved_acted n l s, rfl, rfl, agedMoved_keeps n l s⟩

end HoldTime

/-! ## Blank-after (R138, R150) -/

section BlankAfter

variable {v : Via U32} {w : U32} {s : State} {n : Nat}

/-- The settings with the new blank-after. -/
def blankAfterSet (n : Nat) (s : State) : State :=
  s.setSettings { s.settings with blankAfter := n }

/-- The new blank-after is over in HOLDING. -/
def BlankDue (n : Int) (s : State) : Prop :=
  s.authority.output = .holding ∧ n ≠ 0 ∧ n * 1000 ≤ s.authority.holdingTime

theorem blankDue_natCast (n : Nat) (s : State) :
    BlankDue n s ↔
      s.authority.output = .holding ∧ n ≠ 0 ∧ n * 1000 ≤ s.authority.holdingTime := by
  unfold BlankDue
  norm_cast

theorem applyBlankAfter_of_due (h : BlankDue n s) :
    applyBlankAfter n s = blank (blankAfterSet n s) := if_pos ((blankDue_natCast n s).mp h)

theorem applyBlankAfter_of_not (h : ¬BlankDue n s) : applyBlankAfter n s = blankAfterSet n s :=
  if_neg (mt (blankDue_natCast n s).mpr h)

theorem linkBlind_applyBlankAfter (n : Nat) : LinkBlind (applyBlankAfter n) := fun l p s => by
  have hset : blankAfterSet n (s.setLink l p) = (blankAfterSet n s).setLink l p := by
    cases l <;> rfl
  have hdue : BlankDue n (s.setLink l p) ↔ BlankDue n s := by
    unfold BlankDue
    rw [setLink_authority]
  by_cases h : BlankDue n s
  · rw [applyBlankAfter_of_due h, applyBlankAfter_of_due (hdue.mpr h), hset]
    cases l <;> rfl
  · rw [applyBlankAfter_of_not h, applyBlankAfter_of_not (mt hdue.mp h), hset]

theorem brought_blankAfter_eq_iff (x : Int) :
    Setting.brought .blankAfter x = x ↔ x = 0 ∨ 1 ≤ x ∧ x ≤ 600 := by
  unfold Setting.brought
  dsimp only
  split_ifs with h
  · exact iff_of_true h.symm (.inl h)
  · rw [clampInt_eq_self_iff (by decide)]
    exact (or_iff_right h).symm

/-- While CLOSED blank-after keeps off 0. -/
theorem setBlankAfter_refused (h : Asks v kindSet (setBody 4 0) w s) (hw : w.toInt = 0)
    (hc : s.chip.config = .closed) : RefusedBy (.setBlankAfter v) v kindSet .refusedLocked s :=
  .intro rfl (set_refused h (parseSet_value numberOf_blankAfter w) rfl (beq_self_eq_true _)
    (if_pos ⟨(isClosed_handledAt_iff v s).mpr hc, .inr ⟨rfl, hw⟩⟩))

/-- Else it takes the value brought into range, answered behind what the new value does. -/
theorem setBlankAfter_reports (h : Asks v kindSet (setBody 4 0) w s)
    (hfree : ¬(w.toInt = 0 ∧ s.chip.config = .closed))
    (hn : (n : Int) = Setting.brought .blankAfter w.toInt) {cs : List Cause}
    (hcs : causesOf [] s (applyBlankAfter n s) = cs) :
    LeadsReporting (.setBlankAfter v) s cs fun d =>
      Answered v kindSet (if w.toInt = 0 ∨ 1 ≤ w.toInt ∧ w.toInt ≤ 600 then .done else .clamped)
          s d ∧
        KeepsBut [answerPart v] (settle (applyBlankAfter n s)) d := by
  have hacted : actedAt v (.set (.value .blankAfter w.toInt)) s =
      acted (if w.toInt = 0 ∨ 1 ≤ w.toInt ∧ w.toInt ≤ 600 then .done else .clamped)
        (settle (applyBlankAfter n (handledAt v s))) := by
    have hopen : ¬((handledAt v s).isClosed = true ∧ (Setting.locked .blankAfter = true ∨
        Setting.blankAfter = .blankAfter ∧ w.toInt = 0)) := fun ⟨hc, hl⟩ =>
      hfree ⟨(hl.resolve_left Bool.false_ne_true).2, (isClosed_handledAt_iff v s).mp hc⟩
    have hmap : ¬(Setting.blankAfter = .sensorMap ∧ (w.toInt < 0 ∨ 15 < w.toInt)) := by simp
    show setValue .blankAfter w.toInt (handledAt v s) = _
    rw [setValue, if_neg hopen, if_neg hmap, ← hn, hn,
      if_congr (brought_blankAfter_eq_iff _) rfl rfl, ← hn]
    rfl
  have hservice : ∀ u, KeepsBut [.settings, .authority, .driver, .render, .composer, .store,
      .thermal, .wear] u (settle (applyBlankAfter n u)) := fun u =>
    settle_keeps (applyBlankAfter_keeps n (KeepsBut.refl _ u) (by simp)) (by simp)
  exact requestStep_reports_blind (r := .set (.value .blankAfter w.toInt))
    (mine := Request.setsValue .blankAfter)
    (req := fun w => some (.set (.value .blankAfter (signed32 w)))) rfl h
    (parseRequest_value numberOf_blankAfter w) rfl (beq_self_eq_true _) rfl hacted
    (linkBlind_settle.comp (linkBlind_applyBlankAfter n)) (fun u => hservice u .service (by decide))
    (causesOf_settle.trans hcs) fun d ha hk => ⟨ha, hk⟩

theorem blankAfterSet_keeps (n : Nat) (s : State) : KeepsBut [.settings] s (blankAfterSet n s) :=
  setSettings_keeps _ (KeepsBut.refl _ s) (by simp)

theorem Steady.blankAfterSet (h : Steady s) (n : Nat) : Steady (blankAfterSet n s) :=
  h.through_authority ((blankAfterSet_keeps n s).mono (by simp [authorityParts])) rfl

/-- From a steady state the banks alone follow the blanking. -/
theorem blanked_of_due (hs : Steady s) (h : BlankDue n s) :
    BanksFollow s (settle (blank (blankAfterSet n s))) ∧
      KeepsBut [.settings, .authority, .driver] s (settle (blank (blankAfterSet n s))) := by
  obtain ⟨ho, -⟩ := h
  rw [settle_blank_of_steady (s := blankAfterSet n s) (hs.blankAfterSet n) ho]
  exact ⟨(banksFollow_settleBanks (blank (blankAfterSet n s))).congr rfl rfl rfl rfl,
    settleBanks_keeps (blank_keeps ((blankAfterSet_keeps n s).mono (by simp)) (by simp)) (by simp)⟩

/-- What the new blank-after writes of the settings. -/
def BlankAfterActed (n : Nat) (s u : State) : Prop :=
  u.settings = { s.settings with blankAfter := u.settings.blankAfter } ∧
    (u.settings.blankAfter : Int) = n

theorem setBlankAfter_due (h : Asks v kindSet (setBody 4 0) w s)
    (hn : (n : Int) = Setting.brought .blankAfter w.toInt)
    (hfree : ¬(w.toInt = 0 ∧ s.chip.config = .closed)) (hd : BlankDue n s) :
    LeadsReporting (.setBlankAfter v) s [.output] fun d =>
      AnsweredAfter (Settled fun u => BlankAfterActed n s u ∧
        u.authority = { s.authority with output := .blanked, holdingTime := 0 } ∧
        KeepsBut [.settings, .authority] s u) v kindSet
        (if w.toInt = 0 ∨ 1 ≤ w.toInt ∧ w.toInt ≤ 600 then .done else .clamped) s d ∧
      (Steady s → BanksFollow s d ∧
        KeepsBut [.settings, .authority, .driver, answerPart v] s d) := by
  have he := applyBlankAfter_of_due hd
  have hcs : causesOf [] s (applyBlankAfter n s) = [.output] := by
    rw [he]
    refine causesOf_output rfl rfl ?_
    rw [hd.1]
    exact OutputState.noConfusion
  have hkeeps : KeepsBut [.settings, .authority] s (blank (blankAfterSet n s)) :=
    blank_keeps ((blankAfterSet_keeps n s).mono (by simp)) (by simp)
  refine (setBlankAfter_reports h hfree hn hcs).mono fun d ⟨ha, hkeep⟩ => ?_
  rw [he] at hkeep
  refine ⟨⟨_, .intro (u := blank (blankAfterSet n s)) ⟨⟨rfl, rfl⟩, rfl, hkeeps⟩, ha, hkeep⟩,
    fun hq => ?_⟩
  obtain ⟨hbanks, hfollow⟩ := blanked_of_due hq hd
  exact ⟨hbanks.answered hkeep, (hfollow.mono (by simp)).trans (hkeep.mono (by simp))⟩

theorem setBlankAfter_quiet (h : Asks v kindSet (setBody 4 0) w s)
    (hn : (n : Int) = Setting.brought .blankAfter w.toInt)
    (hfree : ¬(w.toInt = 0 ∧ s.chip.config = .closed)) (hd : ¬BlankDue n s) :
    Leads (.setBlankAfter v) s (AnsweredAfter
      (QuietFrom s fun u => BlankAfterActed n s u ∧ KeepsBut [.settings] s u) v kindSet
      (if w.toInt = 0 ∨ 1 ≤ w.toInt ∧ w.toInt ≤ 600 then .done else .clamped) s) := by
  have he := applyBlankAfter_of_not hd
  have hcs : causesOf [] s (applyBlankAfter n s) = [] := by
    rw [he]
    exact causesOf_none rfl rfl rfl
  refine ((setBlankAfter_reports h hfree hn hcs).mono fun d ⟨ha, hkeep⟩ => ?_).leads
  rw [he] at hkeep
  exact ⟨_, .intro (u := blankAfterSet n s) ⟨⟨rfl, rfl⟩, blankAfterSet_keeps n s⟩
    fun hq => hq.blankAfterSet n, ha, hkeep⟩

end BlankAfter

/-- Settles O30: the hold time by the three ways of `applyHoldTime`, blank-after by its due time. -/
theorem holdTimeAndBlankAfter : Obligations.HoldTimeAndBlankAfter := by
  intro v w s near
  refine ⟨fun h => ?_, fun h => ?_⟩
  · intro n
    have hn : n = clampInt 20 1000 w.toInt := (clampInt_eq_ite (by decide) _).symm
    have hmem := clampInt_mem (lo := 20) (hi := 1000) (by decide) w.toInt
    clear_value n
    lift n to Nat using by omega
    exact ⟨fun hkept => setHoldTime_kept h hn hkept, fun l hh hl =>
      ⟨fun hu => setHoldTime_holds h hn hh hl hu, fun hu ho => setHoldTime_moves h hn hh hl hu ho⟩⟩
  · intro n
    have hn : n = Setting.brought .blankAfter w.toInt :=
      if_congr Iff.rfl rfl (clampInt_eq_ite (by decide) _).symm
    have hmem : 0 ≤ Setting.brought .blankAfter w.toInt := by
      have hmem := clampInt_mem (lo := 1) (hi := 600) (by decide) w.toInt
      unfold Setting.brought
      dsimp only
      split_ifs <;> omega
    clear_value n
    lift n to Nat using by omega
    exact ⟨setBlankAfter_refused h, fun hfree =>
      ⟨setBlankAfter_due h hn hfree, setBlankAfter_quiet h hn hfree⟩⟩

end Sys2Proof.Machine
end

section
/-! The law of the credits (R160): BLOCKs queued on a link and the credits it holds. A BLOCK takes
a credit as it joins the queue and gives it back as it leaves; a link that is not READY has neither
(R154). Every other operation leaves the ports' credits and queues. -/

namespace Sys2Proof.Machine

-- One proof after the other: side by side their threads want too much memory.
set_option Elab.async false

/-- Every part but the two link ports. -/
def otherParts : List Part :=
  [.chip, .settings, .timebase, .render, .driver, .composer, .store, .thermal, .wear, .gain,
    .sensors, .authority, .service, .freeDraws, .pending]

section CreditLaw

variable {s t : State}

/-! ## The law of one port -/

theorem LinkPort.creditLaw_reset : LinkPort.reset.creditLaw := ⟨by decide, fun _ => ⟨rfl, rfl⟩⟩

/-- R154: after a DOWN nothing is queued and no credit is held. -/
theorem LinkPort.creditLaw_dropped (p : LinkPort) : p.dropped.creditLaw :=
  ⟨Nat.zero_le 4, fun _ => ⟨rfl, rfl⟩⟩

variable {p : LinkPort}

/-- R153: a port that is not READY has nothing queued and no credit, in whatever state it goes. -/
theorem LinkPort.creditLaw.toState (h : p.creditLaw) (hn : p.state ≠ .ready) (x : LinkState) :
    { p with state := x }.creditLaw := by
  obtain ⟨hbulk, hcredits⟩ := h.2 hn
  exact ⟨h.1, fun _ => ⟨hbulk, hcredits⟩⟩

/-- R153: the four credits of a port that becomes READY. -/
theorem LinkPort.creditLaw.offered (h : p.creditLaw) (hn : p.state ≠ .ready) :
    { p with state := .ready, credits := 4, resend := 0 }.creditLaw := by
  obtain ⟨hbulk, -⟩ := h.2 hn
  refine ⟨?_, fun hr => absurd rfl hr⟩
  show p.bulk.length + 4 ≤ 4
  rw [hbulk]
  exact Nat.le_refl 4

/-- R160: a BLOCK that is queued takes a credit. -/
theorem LinkPort.creditLaw.admits (h : p.creditLaw) (hr : p.state = .ready)
    (hc : p.credits ≠ 0) (e : BulkEntry) :
    { p with credits := p.credits - 1, bulk := p.bulk ++ [e] }.creditLaw := by
  refine ⟨?_, fun hn => absurd hr hn⟩
  have hsum : p.bulk.length + p.credits ≤ 4 := h.1
  show (p.bulk ++ [e]).length + (p.credits - 1) ≤ 4
  rw [List.length_append, List.length_singleton]
  omega

/-- R161: a BLOCK that leaves the queue gives its credit back. -/
theorem LinkPort.creditLaw.completes (h : p.creditLaw) {e : BulkEntry} {rest : List BulkEntry}
    (hb : p.bulk = e :: rest) :
    { p with bulk := rest, credits := p.credits + 1, outstanding := .none }.creditLaw := by
  obtain ⟨hsum, hready⟩ := h
  refine ⟨?_, fun hn => ?_⟩
  · rw [hb, List.length_cons] at hsum
    show rest.length + (p.credits + 1) ≤ 4
    omega
  · rw [hb] at hready
    exact absurd (hready hn).1 (List.cons_ne_nil e rest)

/-! ## The law and the parts it speaks of -/

theorem creditLaw_iff : CreditLaw s ↔ ∀ l, (s.link l).creditLaw :=
  ⟨fun h l => by
    cases l
    · exact h.1
    · exact h.2, fun h => ⟨h .a, h .b⟩⟩

theorem CreditLaw.link (h : CreditLaw s) (l : Link) : (s.link l).creditLaw := creditLaw_iff.mp h l

/-- The law speaks of the ports alone. -/
theorem CreditLaw.frame (h : CreditLaw s) (k : KeepsBut otherParts s t) : CreditLaw t := by
  have ha : t.linkA = s.linkA := k .linkA (by decide)
  have hb : t.linkB = s.linkB := k .linkB (by decide)
  unfold CreditLaw
  rw [ha, hb]
  exact h

theorem CreditLaw.ite (p : Prop) [Decidable p] (hs : CreditLaw s) (ht : CreditLaw t) :
    CreditLaw (if p then s else t) := by
  split_ifs
  · exact hs
  · exact ht

/-- A port that keeps its state, its queue and its credits keeps the law. -/
theorem CreditLaw.setLink (h : CreditLaw s) (l : Link) (v : LinkPort)
    (hv : (s.link l).creditLaw → v.creditLaw := by exact fun hc => hc) :
    CreditLaw (s.setLink l v) := creditLaw_iff.mpr fun k => by
  by_cases hk : k = l
  · subst hk
    rw [setLink_link_same]
    exact hv (h.link k)
  · rw [setLink_link_of_ne s l v hk]
    exact h.link k

theorem setAuthority_creditLaw (v : Authority) (h : CreditLaw s) : CreditLaw (s.setAuthority v) := h

theorem setChip_creditLaw (v : Chip) (h : CreditLaw s) : CreditLaw (s.setChip v) := h

theorem setService_creditLaw (v : ServiceLine) (h : CreditLaw s) : CreditLaw (s.setService v) := h

/-! ## The end of a step -/

theorem settleWork_creditLaw (h : CreditLaw s) : CreditLaw (settleWork s) :=
  h.frame (settleWork_keeps (KeepsBut.refl _ s) (by simp [otherParts]))

theorem settle_creditLaw (h : CreditLaw s) : CreditLaw (settle s) :=
  h.frame (settle_keeps (KeepsBut.refl _ s) (by simp [otherParts]))

theorem send_creditLaw (l : Link) (m : Outgoing) (h : CreditLaw s) : CreditLaw (send l m s) :=
  h.setLink l _

theorem sendReport_creditLaw (l : Link) (body : List Byte) (h : CreditLaw s) :
    CreditLaw (sendReport l body s) := .ite _ (send_creditLaw l _ h) h

theorem report_creditLaw (cs : List Cause) (h : CreditLaw s) : CreditLaw (report cs s) :=
  .ite _ (sendReport_creditLaw .b _ (sendReport_creditLaw .a _ (h.frame (clearLimited_keeps
    (setAuthority_keeps _ (KeepsBut.refl _ s) (by decide)) (by simp [otherParts]))))) h

theorem conclude_creditLaw (extra : List Cause) (before : State) (h : CreditLaw s) :
    CreditLaw (conclude extra before s) := .ite _ (report_creditLaw _ h) h

/-- The end of a step that may report. -/
theorem concludeSettle_creditLaw (extra : List Cause) (before : State) (h : CreditLaw s) :
    CreditLaw (conclude extra before (settle s)) :=
  conclude_creditLaw extra before (settle_creditLaw h)

/-- A round joined or opened, and the transaction that then starts, touch no port. -/
theorem startJoined_creditLaw (m : RoundMark) (h : CreditLaw s) :
    CreditLaw (startNext (joinRound m s)) :=
  h.frame (startNext_keeps (joinRound_keeps m (KeepsBut.refl _ s) (by simp [otherParts]))
    (by simp [otherParts]))

/-! ## The authority unit (R133 to R144) -/

theorem becomeStale_creditLaw (l : Link) (h : CreditLaw s) : CreditLaw (becomeStale l s) := by
  rw [becomeStale_eq]
  exact setAuthority_creditLaw _ (h.setLink l { s.link l with fresh := false })

theorem holdExpiry_creditLaw (l : Link) (h : CreditLaw s) : CreditLaw (holdExpiry l s) :=
  h.frame (holdExpiry_keeps l (KeepsBut.refl _ s) (by simp [otherParts]))

theorem storeRecord_creditLaw (l : Link) (r : WallRecord) (h : CreditLaw s) :
    CreditLaw (storeRecord l r s) := by
  have hstored : CreditLaw (s.setLink l { s.link l with stored := some r }) := h.setLink l _
  exact .ite _ (hstored.frame (putInForce_keeps r (KeepsBut.refl _ _) (by simp [otherParts])))
    hstored

theorem takeFrameHead_creditLaw (l : Link) (h : CreditLaw s) : CreditLaw (takeFrameHead l s) := by
  have hf : CreditLaw (refresh l s) := h.setLink l _
  have hopens : ∀ u : State, CreditLaw u → CreditLaw (openFrame u) := fun u hu =>
    hu.frame (openFrame_keeps (KeepsBut.refl _ u) (by simp [otherParts]))
  have hmoved : CreditLaw (moveAuthority l (refresh l s)) :=
    hf.frame (moveAuthority_keeps l (KeepsBut.refl _ _) (by simp [otherParts]))
  exact .ite _ (.ite _ (hopens _ hmoved) (.ite _ (hopens _ hf) hf)) hf

/-- R139: authority that leaves a link touches neither queue nor credits. -/
theorem authorityDown_creditLaw (l : Link) (h : CreditLaw s) : CreditLaw (authorityDown l s) := by
  have hforgotten : CreditLaw ((becomeStale l s).setLink l
      { (becomeStale l s).link l with stored := none }) :=
    (becomeStale_creditLaw l h).setLink l _
  unfold authorityDown
  dsimp only
  split_ifs
  · exact hforgotten.frame (moveAuthority_keeps _ (KeepsBut.refl _ _) (by simp [otherParts]))
  · exact hforgotten.frame (enterHolding_keeps (setAuthority_keeps _ (KeepsBut.refl _ _)
      (by decide)) (by simp [otherParts]))
  · exact hforgotten

/-! ## Receipt (R155, R156, R160 to R163) -/

theorem setCounts_creditLaw (l : Link) (f : LinkCounts → LinkCounts) (h : CreditLaw s) :
    CreditLaw (setCounts l f s) := h.setLink l _

theorem passFrameHead_creditLaw (l : Link) (body : List Byte) (h : CreditLaw s) :
    CreditLaw (passFrameHead l body s) := by
  have hpassed : ∀ u : State, CreditLaw u → CreditLaw
      (conclude [] (u.setLink l { u.link l with lastSequence := some (getU16 0 body) })
        (settle (takeFrameHead l
          (u.setLink l { u.link l with lastSequence := some (getU16 0 body) })))) :=
    fun u hu => concludeSettle_creditLaw _ _ (takeFrameHead_creditLaw l (hu.setLink l _))
  unfold passFrameHead
  dsimp only
  split_ifs
  · exact hpassed _ (setCounts_creditLaw l _ h)
  · exact hpassed _ h

theorem takeRow_creditLaw (l : Link) (y : Nat) (pixels : List (Rgb Nat)) (h : CreditLaw s) :
    CreditLaw (takeRow l y pixels s) :=
  .ite _ (.ite _ (h.frame (renderRow_keeps y pixels (KeepsBut.refl _ s) (by simp [otherParts])))
    (h.setLink l _)) h

theorem passRow_creditLaw (l : Link) (body : List Byte) (h : CreditLaw s) :
    CreditLaw (passRow l body s) :=
  .ite _ (setCounts_creditLaw l _ h) (.ite _ (setCounts_creditLaw l _ h)
    (.ite _ (setCounts_creditLaw l _ h) (takeRow_creditLaw l _ _ h)))

/-- R161: a program requested leaves its BLOCK in the queue. -/
theorem requestHead_creditLaw (l : Link) (h : CreditLaw s) : CreditLaw (requestHead l s) := by
  unfold requestHead
  dsimp only
  split
  · exact (h.setLink l { s.link l with outstanding := .current }).frame
      (placeProgram_keeps l _ (KeepsBut.refl _ _) (by simp [otherParts]))
  all_goals exact h

theorem answerBlock_creditLaw (l : Link) (tag : Byte) (r : Result) (h : CreditLaw s) :
    CreditLaw (answerBlock l tag r s) := send_creditLaw l _ (send_creditLaw l _ h)

/-- R160: a BLOCK refused has its credit back in the same step. -/
theorem refuseBlock_creditLaw (l : Link) (tag : Byte) (h : CreditLaw s) :
    CreditLaw (refuseBlock l tag s) :=
  answerBlock_creditLaw l tag _ (setCounts_creditLaw l _ h)

theorem admitBlock_creditLaw {l : Link} (tag : Byte) (b : BlockProgram)
    (hr : (s.link l).state = .ready) (hc : (s.link l).credits ≠ 0) (h : CreditLaw s) :
    CreditLaw (admitBlock l tag b s) :=
  (requestHead_creditLaw l (h.setLink l _ fun hp => hp.admits hr hc ⟨tag, b⟩)).frame
    (settleStore_keeps (KeepsBut.refl _ _) (by simp [otherParts]))

theorem takeBlock_creditLaw {l : Link} (tag : Byte) (body : List Byte)
    (hr : (s.link l).state = .ready) (h : CreditLaw s) : CreditLaw (takeBlock l tag body s) := by
  unfold takeBlock
  split_ifs with hc
  · exact setCounts_creditLaw l _ h
  · split
    · exact .ite _ (admitBlock_creditLaw tag _ hr hc h) (refuseBlock_creditLaw l tag h)
    · exact refuseBlock_creditLaw l tag h

theorem enqueuePrompt_creditLaw (l : Link) (kind : Byte) (u : LinkUnit) (h : CreditLaw s) :
    CreditLaw (enqueuePrompt l kind u s) := .ite _ (h.setLink l _) (setCounts_creditLaw l _ h)

/-- R155: a message on a READY link. -/
theorem takeReady_creditLaw {l : Link} (kind : Byte) (u : LinkUnit)
    (hr : (s.link l).state = .ready) (h : CreditLaw s) : CreditLaw (takeReady l kind u s) := by
  unfold takeReady
  split_ifs
  · exact setCounts_creditLaw l _ h
  · exact passFrameHead_creditLaw l u.body h
  · exact setCounts_creditLaw l _ h
  · exact passRow_creditLaw l u.body h
  · exact takeBlock_creditLaw u.tag u.body hr h
  · exact enqueuePrompt_creditLaw l kind u h

theorem receive_creditLaw (l : Link) (kind : Byte) (u : LinkUnit) (h : CreditLaw s) :
    CreditLaw (receive l kind u s) := by
  have hfailed : CreditLaw (countCheckFailure l s) := setCounts_creditLaw l _ h
  unfold receive
  refine .ite _ h ?_
  split
  · exact h
  · exact h
  · rename_i hp
    have hn : (s.link l).state ≠ .ready := fun hr => LinkState.noConfusion (hp.symm.trans hr)
    exact .ite _ (.ite _ (h.setLink l _ fun hc => hc.offered hn) (setCounts_creditLaw l _ h))
      hfailed
  · rename_i hr
    exact .ite _ (takeReady_creditLaw kind u hr h) hfailed

/-! ## Bring-up, sent messages, completions, the DOWN (R153, R154, R159, R161) -/

theorem offerCredits_creditLaw (l : Link) (h : CreditLaw s) : CreditLaw (offerCredits l s) :=
  send_creditLaw l _ (h.setLink l _)

/-- R153: a link on its way up or down, but for READY. -/
theorem setLinkState_creditLaw {l : Link} {x y : LinkState} (hx : (s.link l).state = x)
    (hn : x ≠ .ready) (h : CreditLaw s) : CreditLaw (setLinkState l y s) :=
  h.setLink l _ fun hc => hc.toState (by rw [hx]; exact hn) y

theorem signalDetected_creditLaw (l : Link) (h : CreditLaw s) :
    CreditLaw (signalDetected l s) := by
  unfold signalDetected
  split_ifs with hd
  · exact setLinkState_creditLaw hd.2 (by decide) h
  · exact h

theorem symbolLock_creditLaw (l : Link) (h : CreditLaw s) : CreditLaw (symbolLock l s) := by
  unfold symbolLock
  split_ifs with ht
  · exact offerCredits_creditLaw l (setLinkState_creditLaw ht.2 (by decide) h)
  · exact h

/-- R161, R154: the completion of a port's program. -/
theorem completeLink_creditLaw (l : Link) (ok : Bool) (h : CreditLaw s) :
    CreditLaw (completeLink l ok s) := by
  unfold completeLink
  dsimp only
  split
  · rename_i hb
    exact requestHead_creditLaw l (answerBlock_creditLaw l _ _
      (h.setLink l _ fun hc => hc.completes hb))
  · exact h.setLink l _
  · exact .ite _ (requestHead_creditLaw l (h.setLink l _)) (h.setLink l _)
  · exact h

theorem linkSent_creditLaw (l : Link) (h : CreditLaw s) : CreditLaw (linkSent l s) := by
  have hafter : ∀ (m : Outgoing) {u : State}, CreditLaw u → CreditLaw (afterSent l m u) :=
    fun m u hu => by
      have hended := hu.setLink l { u.link l with awaiting := false }
      unfold afterSent
      split
      · exact hended
      · exact setChip_creditLaw _ hended
      all_goals exact hu
  unfold linkSent
  split
  · exact hafter _ (h.setLink l _)
  · exact h

theorem goDown_creditLaw (l : Link) (h : CreditLaw s) : CreditLaw (goDown l s) := by
  have hdropped : CreditLaw (s.setLink l (s.link l).dropped) :=
    h.setLink l _ fun _ => LinkPort.creditLaw_dropped _
  exact settle_creditLaw (authorityDown_creditLaw l
    (.ite _ (setChip_creditLaw _ hdropped) hdropped))

theorem linkDown_creditLaw (l : Link) (h : CreditLaw s) : CreditLaw (linkDown l s) := by
  refine .ite _ h ?_
  split
  · exact h
  · rename_i htraining
    exact setLinkState_creditLaw htraining (by decide) h
  · exact conclude_creditLaw _ _ (goDown_creditLaw l h)
  · exact conclude_creditLaw _ _ (goDown_creditLaw l h)

/-! ## Requests -/

/-- R150: a new hold time writes the freshness alone of the ports. -/
theorem applyHoldTime_creditLaw (v : Nat) (h : CreditLaw s) : CreditLaw (applyHoldTime v s) := by
  have hset : CreditLaw (s.setSettings { s.settings with holdTime := v }) := h
  have stale : ∀ (l : Link) (p : Prop) [Decidable p] {u : State}, CreditLaw u →
      CreditLaw (if p then becomeStale l u else u) := fun l p _ _ hu =>
    .ite p (becomeStale_creditLaw l hu) hu
  have expiry : ∀ (l : Link) (p : Prop) [Decidable p] {u : State}, CreditLaw u →
      CreditLaw (if p then holdExpiry l u else u) := fun l p _ _ hu =>
    .ite p (holdExpiry_creditLaw l hu) hu
  exact expiry .b _ (expiry .a _ (stale .b _ (stale .a _ hset)))

theorem applySetting_creditLaw (x : Setting) (v : Int) (h : CreditLaw s) :
    CreditLaw (applySetting x v s) := by
  have hk : KeepsBut otherParts s s := KeepsBut.refl _ s
  cases x with
  | holdTime => exact settle_creditLaw (applyHoldTime_creditLaw _ h)
  | blankAfter =>
    exact settle_creditLaw (h.frame (applyBlankAfter_keeps _ hk (by simp [otherParts])))
  | fCap =>
    exact h.frame (capGains_keeps _ (setSettings_keeps _ hk (by decide)) (by simp [otherParts]))
  | sensorMap => exact h.frame (remapSensors_keeps _ hk (by simp [otherParts]))
  | _ => exact h

theorem performSet_creditLaw (op : SetOp) (h : CreditLaw s) :
    CreditLaw (performSet op s).state := by
  have hk : KeepsBut otherParts s s := KeepsBut.refl _ s
  cases op with
  | jobLevel k v =>
    unfold performSet setJobLevel
    dsimp only
    split_ifs
    · exact h
    · exact h
    · exact settleWork_creditLaw (h.frame (setComposer_keeps _ hk (by decide)))
  | phaseTable t =>
    unfold performSet setPhaseTable
    dsimp only
    split_ifs
    all_goals exact h
  | darkPolicy b v =>
    unfold performSet setDarkPolicy
    dsimp only
    split_ifs
    · exact h
    · split
      · exact h.frame (setBankPolicy_keeps b _ hk (by simp [otherParts]))
      · exact h
  | value x v =>
    unfold performSet setValue
    dsimp only
    split_ifs
    · exact h
    · exact h
    · exact applySetting_creditLaw x _ h
    · exact applySetting_creditLaw x _ h

theorem powerCommand_creditLaw (o : Origin) {f : State → State}
    (hf : KeepsBut otherParts s (f s)) (h : CreditLaw s) :
    CreditLaw (powerCommand o f s).state := by
  unfold powerCommand
  split_ifs
  · exact settle_creditLaw (h.frame hf)
  · exact h

/-- The owner's rule of a request that links and tool share. -/
theorem perform_creditLaw (o : Origin) (r : Request) (h : CreditLaw s) :
    CreditLaw (perform o r s).state := by
  have hk : KeepsBut otherParts s s := KeepsBut.refl _ s
  cases r with
  | wall r =>
    cases o with
    | link l => exact settleWork_creditLaw (storeRecord_creditLaw l _ h)
    | tool => exact h
  | take =>
    cases o with
    | link l =>
      unfold perform performTake takeCommand
      dsimp only
      split_ifs
      all_goals exact h
    | tool => exact h
  | dark => exact powerCommand_creditLaw o (commandDark_keeps hk (by simp [otherParts])) h
  | light => exact powerCommand_creditLaw o (commandLight_keeps hk (by simp [otherParts])) h
  | rest => exact powerCommand_creditLaw o (commandRest_keeps hk (by simp [otherParts])) h
  | rebuild zs =>
    unfold perform performRebuild
    dsimp only
    split_ifs
    · exact h
    · exact settleWork_creditLaw (h.frame (joinBuild_keeps zs hk (by simp [otherParts])))
  | query q => exact h
  | set op => exact performSet_creditLaw op h
  | close => exact .ite _ h (settle_creditLaw (setChip_creditLaw _ h))
  | reset => exact h

theorem performTool_creditLaw (tag : Byte) (r : ToolRequest) (h : CreditLaw s) :
    CreditLaw (performTool tag r s).state := by
  have hk : KeepsBut otherParts s s := KeepsBut.refl _ s
  have hoffered : ∀ q, CreditLaw (offerProgram tag q s).state := fun q =>
    h.frame ((offerProgram_keeps tag q s).mono (by simp [otherParts]))
  cases r with
  | shared r => exact perform_creditLaw .tool r h
  | block q =>
    unfold performTool toolBlock
    dsimp only
    split_ifs
    · exact hoffered _
    · exact h
  | identity fields =>
    unfold performTool toolIdentity
    dsimp only
    split_ifs
    · exact h
    · exact hoffered _
    · exact h
  | trim codes =>
    exact settleWork_creditLaw (h.frame (setTrims_keeps codes hk (by simp [otherParts])))
  | wearClear z =>
    exact settleWork_creditLaw (h.frame (clearWear_keeps z hk (by simp [otherParts])))
  | bank es =>
    exact h.frame ((setBankModes_keeps es (KeepsBut.refl _ s)).mono (by simp [otherParts]))
  | latch b v => exact h.frame (setBankLatch_keeps b v hk (by simp [otherParts]))

theorem handleFrame_creditLaw (tag kind : Byte) (req : Option ToolRequest) (h : CreditLaw s) :
    CreditLaw (handleFrame tag kind req s) := by
  rcases handleFrame_cases tag kind req s with hk | ⟨r, -, he⟩
  · exact h.frame (hk.mono (by simp [otherParts]))
  · rw [he]
    exact (performTool_creditLaw tag r h).frame
      ((answerTool_keeps _ _ _ _).mono (by simp [otherParts]))

theorem promptStep_creditLaw (l : Link) (mine : Request → Bool) (h : CreditLaw s) :
    CreditLaw (promptStep l mine s) := by
  rcases promptStep_cases l mine s with he | ⟨m, rest, r, he⟩
  · exact he.symm ▸ h
  · rw [he, handlePrompt_eq]
    have hbegun : CreditLaw (beginPrompt l rest s) := h.setLink l _
    exact conclude_creditLaw _ _ (send_creditLaw l _ (perform_creditLaw (.link l) r hbegun))

theorem refusePrompt_creditLaw (l : Link) (h : CreditLaw s) : CreditLaw (refusePrompt l s) := by
  refine .ite _ ?_ h
  split
  · split
    · exact h
    · have hbegun : ∀ rest, CreditLaw (beginPrompt l rest s) := fun rest => h.setLink l _
      exact send_creditLaw l _ (hbegun _)
  · exact h

theorem toolStep_creditLaw (tag kind : Byte) (req : Option ToolRequest) (h : CreditLaw s) :
    CreditLaw (toolStep tag kind req s) := by
  rcases toolStep_cases tag kind req s with he | he
  · exact he.symm ▸ h
  · exact he ▸ conclude_creditLaw _ _ (handleFrame_creditLaw tag kind req h)

theorem requestStep_creditLaw {α : Type} (v : Via α) (mine : Request → Bool) (kind : Byte)
    (req : α → Option Request) (h : CreditLaw s) : CreditLaw (requestStep v mine kind req s) := by
  cases v with
  | port l => exact promptStep_creditLaw l mine h
  | tool tag a => exact toolStep_creditLaw tag kind _ h

/-! ## Service frames -/

theorem endFrame_creditLaw (buf : List Byte) (h : CreditLaw s) : CreditLaw (endFrame buf s) :=
  .ite _ (conclude_creditLaw _ _ (handleFrame_creditLaw _ _ _ (setService_creditLaw _ h)))
    (setService_creditLaw _ h)

theorem receiveByte_creditLaw (b : LineByte) (h : CreditLaw s) : CreditLaw (receiveByte b s) := by
  have hi : CreditLaw (s.setService { s.service with idle := 0 }) := setService_creditLaw _ h
  unfold receiveByte
  dsimp only
  split
  · exact .ite _ hi hi
  · exact .ite _ hi (.ite _ hi (.ite _ (endFrame_creditLaw _ hi) hi))

theorem receiveBytes_creditLaw (bytes : List LineByte) (h : CreditLaw s) :
    CreditLaw (bytes.foldl (fun s b => receiveByte b s) s) := by
  induction bytes generalizing s with
  | nil => exact h
  | cons b bytes ih => exact ih (receiveByte_creditLaw b h)

/-! ## Resets and start-up (R152, R177) -/

/-- Every reset leaves both ports as after a POWER reset. -/
theorem creditLaw_of_reset (ha : s.linkA = LinkPort.reset) (hb : s.linkB = LinkPort.reset) :
    CreditLaw s := by
  unfold CreditLaw
  rw [ha, hb]
  exact ⟨LinkPort.creditLaw_reset, LinkPort.creditLaw_reset⟩

theorem coldReset_creditLaw (pins : StrapPins) (s : State) : CreditLaw (coldReset pins s) :=
  creditLaw_of_reset rfl rfl

theorem clearWarm_creditLaw (s : State) : CreditLaw (clearWarm s) := creditLaw_of_reset rfl rfl

theorem resetPinRelease_creditLaw (pins : StrapPins) (h : CreditLaw s) :
    Leads (.resetPinRelease pins) s CreditLaw := by
  refine .intro rfl ?_
  split
  · exact coldReset_creditLaw _ _
  · exact creditLaw_of_reset rfl rfl
  all_goals exact setChip_creditLaw _ h

theorem startupChecksDone_creditLaw (f : StoreFindings) (h : CreditLaw s) :
    CreditLaw (startupChecksDone f s) := by
  have hchecked : CreditLaw (checkedState f s) :=
    h.frame ((checkedState_keeps f s).mono (by simp [otherParts]))
  exact .ite _ (concludeSettle_creditLaw _ (checkedState f s)
    (startJoined_creditLaw _ hchecked)) h

/-! ## Ticks and expiries -/

/-- R173: the milliseconds of the ports write ages and resend timers. -/
theorem millisecond_creditLaw (h : CreditLaw s) : CreditLaw (millisecond s) := by
  have hbase : CreditLaw ((s.setTimebase s.timebase.step).setAuthority s.authority.tick) := h
  have hticked := (hbase.setLink .a s.linkA.tick).setLink .b s.linkB.tick
  exact .ite _ (hticked.frame (loadSample_keeps (tickBanks_keeps
    (setWear_keeps _ (KeepsBut.refl _ _) (by decide)) (by simp [otherParts]))
    (by simp [otherParts]))) h

theorem onTick_creditLaw {f : State → State} (hf : CreditLaw (f s)) (h : CreditLaw s) :
    CreditLaw (onTick f s) := .ite _ hf h

theorem thermalTick_creditLaw (h : CreditLaw s) : CreditLaw (thermalTick s) :=
  concludeSettle_creditLaw _ _ (startJoined_creditLaw _ (h.frame (setThermal_keeps _
    (setTimebase_keeps _ (KeepsBut.refl _ s) (by decide)) (by decide))))

theorem pilotTick_creditLaw (h : CreditLaw s) : CreditLaw (pilotTick s) :=
  settleWork_creditLaw (h.frame (startSequence_keeps
    (setTimebase_keeps _ (KeepsBut.refl _ s) (by decide)) (by simp [otherParts])))

theorem scrubTick_creditLaw (h : CreditLaw s) : CreditLaw (scrubTick s) :=
  settleWork_creditLaw (h.frame (requestScrub_keeps
    (setTimebase_keeps _ (KeepsBut.refl _ s) (by decide)) (by simp [otherParts])))

theorem driftSaveTick_creditLaw (h : CreditLaw s) : CreditLaw (driftSaveTick s) :=
  h.frame (settleStore_keeps (requestSave_keeps _ (setTimebase_keeps _ (KeepsBut.refl _ s)
    (by decide)) (by simp [otherParts])) (by simp [otherParts]))

theorem restWakeExpiry_creditLaw (h : CreditLaw s) : CreditLaw (restWakeExpiry s) :=
  .ite _ (concludeSettle_creditLaw _ _ (startJoined_creditLaw _ (h.frame (clearLoad_keeps
    (setChip_keeps _ (KeepsBut.refl _ s) (by decide)) (by simp [otherParts]))))) h

theorem settleTimerExpiry_creditLaw (h : CreditLaw s) : CreditLaw (settleTimerExpiry s) := by
  unfold settleTimerExpiry
  split
  · exact settle_creditLaw (h.frame (startNext_keeps (beginRead_keeps _ (KeepsBut.refl _ s)
      (by simp [otherParts])) (by simp [otherParts])))
  all_goals exact h

theorem ageExpiry_creditLaw (l : Link) (h : CreditLaw s) : CreditLaw (ageExpiry l s) :=
  .ite _ (concludeSettle_creditLaw _ _ (holdExpiry_creditLaw l
    (becomeStale_creditLaw l (h.setLink l _)))) h

theorem blankAfterExpiry_creditLaw (h : CreditLaw s) : CreditLaw (blankAfterExpiry s) :=
  .ite _ (concludeSettle_creditLaw _ _ (setAuthority_creditLaw _ h)) h

theorem answerSent_creditLaw (who : Sender) (h : CreditLaw s) :
    Leads (.answerSent who) s CreditLaw := by
  cases who with
  | link l => exact .intro rfl (.ite _ (linkSent_creditLaw l h) h)
  | service =>
    exact .intro rfl (.ite _ (h.frame (serviceSent_keeps (KeepsBut.refl _ s)
      (by simp [otherParts]))) h)

theorem sync_creditLaw (low : Nat) (h : CreditLaw s) : CreditLaw (sync low s) :=
  .ite _ (.ite _ (concludeSettle_creditLaw _ _ (h.frame (reportSync_keeps (setService_keeps _
    (KeepsBut.refl _ s) (by decide)) (by simp [otherParts])))) (setService_creditLaw _ h)) h

/-! ## The ends of transactions, grants and jobs -/

theorem onSensor_creditLaw {f : State → State} (hf : KeepsBut otherParts s (f s))
    (h : CreditLaw s) : CreditLaw (onSensor f s) :=
  .ite _ (concludeSettle_creditLaw _ _ (h.frame hf)) h

theorem blockReadDone_creditLaw (cells : Option Stored) (h : CreditLaw s) :
    CreditLaw (blockReadDone cells s) := by
  unfold blockReadDone
  split
  · exact settle_creditLaw (h.frame ((endBlockRead_keeps _ cells s).mono (by simp [otherParts])))
  all_goals exact h

/-- A program's completion reaches its requester, and the decision and the scan follow. -/
theorem programEnded_creditLaw (who : Requester) (ok : Bool) (h : CreditLaw s) :
    CreditLaw (settleWork (reportProgram who ok s)) := by
  refine settleWork_creditLaw ?_
  cases who with
  | linkA => exact completeLink_creditLaw .a ok h
  | linkB => exact completeLink_creditLaw .b ok h
  | service => exact h.frame (completeService_keeps ok (KeepsBut.refl _ s) (by simp [otherParts]))
  | composer => exact h
  | driftSave => exact h

theorem blockProgramDone_creditLaw (cells : Option Stored) (h : CreditLaw s) :
    CreditLaw (blockProgramDone cells s) := by
  unfold blockProgramDone
  split
  · exact programEnded_creditLaw _ _
      (h.frame ((blockEnded_keeps _ _ s).mono (by simp [otherParts])))
  all_goals exact h

theorem identityProgramDone_creditLaw (cells : Option Stored) (h : CreditLaw s) :
    CreditLaw (identityProgramDone cells s) := by
  unfold identityProgramDone
  split
  · exact programEnded_creditLaw .service _
      (h.frame ((identityEnded_keeps _ s).mono (by simp [otherParts])))
  all_goals exact h

theorem driftSaveDone_creditLaw (cells : Option Stored) (h : CreditLaw s) :
    CreditLaw (driftSaveDone cells s) := by
  have hk : KeepsBut otherParts s s := KeepsBut.refl _ s
  unfold driftSaveDone
  split
  · exact concludeSettle_creditLaw _ _ (.ite _
      (h.frame (enterRest_keeps (setStore_keeps _ hk (by decide)) (by simp [otherParts])))
      (h.frame (setStore_keeps _ hk (by decide))))
  all_goals exact h

theorem thermalJobEnd_creditLaw (h : CreditLaw s) : CreditLaw (thermalJobEnd s) := by
  unfold thermalJobEnd
  split
  · exact .ite _ h (settleWork_creditLaw (h.frame (endThermal_keeps _ (KeepsBut.refl _ s)
      (by simp [otherParts]))))
  all_goals exact h

theorem gainEnd_creditLaw (h : CreditLaw s) : CreditLaw (gainEnd s) := by
  unfold gainEnd
  split
  · exact .ite _ h (concludeSettle_creditLaw _ _
      (h.frame ((endGain_keeps _ s).mono (by simp [otherParts]))))
  all_goals exact h

/-! ## Every step -/

/-- Every command keeps the law. -/
theorem leads_creditLaw (h : CreditLaw s) : ∀ c, Leads c s CreditLaw
  | .powerOn pins =>
    .intro rfl (.ite _ (setChip_creditLaw _ (coldReset_creditLaw ⟨0, 0, false⟩ s))
      (coldReset_creditLaw pins s))
  | .resetPinRelease pins => resetPinRelease_creditLaw pins h
  | .warmReset _ => .intro rfl (.ite _ (setChip_creditLaw _ (clearWarm_creditLaw s)) h)
  | .startupChecksDone f => .intro rfl (startupChecksDone_creditLaw f h)
  | .loadSample => .intro rfl (millisecond_creditLaw h)
  | .thermalTick => .intro rfl (onTick_creditLaw (thermalTick_creditLaw h) h)
  | .pilotTick => .intro rfl (onTick_creditLaw (pilotTick_creditLaw h) h)
  | .scrubTick => .intro rfl (onTick_creditLaw (scrubTick_creditLaw h) h)
  | .reportTick => .intro rfl (onTick_creditLaw (f := reportTick) (conclude_creditLaw _ _ h) h)
  | .driftSaveTick => .intro rfl (onTick_creditLaw (driftSaveTick_creditLaw h) h)
  | .restWakeExpiry => .intro rfl (restWakeExpiry_creditLaw h)
  | .primingTimerExpiry b =>
    .intro rfl (onTick_creditLaw (h.frame (primingExpired_keeps b.val (KeepsBut.refl _ s)
      (by simp [otherParts]))) h)
  | .settleTimerExpiry => .intro rfl (onTick_creditLaw (settleTimerExpiry_creditLaw h) h)
  | .linkStale l => .intro rfl (onTick_creditLaw (ageExpiry_creditLaw l h) h)
  | .blankAfterExpiry => .intro rfl (onTick_creditLaw (blankAfterExpiry_creditLaw h) h)
  | .creditResendTimer l => .intro rfl (.ite _ (offerCredits_creditLaw l h) h)
  | .signalDetected l => .intro rfl (signalDetected_creditLaw l h)
  | .symbolLock l => .intro rfl (symbolLock_creditLaw l h)
  | .linkDown l => .intro rfl (linkDown_creditLaw l h)
  | .init l u | .frameHead l u | .row l u | .promptMessageArrival l _ u | .block (.port l u) =>
    .intro rfl (receive_creditLaw l _ u h)
  | .answerSent who => answerSent_creditLaw who h
  | .unknownKind l => .intro rfl (refusePrompt_creditLaw l h)
  | .block (.tool _ _) => .intro rfl (toolStep_creditLaw _ _ _ h)
  | .wall l | .take l => .intro rfl (promptStep_creditLaw l _ h)
  | .dark v | .light v | .rest v | .queryZoneStatus v | .queryStoreStatus v | .queryThermalState v
  | .queryWearState v | .queryGainState v | .queryComposerState v | .querySensorState v
  | .queryAuthorityState v | .queryLinkState v | .queryConfiguration v | .close v | .reset v
  | .rebuild v | .setJobLevel v | .setPhaseTable v | .setDarkPolicy v
  | .setHoldTime v | .setBlankAfter v | .setThermalInterval v | .setK v | .setRho v | .setFCap v
  | .setSensorMap v | .setAssumedAmbient v | .setPilotInterval v | .setScrubInterval v
  | .setReportInterval v | .setDriftSaveInterval v | .setRestWakeInterval v =>
    .intro rfl (requestStep_creditLaw v _ _ _ h)
  | .trim _ _ | .wearClear _ _ | .bank _ _ | .latch _ _ _ | .identity _ _ =>
    .intro rfl (toolStep_creditLaw _ _ _ h)
  | .sync low => .intro rfl (sync_creditLaw low h)
  | .serviceFrame bytes => .intro rfl (.ite _ (receiveBytes_creditLaw bytes h) h)
  | .serviceFrameTimeout => .intro rfl (.ite _ (setService_creditLaw _ h) h)
  | .serviceBreak _ =>
    .intro rfl (.ite _ (h.frame (returnToSync_keeps (KeepsBut.refl _ s) (by simp [otherParts]))) h)
  | .idle =>
    .intro rfl (.ite _ (setService_creditLaw _
      (h.frame (returnToSync_keeps (KeepsBut.refl _ s) (by simp [otherParts])))) h)
  | .sensorResponse f =>
    .intro rfl (onSensor_creditLaw
      (sensorResponse_keeps f (KeepsBut.refl _ s) (by simp [otherParts])) h)
  | .sensorDeadline =>
    .intro rfl (onSensor_creditLaw
      (sensorDeadline_keeps (KeepsBut.refl _ s) (by simp [otherParts])) h)
  | .blockReadDone cells => .intro rfl (blockReadDone_creditLaw cells h)
  | .blockProgramDone cells => .intro rfl (blockProgramDone_creditLaw cells h)
  | .identityProgramDone cells => .intro rfl (identityProgramDone_creditLaw cells h)
  | .driftSaveDone cells => .intro rfl (driftSaveDone_creditLaw cells h)
  | .thermalJobEnd => .intro rfl (thermalJobEnd_creditLaw h)
  | .gainEnd => .intro rfl (gainEnd_creditLaw h)
  | .resetPinDrivenLow =>
    .intro rfl (.ite _ (setChip_creditLaw _ (clearWarm_creditLaw (setPinLow true s)))
      (setChip_creditLaw _ h))
  | .powerLoss => .intro rfl (setChip_creditLaw _ (coldReset_creditLaw ⟨0, 0, false⟩ s))

end CreditLaw

/-- Settles O48: on the front command by `leads_creditLaw`; an idle second moves the wake counter
alone. -/
theorem creditLawIsKept : Obligations.CreditLawIsKept := by
  intro s t h hs
  cases hp : s.pending with
  | nil =>
    rw [step_nil hp] at hs
    cases hs
    exact .ite _ (setChip_creditLaw _ h) h
  | cons c rest =>
    rw [step_cons hp] at hs
    have hrest : CreditLaw (s.setPending rest) := h
    exact (leads_creditLaw hrest c).of_exec hs

end Sys2Proof.Machine
end

section
/-! The bring-up of a link (R153), and what its port makes of an arriving message (R155, R156): the
link check, then the discard in CREDIT_PENDING, and the prompt queue in READY. -/

namespace Sys2Proof.Machine

-- One proof after the other: side by side their threads want too much memory.
set_option Elab.async false

section LinkPort

variable {l : Link} {u : LinkUnit} {kind : Byte} {s : State} {row : Instr}

/-- A command that does nothing but write the port of `l`. -/
theorem leads_setLink {v w : LinkPort} (h : exec row s = .next (s.setLink l v)) (hv : v = w) :
    Leads row s fun t => t.link l = w ∧ KeepsBut [linkPart l] s t :=
  .intro h ⟨(setLink_link_same s l v).trans hv, setLink_keepsBut l v s⟩

/-! ## Receipt (R155) -/

/-- R155: a port whose receiver delivers messages. -/
def State.receives (s : State) (l : Link) : Prop :=
  (s.link l).state = .creditPending ∨ (s.link l).state = .ready

theorem receive_of_failed (hl : s.live = true) (hr : s.receives l)
    (hc : linkCheckPasses kind u = false) : receive l kind u s = countCheckFailure l s := by
  unfold receive
  rw [hl, hc]
  rcases hr with hr | hr <;> rw [hr] <;> rfl

theorem receive_of_pending (hl : s.live = true) (hr : (s.link l).state = .creditPending)
    (hc : linkCheckPasses kind u = true) : receive l kind u s = takePending l kind u s := by
  unfold receive
  rw [hl, hc, hr]
  rfl

theorem receive_of_ready (hl : s.live = true) (hr : (s.link l).state = .ready)
    (hc : linkCheckPasses kind u = true) : receive l kind u s = takeReady l kind u s := by
  unfold receive
  rw [hl, hc, hr]
  rfl

/-- R155: a message of a kind without a row of its own goes to the prompt queue. -/
theorem takeReady_of_prompt (hk : kind ∉ ownRowKinds) :
    takeReady l kind u s = enqueuePrompt l kind u s := by
  simp only [ownRowKinds, List.mem_cons, List.not_mem_nil, or_false, not_or] at hk
  obtain ⟨hhead, hrow, hinit, hblock⟩ := hk
  unfold takeReady
  rw [if_neg (fun h => hinit h.1), if_neg (fun h => hhead h.1), if_neg hrow,
    if_neg (show ¬kind = kindBlock from hblock)]

end LinkPort

/-- Settles O15: each row of the table of R153 writes the port. -/
theorem linkBringUp : Obligations.LinkBringUp := by
  intro l s hl
  refine ⟨fun hd => ?_, fun ht => ?_, fun ht => ?_, fun hp hs => ?_, fun u hu hc =>
    ⟨fun hp => ?_, fun hr => ?_⟩⟩
  · exact leads_setLink (congrArg _ (if_pos ⟨hl, hd⟩)) rfl
  · have hdown : linkDown l s = setLinkState l .down s := by
      unfold linkDown
      rw [hl, ht]
      rfl
    exact leads_setLink (congrArg _ hdown) rfl
  · have hlock : symbolLock l s = s.setLink l
        { s.link l with
          state := .creditPending, resend := 10, sends := (s.link l).sends ++ [.credit 4] } :=
      (if_pos ⟨hl, ht⟩).trans (by cases l <;> rfl)
    exact leads_setLink (congrArg _ hlock) rfl
  · have hoffer : creditResend l s = s.setLink l
        { s.link l with resend := 10, sends := (s.link l).sends ++ [.credit 4] } :=
      (if_pos ⟨hs, hp⟩).trans (by cases l <;> rfl)
    exact leads_setLink (congrArg _ hoffer) rfl
  · have hready : receive l 0x03 u s = becomeReady l s :=
      (receive_of_pending hl hp hc).trans (if_pos ⟨rfl, hu⟩)
    exact leads_setLink (congrArg _ hready) rfl
  · have hcounted : receive l 0x03 u s =
        setCounts l (fun k => { k with unexpectedInit := inc32 k.unexpectedInit }) s :=
      (receive_of_ready hl hr hc).trans (if_pos ⟨rfl, hu⟩)
    exact leads_setLink (congrArg Host.Outcome.next hcounted) rfl

/-- Settles O20: by `receive_of_failed`, `receive_of_pending` and `receive_of_ready`. -/
theorem linkReceipt : Obligations.LinkReceipt := by
  intro l kind u s hl c failure
  have hfailed : ∀ (k : Byte) (row : Instr), exec row s = .next (receive l k u s) →
      s.receives l → linkCheckPasses k u = false → failure row := fun k row he hr hc =>
    leads_counted _ (he.trans (congrArg _ (receive_of_failed hl hr hc)))
  refine ⟨fun hr => ⟨hfailed _ _ rfl hr, hfailed _ _ rfl hr, hfailed _ _ rfl hr,
      hfailed _ _ rfl hr, hfailed _ _ rfl hr⟩,
    fun hp hc hk => ?_, fun hr hc hk => ?_⟩
  · have hdiscarded : receive l kind u s = countNotReady l s :=
      (receive_of_pending hl hp hc).trans (if_neg fun h => hk h.1)
    exact leads_setLink (congrArg Host.Outcome.next hdiscarded) rfl
  · have hprompt : receive l kind u s = enqueuePrompt l kind u s :=
      (receive_of_ready hl hr hc).trans (takeReady_of_prompt hk)
    exact ⟨fun hroom => leads_setLink (congrArg _ (hprompt.trans (if_pos hroom))) rfl,
      fun hfull => leads_setLink
        (congrArg Host.Outcome.next (hprompt.trans (if_neg (Nat.not_lt.mpr hfull)))) rfl⟩

end Sys2Proof.Machine
end

section
/-! RESET is answered first (R157, R172), and the laws hold right after a POWER reset. -/

namespace Sys2Proof.Machine

-- One proof after the other: side by side their threads want too much memory.
set_option Elab.async false

/-- Settles O34: the owner of a RESET does nothing, and its answer is marked. -/
theorem resetIsAnsweredFirst : Obligations.ResetIsAnsweredFirst := by
  intro v s h
  have hacted : actedAt v .reset s = acted .done (handledAt v s) := rfl
  obtain ⟨hanswer, hkeep⟩ := requestStep_answers (r := .reset) (mine := (· == .reset))
    (req := fun _ => some .reset) (ps := []) h parseRequest_reset rfl rfl
    (by rw [hacted]; exact KeepsBut.refl _ _) (by simp)
  rw [hacted] at hanswer hkeep
  exact .intro rfl ⟨hanswer, (handledAt_keeps v s).trans hkeep⟩

theorem kappaLaw_reset : KappaLaw State.reset := fun e => by cases e <;> decide

theorem sensorLaw_reset : SensorLaw State.reset := ⟨List.nodup_nil, fun _ h => nomatch h⟩

/-- A POWER reset of the reset state with the straps 0 leaves it. -/
theorem coldReset_reset : coldReset ⟨0, 0, false⟩ State.reset = State.reset := rfl

theorem programmingLaw_reset : ProgrammingLaw State.reset :=
  coldReset_reset ▸ coldReset_programmingLaw ⟨0, 0, false⟩ State.reset

theorem codeLaw_reset : CodeLaw State.reset :=
  coldReset_reset ▸ coldReset_codeLaw ⟨0, 0, false⟩ State.reset

/-- Settles O47: law by law. -/
theorem lawsHoldAtReset : Obligations.LawsHoldAtReset :=
  ⟨creditLaw_of_reset rfl rfl, temperatureLaw_reset, kappaLaw_reset, authorityLaw_of_none rfl,
    factorLaw_reset, sensorLaw_reset, programmingLaw_reset, reset_tables_wf, stackLaw_reset,
    codeLaw_reset⟩

end Sys2Proof.Machine
end

section
/-! Outgoing messages (R157 to R159, R169, R172, R188, R189): the bytes of each unit and frame, and
what the leaving of a message ends. A prompt that no row of a request takes (R157). -/

namespace Sys2Proof.Machine

-- One proof after the other: side by side their threads want too much memory.
set_option Elab.async false

/-! ## The bytes on the wires (R158, R169, R188, R189) -/

section Bytes

/-- R189: the code of a result in its byte. -/
def Result.byte (r : Result) : Byte :=
  match r with
  | .done => 0
  | .clamped => 1
  | .kept => 2
  | .failed => 3
  | .refusedBad => 4
  | .refusedLocked => 5
  | .refusedState => 6

theorem putU8_resultCode (r : Result) : putU8 r.code = [r.byte] := by cases r <;> rfl

theorem answerBody_eq (kind : Byte) (r : Result) (content : List Byte) :
    answerBody kind r content = kind :: r.byte :: content := by
  rw [answerBody, putU8_resultCode]
  rfl

theorem unit_answer (x : AnswerTo) (tag kind : Byte) (r : Result) (content : List Byte) :
    (Outgoing.answer x tag kind r content).unit =
      withCrc (0x40 :: tag :: putU16 (2 + content.length) ++ kind :: r.byte :: content) := by
  have hlen : (kind :: r.byte :: content).length = 2 + content.length := Nat.add_comm _ 2
  rw [Outgoing.unit, answerBody_eq, linkBytes, hlen]
  rfl

theorem unit_credit (n : Nat) :
    (Outgoing.credit n).unit = withCrc [0x41, 0, 1, 0, BitVec.ofNat 8 n] := by
  have hbody : putU8 n = [BitVec.ofNat 8 n] := by simp [putU8, leBytes]
  have hlen : putU16 1 = [1, 0] := rfl
  rw [Outgoing.unit, hbody, linkBytes, List.length_singleton, hlen]
  rfl

theorem frame_eq (a : ServiceAnswer) :
    a.frame = 0x7E :: withCrc (putU16 (4 + a.content.length) ++
      0x40 :: a.tag :: a.kind :: a.result.byte :: a.content) := by
  have hlen : (kindAnswer :: a.tag :: a.kind :: a.result.byte :: a.content).length =
      4 + a.content.length := Nat.add_comm _ 4
  rw [ServiceAnswer.frame, answerBody_eq, hlen]
  rfl

end Bytes

/-! ## What a message's leaving ends (R157, R159, R172) -/

section Sent

variable {l : Link} {s : State}

/-- R157, R172: a reset that is due is due once. -/
theorem mem_resetDue_dueReset (c w : WarmCause) (s : State) :
    w ∈ (dueReset c s).chip.resetDue ↔ w ∈ s.chip.resetDue ∨ w = c := by
  show w ∈ (if s.chip.resetDue.contains c then s.chip.resetDue else s.chip.resetDue ++ [c]) ↔ _
  split_ifs with hc
  · have hmem : c ∈ s.chip.resetDue := List.contains_iff_mem.mp hc
    exact ⟨.inl, fun h => h.elim id fun he => he ▸ hmem⟩
  · rw [List.mem_append, List.mem_singleton]

theorem dueReset_chip (c : WarmCause) (s : State) :
    (dueReset c s).chip = { s.chip with resetDue := (dueReset c s).chip.resetDue } := rfl

/-- R157: the port's wait for a prompt's answer, once the message `m` has left. -/
def Outgoing.awaitingAfter (m : Outgoing) (awaiting : Bool) : Bool :=
  match m with
  | .answer .prompt _ _ _ _ | .answer .resetPrompt _ _ _ _ => false
  | _ => awaiting

/-- A reset that is due with `b`. -/
def dueIf (b : Bool) (c : WarmCause) (s : State) : State := if b then dueReset c s else s

/-- Only the resets that are due change. -/
theorem dueIf_writes (b : Bool) (c : WarmCause) (s : State) :
    (∀ w, w ∈ (dueIf b c s).chip.resetDue ↔ w ∈ s.chip.resetDue ∨ (w = c ∧ b = true)) ∧
      (dueIf b c s).chip = { s.chip with resetDue := (dueIf b c s).chip.resetDue } ∧
      KeepsBut [.chip] s (dueIf b c s) := by
  cases b with
  | false => exact ⟨fun w => by simp [dueIf], rfl, KeepsBut.refl _ s⟩
  | true =>
    exact ⟨fun w => (mem_resetDue_dueReset c w s).trans (by simp), dueReset_chip c s,
      dueReset_keeps c (KeepsBut.refl _ s) (by simp)⟩

/-- The oldest message leaves a link: its bytes, the wait for a prompt's answer, a reset due. -/
theorem linkSent_eq {m : Outgoing} {rest : List Outgoing} (h : (s.link l).sends = m :: rest) :
    linkSent l s = dueIf m.isReset (causeOf l)
      (s.setLink l
        { s.link l with
          sends := rest, wire := (s.link l).wire ++ [m.unit]
          awaiting := m.awaitingAfter (s.link l).awaiting }) := by
  unfold linkSent
  rw [h]
  cases m with
  | answer x tag kind r content => cases x <;> cases l <;> rfl
  | credit n => cases l <;> rfl
  | report body => cases l <;> rfl

theorem serviceSent_eq {a : ServiceAnswer} {rest : List ServiceAnswer}
    (h : s.service.sends = a :: rest) :
    serviceSent s = dueIf a.isReset .service
      (s.setService { s.service with sends := rest, wire := s.service.wire ++ a.frame }) := by
  unfold serviceSent
  rw [h]
  rfl

end Sent

/-! ## A prompt that no request's row takes (R157) -/

section BadPrompt

variable {l : Link} {s : State}

/-- A kind outside 0x10 to 0x19 is unknown. -/
theorem parseRequest_of_unknown {kind : Byte} (h : ∀ n < 10, kind ≠ BitVec.ofNat 8 (0x10 + n))
    (body : List Byte) : parseRequest kind body = none := by
  have hno : ∀ n < 10, ∀ k : Byte, k = BitVec.ofNat 8 (0x10 + n) → ¬kind = k :=
    fun n hn k hk => hk ▸ h n hn
  unfold parseRequest
  rw [if_neg (hno 0 (by decide) kindWall rfl), if_neg (hno 1 (by decide) kindTake rfl),
    if_neg (hno 2 (by decide) kindDark rfl), if_neg (hno 3 (by decide) kindLight rfl),
    if_neg (hno 4 (by decide) kindRest rfl), if_neg (hno 5 (by decide) kindRebuild rfl),
    if_neg (hno 6 (by decide) kindQuery rfl), if_neg (hno 7 (by decide) kindSet rfl),
    if_neg (hno 8 (by decide) kindClose rfl), if_neg (hno 9 (by decide) kindReset rfl)]

theorem refusePrompt_of_bad {m : Message} {rest : List Message} (hs : s.started = true)
    (ha : (s.link l).awaiting = false) (hq : (s.link l).prompts = m :: rest)
    (hbad : parseRequest m.kind m.body = none) :
    refusePrompt l s = s.setLink l
      { s.link l with
        prompts := rest, awaiting := true
        sends := (s.link l).sends ++ [.answer .prompt m.tag m.kind .refusedBad []] } := by
  have hmay : s.mayTakePrompt l = true := by simp [State.mayTakePrompt, hs, ha]
  unfold refusePrompt
  rw [if_pos hmay, hq]
  dsimp only
  rw [hbad]
  cases l <;> rfl

end BadPrompt

/-- Settles O21: bytes by `unit_answer`, `unit_credit` and `frame_eq`, the rest by `linkSent_eq`,
`serviceSent_eq` and `refusePrompt_of_bad`. -/
theorem messagesLeaveAndBadPrompts : Obligations.MessagesLeaveAndBadPrompts := by
  intro s hl code sealed unit frame
  have hcode : ∀ r, code r = r.byte := fun r => by cases r <;> rfl
  have hunit : ∀ m : Outgoing, m.unit = unit m := fun m => by
    cases m with
    | answer x tag kind r content =>
      rw [unit_answer, ← hcode]
      rfl
    | credit n => exact unit_credit n
    | report body => rfl
  have hframe : ∀ a : ServiceAnswer, a.frame = frame a := fun a => by
    rw [frame_eq, ← hcode]
    rfl
  refine ⟨fun l m rest hm => ?_, fun a rest ha => ?_, fun l m rest hs ha hq hbad => ?_⟩
  · obtain ⟨hdue, hchip, hkeep⟩ := dueIf_writes m.isReset (causeOf l) (s.setLink l
      { s.link l with
        sends := rest, wire := (s.link l).wire ++ [m.unit]
        awaiting := m.awaitingAfter (s.link l).awaiting })
    rw [← linkSent_eq hm] at hdue hchip hkeep
    rw [setLink_chip] at hdue hchip
    refine .intro (congrArg Host.Outcome.next (if_pos hl)) ⟨?_, hdue, hchip, ?_⟩
    · rw [hkeep.link_eq (by cases l <;> decide), setLink_link_same, hunit]
      cases m <;> rfl
    · exact ((setLink_keepsBut l _ s).mono (by simp)).trans (hkeep.mono (by simp))
  · obtain ⟨hdue, hchip, hkeep⟩ := dueIf_writes a.isReset .service
      (s.setService { s.service with sends := rest, wire := s.service.wire ++ a.frame })
    rw [← serviceSent_eq ha] at hdue hchip hkeep
    refine .intro (congrArg Host.Outcome.next (if_pos hl)) ⟨?_, hdue, hchip, ?_⟩
    · rw [← hframe]
      exact hkeep .service (by decide)
    · exact (setService_keeps _ (KeepsBut.refl _ s) (by simp)).trans (hkeep.mono (by simp))
  · have hnone : parseRequest m.kind m.body = none :=
      hbad.elim (fun h => parseRequest_of_unknown h _) id
    exact leads_setLink (congrArg Host.Outcome.next (refusePrompt_of_bad hs ha hq hnone)) rfl

end Sys2Proof.Machine
end

section
/-! A BLOCK on a READY link (R160, R161, R46, R47, R54): counted as overrun, refused, queued behind
a program, or requested at the arbiter, whose scan grants it at a free port where nothing else
waits. -/

namespace Sys2Proof.Machine

-- One proof after the other: side by side their threads want too much memory.
set_option Elab.async false

section LinkBlock

variable {l : Link} {u : LinkUnit} {tag : Byte} {body : List Byte} {p : BlockProgram} {s : State}

/-! ## What becomes of a BLOCK (R160) -/

/-- The fields of a BLOCK's body (R46). -/
def blockFields (body : List Byte) : BlockProgram :=
  ⟨getU16 0 body, slice 2 1152 body, getCrc 1154 body⟩

/-- R160 step 3: index, size and content CRC are right. -/
def GoodBlock (body : List Byte) (s : State) : Prop :=
  body.length = 1156 ∧ (blockFields body).block < s.blockCount ∧
    crc16 (blockFields body).records = (blockFields body).crc

theorem blockGood_iff :
    s.blockGood p = true ↔ p.block < s.blockCount ∧ crc16 p.records = p.crc := by
  rw [State.blockGood, Bool.and_eq_true, decide_eq_true_eq, beq_iff_eq]

theorem exec_linkBlock (hl : s.live = true) (hr : (s.link l).state = .ready)
    (hc : linkCheckPasses kindBlock u = true) :
    exec (.block (.port l u)) s = .next (takeBlock l u.tag u.body s) := by
  refine congrArg Host.Outcome.next ((receive_of_ready hl hr hc).trans ?_)
  unfold takeReady
  rw [if_neg (fun h => absurd h.1 (by decide)), if_neg (fun h => absurd h.1 (by decide)),
    if_neg (by decide), if_pos rfl]

theorem takeBlock_of_good (hc : (s.link l).credits ≠ 0) (hg : GoodBlock body s) :
    takeBlock l tag body s = admitBlock l tag (blockFields body) s := by
  obtain ⟨hlen, hfields⟩ := hg
  unfold takeBlock parseBlock
  rw [if_neg hc, if_pos hlen]
  exact if_pos (blockGood_iff.mpr hfields)

theorem takeBlock_of_bad (hc : (s.link l).credits ≠ 0) (hg : ¬GoodBlock body s) :
    takeBlock l tag body s = refuseBlock l tag s := by
  unfold takeBlock parseBlock
  rw [if_neg hc]
  by_cases hlen : body.length = 1156
  · rw [if_pos hlen]
    exact if_neg fun h => hg ⟨hlen, blockGood_iff.mp h⟩
  · rw [if_neg hlen]

theorem refuseBlock_eq (l : Link) (tag : Byte) (s : State) : refuseBlock l tag s = s.setLink l
    { s.link l with
      sends := (s.link l).sends ++ [.answer .bulk tag kindBlock .refusedBad [], .credit 1]
      counts :=
        { (s.link l).counts with blockRefusals := inc32 (s.link l).counts.blockRefusals } } := by
  have hsends : ∀ a b : Outgoing, (s.link l).sends ++ [a, b] = (s.link l).sends ++ [a] ++ [b] :=
    fun a b => by rw [List.append_assoc]; rfl
  rw [hsends]
  cases l <;> rfl

/-! ## The bulk queue (R160, R161) -/

/-- R160: the BLOCK takes a credit and queues. -/
def queuedBlock (l : Link) (e : BulkEntry) (s : State) : State :=
  s.setLink l
    { s.link l with credits := (s.link l).credits - 1, bulk := (s.link l).bulk ++ [e] }

/-- R161: it stands alone in the queue, and its program is requested. -/
def placedBlock (l : Link) (e : BulkEntry) (s : State) : State :=
  (s.setLink l
    { s.link l with
      credits := (s.link l).credits - 1, bulk := [e], outstanding := .current }).setStore
    { s.store with waiting := nextProgram l [e] s.store.waiting }

theorem admitBlock_of_outstanding (ho : (s.link l).outstanding ≠ .none) :
    admitBlock l tag p s = settleStore (queuedBlock l ⟨tag, p⟩ s) := by
  have hhead : requestHead l (queuedBlock l ⟨tag, p⟩ s) = queuedBlock l ⟨tag, p⟩ s := by
    have hsame : ((queuedBlock l ⟨tag, p⟩ s).link l).outstanding = (s.link l).outstanding := by
      rw [queuedBlock, setLink_link_same]
    unfold requestHead
    dsimp only
    rw [hsame]
    cases h : (s.link l).outstanding with
    | none => exact absurd h ho
    | current => rfl
    | orphaned b => rfl
  exact congrArg settleStore hhead

theorem admitBlock_of_none (ho : (s.link l).outstanding = .none) (hb : (s.link l).bulk = []) :
    admitBlock l tag p s = settleStore (placedBlock l ⟨tag, p⟩ s) := by
  have hhead : requestHead l (queuedBlock l ⟨tag, p⟩ s) = placedBlock l ⟨tag, p⟩ s := by
    rw [requestHead_of_none (by rw [queuedBlock, setLink_link_same]; exact ho)]
    unfold queuedBlock placedBlock
    rw [hb, setLink_link_same]
    cases l <;> rfl
  exact congrArg settleStore hhead

theorem queuedBlock_keeps (e : BulkEntry) : KeepsBut [linkPart l] s (queuedBlock l e s) :=
  setLink_keepsBut l _ s

/-- A steady state has no request for the scan, and the queue asks for none. -/
theorem settleStore_queuedBlock (e : BulkEntry) (h : NothingToGrant s) :
    settleStore (queuedBlock l e s) = queuedBlock l e s := by
  have hk : KeepsBut [linkPart l] s (queuedBlock l e s) := queuedBlock_keeps e
  exact settleStore_of_no_seeks (NothingToGrant.congr h (hk .store (by cases l <;> decide))
    (hk.composerStopped_eq (by cases l <;> decide)))

/-! ## The grant at once (R47, R54) -/

theorem has_nextProgram (l : Link) (e : BulkEntry) (r : Requester) :
    (nextProgram l [e] Waiting.none).has r = decide (r = linkRequester l) := by
  cases l <;> cases r <;> rfl

/-- Where nothing else waits, the link's program alone takes part in the scan. -/
theorem eligible_of_linkProgram {w : State} {e : BulkEntry}
    (hw : w.store.waiting = nextProgram l [e] Waiting.none) (r : Requester) :
    w.eligible r = true ↔ r = linkRequester l := by
  have hlink : (linkRequester l == .composer) = false := by cases l <;> rfl
  rw [State.eligible, hw, has_nextProgram]
  constructor
  · intro h
    exact of_decide_eq_true (Bool.and_eq_true_iff.mp h).1
  · rintro rfl
    rw [hlink, decide_eq_true rfl]
    rfl

/-- The scan grants the program, and nothing waits any more. -/
theorem settleStore_placedBlock {e : BulkEntry} (ho : OpenTo (linkRequester l) s) :
    ∃ n, settleStore (placedBlock l e s) =
      programBegun (linkRequester l) e.program s.store.waiting
        ((placedBlock l e s).setStore { (placedBlock l e s).store with phasePointer := n }) := by
  obtain ⟨hfree, hw, hlength, hmem⟩ := ho
  have hwaiting : (placedBlock l e s).store.waiting = nextProgram l [e] Waiting.none := by
    rw [← hw]
    rfl
  have heligible := eligible_of_linkProgram hwaiting
  obtain ⟨n, hn, hphase⟩ := winningPhase_of_only (s := placedBlock l e s) hlength hmem
    ((heligible _).mpr rfl) fun q hq => Bool.eq_false_iff.mpr fun he => hq ((heligible q).mp he)
  have hgrant : settleStore (placedBlock l e s) = grantRequest (linkRequester l)
      ((placedBlock l e s).setStore
        { (placedBlock l e s).store with phasePointer := (n + 1) % 16 }) := by
    rw [settleStore, if_pos (show (placedBlock l e s).store.port = .free from hfree), hn]
    dsimp only
    rw [hphase]
  have hbegins := grantBegins_grantRequest (linkRequester l)
    ((placedBlock l e s).setStore
      { (placedBlock l e s).store with phasePointer := (n + 1) % 16 })
  rw [← hgrant] at hbegins
  refine ⟨(n + 1) % 16, ?_⟩
  cases l with
  | a =>
    refine (hbegins e.program (by rw [setStore_store, hwaiting]; rfl)).trans ?_
    rw [setStore_store, hwaiting, hw]
    rfl
  | b =>
    refine (hbegins e.program (by rw [setStore_store, hwaiting]; rfl)).trans ?_
    rw [setStore_store, hwaiting, hw]
    rfl

/-- R47: the block is PROGRAMMING, its slot holds the open-program mark and what is written. -/
theorem programBegun_block {who : Requester} {w : Waiting} (x : State)
    (hp : p.block < x.store.blockStates.length) :
    (programBegun who p w x).blockState p.block = .programming ∧
      (programBegun who p w x).slot p.block = ⟨p.records, p.crc, true⟩ ∧
      ∀ i, i ≠ p.block →
        (programBegun who p w x).slot i = x.slot i ∧
          (programBegun who p w x).blockState i = x.blockState i := by
  have hopen : (⟨p.records, p.crc, true⟩ : Stored) ≠ erasedBlock := fun h =>
    Bool.noConfusion (congrArg Stored.openMark h)
  exact ⟨blockState_setBlockState_same hp .programming,
    Table.get_put_of_ne erasedBlock x.store.slots p.block hopen,
    fun i hi => ⟨Table.get_put_other erasedBlock _ hi _, blockState_setBlockState_of_ne hi _ x⟩⟩

end LinkBlock

/-- Settles O19: by `takeBlock_of_bad` and `takeBlock_of_good`; the scan by `scanned_settleStore`,
the grant at once by `settleStore_placedBlock`. -/
theorem linkBlockActs : Obligations.LinkBlockActs := by
  intro l u s hl hr hc p good who c
  have he := exec_linkBlock hl hr hc
  have hadmit : 0 < c.credits → good →
      exec (.block (.port l u)) s = .next (admitBlock l u.tag p s) := fun h hg =>
    he.trans (congrArg _ (takeBlock_of_good (Nat.pos_iff_ne_zero.mp h) hg))
  refine ⟨fun h => ?_, fun h hg => ?_, fun h hg ho => ?_, fun h hg ho hb => ?_,
    fun h hg ho hb hfree hw hlength hmem hstates => ?_⟩
  · exact leads_counted _ (he.trans (congrArg _ (if_pos h)))
  · have hbad := takeBlock_of_bad (tag := u.tag) (Nat.pos_iff_ne_zero.mp h) hg
    exact leads_setLink (he.trans (congrArg _ (hbad.trans (refuseBlock_eq l u.tag s)))) rfl
  · intro queued
    have hexec := (hadmit h hg).trans (congrArg _ (admitBlock_of_outstanding ho))
    refine .intro hexec ⟨scanned_settleStore _, fun hnone => ?_⟩
    exact settleStore_queuedBlock ⟨u.tag, p⟩ (hnone.elim .inl Steady.nothingToGrant)
  · intro placed
    have hexec := (hadmit h hg).trans (congrArg _ (admitBlock_of_none ho hb))
    have hplaced : placedBlock l ⟨u.tag, p⟩ s = placed := by cases l <;> rfl
    rw [hplaced] at hexec
    exact .intro hexec ⟨scanned_settleStore _, fun hport => settleStore_of_taken hport⟩
  · have hwho : linkRequester l = who := by cases l <;> rfl
    obtain ⟨n, hn⟩ := settleStore_placedBlock (e := ⟨u.tag, p⟩)
      (show OpenTo (linkRequester l) s from ⟨hfree, hw, hlength, hwho ▸ hmem⟩)
    have hexec := (hadmit h hg).trans (congrArg _ ((admitBlock_of_none ho hb).trans hn))
    rw [hwho] at hexec
    have hp : p.block < s.store.blockStates.length := by
      rw [hstates]
      exact Nat.lt_of_lt_of_le hg.2.1 (blockCount_le s)
    obtain ⟨hstate, hslot, hothers⟩ := programBegun_block (who := who) (w := s.store.waiting)
      ((placedBlock l ⟨u.tag, p⟩ s).setStore
        { (placedBlock l ⟨u.tag, p⟩ s).store with phasePointer := n }) hp
    refine .intro hexec ⟨?_, rfl, hstate, hslot, hothers, ?_, ?_⟩
    · show (placedBlock l ⟨u.tag, p⟩ s).link l = _
      rw [placedBlock, setStore_link, setLink_link_same]
    · cases l <;> rfl
    · exact setStore_keeps _ (setStore_keeps _ (setStore_keeps _
        ((setLink_keepsBut l _ s).mono (by simp)) (by simp)) (by simp)) (by simp)

end Sys2Proof.Machine
end

section
/-! A link goes DOWN (R154, R139, R157): the port it leaves, what the authority unit does, the
report of what changed (R147), and what follows in the step. -/

namespace Sys2Proof.Machine

-- One proof after the other: side by side their threads want too much memory.
set_option Elab.async false

section LinkDown

variable {l : Link} {s u : State}

/-! ## The authority of a link that goes DOWN (R139) -/

/-- R139: authority moves to the other link. -/
@[reducible] def MovesAtDown (l : Link) (s : State) : Prop :=
  s.authority.holder = some l ∧ (s.link l.other).usable = true

/-- R137, R139: the output is held, as no link is usable. -/
@[reducible] def HoldsAtDown (l : Link) (s : State) : Prop :=
  s.authority.holder = some l ∧ (s.link l.other).usable = false ∧ s.authority.output = .rendering

/-- R154, R141, R143: the port of a link that has gone DOWN. -/
def downPort (p : LinkPort) : LinkPort := { p.dropped with fresh := false, stored := none }

/-- R154: a program outstanding is orphaned with the block of the queue's head. -/
theorem orphan_eq (p : LinkPort) :
    p.orphan =
      match p.outstanding, p.bulk with
      | .current, e :: _ => .orphaned e.program.block
      | o, _ => o := by
  unfold LinkPort.orphan
  cases p.outstanding with
  | none => rfl
  | current => cases p.bulk <;> rfl
  | orphaned b => rfl

theorem downPort_eq (p : LinkPort) :
    downPort p =
      { p with
        state := .down, credits := 0, prompts := [], awaiting := false, bulk := [], sends := []
        outstanding :=
          (match p.outstanding, p.bulk with
           | .current, e :: _ => .orphaned e.program.block
           | o, _ => o)
        lastSequence := none, resend := 0, fresh := false, stored := none } := by
  rw [downPort, LinkPort.dropped, orphan_eq]

/-- R139: the authority once link `l` has gone DOWN. -/
def downAuthority (l : Link) (s : State) : Authority :=
  if s.authority.holder = some l then
    if (s.link l.other).usable = true then
      { s.authority with
        holder := some l.other, pendingTake := none
        changes := min 65535 (s.authority.changes + 1), record := adopted l.other s }
    else
      heldOutput
        { s.authority with
          holder := none, pendingTake := takeWithout l s.authority.pendingTake
          changes := min 65535 (s.authority.changes + 1) }
  else { s.authority with pendingTake := takeWithout l s.authority.pendingTake }

/-- R144: the composer once link `l` has gone DOWN. -/
def downComposer (l : Link) (s : State) : Composer :=
  if s.authority.holder = some l then
    if (s.link l.other).usable = true then
      composerWithRecord s.authority.record (adopted l.other s) s.composer
    else s.composer
  else s.composer

theorem downAuthority_of_moves (h : MovesAtDown l s) : downAuthority l s =
    { s.authority with
      holder := some l.other, pendingTake := none
      changes := min 65535 (s.authority.changes + 1), record := adopted l.other s } := by
  rw [downAuthority, if_pos h.1, if_pos h.2]

theorem downAuthority_of_lost (hh : s.authority.holder = some l)
    (hu : (s.link l.other).usable = false) : downAuthority l s =
    heldOutput
      { s.authority with
        holder := none, pendingTake := takeWithout l s.authority.pendingTake
        changes := min 65535 (s.authority.changes + 1) } := by
  rw [downAuthority, if_pos hh, if_neg (by rw [hu]; exact Bool.false_ne_true)]

theorem downAuthority_of_other (hh : s.authority.holder ≠ some l) : downAuthority l s =
    { s.authority with pendingTake := takeWithout l s.authority.pendingTake } := if_neg hh

theorem downComposer_of_moves (h : MovesAtDown l s) :
    downComposer l s = composerWithRecord s.authority.record (adopted l.other s) s.composer := by
  rw [downComposer, if_pos h.1, if_pos h.2]

theorem downComposer_of_stays (h : ¬MovesAtDown l s) : downComposer l s = s.composer := by
  unfold downComposer
  split_ifs with hh hu
  · exact absurd ⟨hh, hu⟩ h
  · rfl
  · rfl

/-- R144: a record leaves the composer's job, its kept read and the staged zone. -/
theorem downComposer_job (l : Link) (s : State) :
    (downComposer l s).running = s.composer.running ∧
      (downComposer l s).deferred = s.composer.deferred ∧
      (downComposer l s).staging = s.composer.staging := by
  unfold downComposer
  split_ifs <;> exact ⟨rfl, rfl, rfl⟩

/-- The holder changes where the link has authority. -/
theorem downAuthority_holder :
    s.authority.holder = (downAuthority l s).holder ↔ ¬s.authority.holder = some l := by
  by_cases hh : s.authority.holder = some l
  · refine iff_of_false (fun heq => ?_) (not_not_intro hh)
    rw [hh] at heq
    by_cases hu : (s.link l.other).usable = true
    · rw [downAuthority_of_moves ⟨hh, hu⟩] at heq
      exact other_ne l (Option.some.inj heq).symm
    · rw [downAuthority_of_lost hh (Bool.eq_false_of_not_eq_true hu), heldOutput_holder] at heq
      exact nomatch heq
  · rw [downAuthority_of_other hh]
    exact iff_of_true rfl hh

/-- The output state changes where the output is held. -/
theorem downAuthority_output :
    (downAuthority l s).output = if HoldsAtDown l s then .holding else s.authority.output := by
  by_cases hh : s.authority.holder = some l
  · by_cases hu : (s.link l.other).usable = true
    · rw [downAuthority_of_moves ⟨hh, hu⟩,
        if_neg fun h => Bool.false_ne_true (h.2.1.symm.trans hu)]
    · have hno := Bool.eq_false_of_not_eq_true hu
      rw [downAuthority_of_lost hh hno, heldOutput_output]
      exact if_congr ⟨fun ho => ⟨hh, hno, ho⟩, fun h => h.2.2⟩ rfl rfl
  · rw [downAuthority_of_other hh, if_neg fun h => hh h.1]

/-! ## The state of the step's own rules -/

/-- The port, the authority and the composer of a link that has gone DOWN. -/
def downed (l : Link) (s : State) : State :=
  ((s.setLink l (downPort (s.link l))).setAuthority (downAuthority l s)).setComposer
    (downComposer l s)

/-- R141, R154: the port and the pending take alone. -/
def dropLink (l : Link) (s : State) : State :=
  (s.setLink l (downPort (s.link l))).setAuthority
    { s.authority with pendingTake := takeWithout l s.authority.pendingTake }

theorem dropLink_other (l : Link) (s : State) : (dropLink l s).link l.other = s.link l.other := by
  rw [dropLink, setAuthority_link, setLink_link_other]

theorem stale_dropped (l : Link) (s : State) :
    (becomeStale l (s.setLink l (s.link l).dropped)).setLink l
      { (becomeStale l (s.setLink l (s.link l).dropped)).link l with stored := none } =
        dropLink l s := by
  rw [becomeStale_eq]
  cases l <;> rfl

theorem authorityDown_dropped :
    authorityDown l (s.setLink l (s.link l).dropped) = downed l s := by
  unfold authorityDown
  dsimp only
  rw [stale_dropped, dropLink_other]
  by_cases hh : s.authority.holder = some l
  · rw [if_pos (show (dropLink l s).authority.holder = some l from hh)]
    by_cases hu : (s.link l.other).usable = true
    · rw [if_pos hu, moveAuthority_eq, adopted, dropLink_other, downed,
        downAuthority_of_moves ⟨hh, hu⟩, downComposer_of_moves ⟨hh, hu⟩]
      cases l <;> rfl
    · rw [if_neg hu, enterHolding_eq, downed,
        downAuthority_of_lost hh (Bool.eq_false_of_not_eq_true hu),
        downComposer_of_stays fun h => hu h.2]
      cases l <;> rfl
  · rw [if_neg (show ¬(dropLink l s).authority.holder = some l from hh), downed,
      downAuthority_of_other hh, downComposer_of_stays fun h => hh h.1]
    cases l <;> rfl

theorem downed_link (l : Link) (s : State) : (downed l s).link l = downPort (s.link l) := by
  rw [downed, setComposer_link, setAuthority_link, setLink_link_same]

theorem downed_other (l : Link) (s : State) : (downed l s).link l.other = s.link l.other := by
  rw [downed, setComposer_link, setAuthority_link, setLink_link_other]

theorem downed_keeps (l : Link) (s : State) :
    KeepsBut [linkPart l, .authority, .composer] s (downed l s) :=
  setComposer_keeps _ (setAuthority_keeps _ ((setLink_keepsBut l _ s).mono (by simp)) (by simp))
    (by simp)

/-- Where authority does not move, the composer is left. -/
theorem downed_keeps_of_stays (h : ¬MovesAtDown l s) :
    KeepsBut [linkPart l, .authority] s (downed l s) := by
  intro p hp
  by_cases hc : p = .composer
  · subst hc
    exact downComposer_of_stays h
  · exact downed_keeps l s p (by simp_all)

/-! ## The step (R139, R154, R157) -/

/-- R157: a RESET whose answer is discarded is due. -/
def resetDropped (l : Link) (s : State) : State :=
  dueIf ((s.link l).sends.any Outgoing.isReset) (causeOf l) s

/-- The state of the step's own rules. -/
def linkDropped (l : Link) (s : State) : State := downed l (resetDropped l s)

theorem exec_linkDown (hl : s.live = true)
    (h : (s.link l).state = .creditPending ∨ (s.link l).state = .ready) :
    exec (.linkDown l) s = .next (conclude [] s (settle (linkDropped l s))) := by
  have hdue : ∀ b, dueIf b (causeOf l) (s.setLink l (s.link l).dropped) =
      (dueIf b (causeOf l) s).setLink l ((dueIf b (causeOf l) s).link l).dropped := fun b => by
    cases b <;> cases l <;> rfl
  have hdown : goDown l s = settle (linkDropped l s) :=
    congrArg settle ((congrArg (authorityDown l) (hdue _)).trans authorityDown_dropped)
  refine congrArg Host.Outcome.next ((if_neg (by rw [hl]; decide)).trans ?_)
  rw [← hdown]
  rcases h with h | h <;> rw [h]

/-- R147: the causes of a step that leaves the power state and the phase. -/
theorem causesOf_awake (hp : u.chip.power = s.chip.power) (hf : u.chip.phase = s.chip.phase) :
    causesOf [] s u =
      (if s.authority.holder = u.authority.holder then [] else [.authority]) ++
        (if s.authority.output = u.authority.output then [] else [.output]) := by
  simp [causesOf, hp, hf]

theorem resetDropped_keeps (l : Link) (s : State) : KeepsBut [.chip] s (resetDropped l s) :=
  (dueIf_writes _ (causeOf l) s).2.2

theorem resetDropped_link (l k : Link) (s : State) : (resetDropped l s).link k = s.link k :=
  (resetDropped_keeps l s).link_eq (by cases k <;> decide)

/-- A reset that is due does not unsettle a state. -/
theorem resetDropped_steady (l : Link) (h : Steady s) : Steady (resetDropped l s) := by
  unfold resetDropped
  cases (s.link l).sends.any Outgoing.isReset with
  | false => exact h
  | true => exact h.setChip rfl rfl rfl rfl

theorem resetDropped_busy (l : Link) (h : Busy s) : Busy (resetDropped l s) := by
  unfold resetDropped
  cases (s.link l).sends.any Outgoing.isReset with
  | false => exact h
  | true => exact h

theorem linkDropped_authority (l : Link) (s : State) :
    (linkDropped l s).authority = downAuthority l s := by
  show downAuthority l (resetDropped l s) = _
  unfold downAuthority adopted
  rw [(resetDropped_keeps l s).authority_eq (by decide), resetDropped_link]

theorem linkDropped_composer (l : Link) (s : State) :
    (linkDropped l s).composer = downComposer l s := by
  show downComposer l (resetDropped l s) = _
  unfold downComposer adopted
  rw [(resetDropped_keeps l s).authority_eq (by decide), resetDropped_link,
    resetDropped_keeps l s .composer (by decide)]

/-- Where authority moves is no matter of the resets that are due. -/
theorem movesAtDown_resetDropped : MovesAtDown l (resetDropped l s) ↔ MovesAtDown l s := by
  unfold MovesAtDown
  rw [(resetDropped_keeps l s).authority_eq (by decide), resetDropped_link]

theorem linkDropped_chip (l : Link) (s : State) :
    (linkDropped l s).chip = (resetDropped l s).chip :=
  (downed_keeps l _).chip_eq (by cases l <;> decide)

theorem linkDropped_keeps (l : Link) (s : State) :
    KeepsBut [linkPart l, .authority, .composer, .chip] s (linkDropped l s) :=
  ((resetDropped_keeps l s).mono (by simp)).trans ((downed_keeps l _).mono (by simp))

/-- R147: the causes that the DOWN gives. -/
theorem causesOf_linkDropped (l : Link) (s : State) :
    causesOf [] s (settle (linkDropped l s)) =
      (if s.authority.holder = some l then [.authority] else []) ++
        (if HoldsAtDown l s then [.output] else []) := by
  obtain ⟨-, hchip, -⟩ := dueIf_writes ((s.link l).sends.any Outgoing.isReset) (causeOf l) s
  have hc : (linkDropped l s).chip = { s.chip with resetDue := (resetDropped l s).chip.resetDue } :=
    (linkDropped_chip l s).trans hchip
  have houtput : s.authority.output = (downAuthority l s).output ↔ ¬HoldsAtDown l s := by
    rw [downAuthority_output]
    split_ifs with h
    · simp [h]
    · simp [h]
  rw [causesOf_settle, causesOf_awake (by rw [hc]) (by rw [hc]), linkDropped_authority]
  simp only [downAuthority_holder, houtput, ite_not]

/-! ## What follows in the step (R12) -/

/-- From a steady state nothing follows where the output state stays and the composer is either left
or busy. -/
theorem settle_linkDropped (hq : Steady s) (ho : ¬HoldsAtDown l s)
    (h : Busy s ∨ ¬MovesAtDown l s) : settle (linkDropped l s) = linkDropped l s := by
  have hsame : (linkDropped l s).authority.output = (resetDropped l s).authority.output := by
    rw [linkDropped_authority, downAuthority_output, if_neg ho,
      (resetDropped_keeps l s).authority_eq (by decide)]
  have hquiet := resetDropped_steady l hq
  by_cases hm : MovesAtDown l s
  · obtain ⟨hr, hd, hst⟩ := downComposer_job l (resetDropped l s)
    exact settle_of_asked hquiet (resetDropped_busy l (h.resolve_right (not_not_intro hm)))
      ((downed_keeps l _).mono (by cases l <;> simp [authorityParts, linkPart])) hsame hr hd hst
  · exact settle_of_steady (hquiet.through_authority ((downed_keeps_of_stays
      (mt movesAtDown_resetDropped.mp hm)).mono
        (by cases l <;> simp [authorityParts, linkPart])) hsame)

/-- Where the output is held, the composer is left. -/
theorem linkDropped_composer_of_holds (h : HoldsAtDown l s) :
    (linkDropped l s).composer = s.composer := by
  rw [linkDropped_composer, downComposer_of_stays fun hm =>
    Bool.false_ne_true (h.2.1.symm.trans hm.2)]

theorem linkDropped_dark (h : HoldsAtDown l s) : (linkDropped l s).isRendering = false := by
  have ho : (linkDropped l s).authority.output = .holding := by
    rw [linkDropped_authority, downAuthority_output, if_pos h]
  simp [State.isRendering, ho]

theorem linkDropped_busy (h : HoldsAtDown l s) (hb : Busy s) : Busy (linkDropped l s) := by
  have hcomposer : (linkDropped l s).composer = (resetDropped l s).composer :=
    (linkDropped_composer_of_holds h).trans (resetDropped_keeps l s .composer (by decide)).symm
  exact (resetDropped_busy l hb).congr_stopped (by rw [hcomposer]) (by rw [hcomposer])
    ((downed_keeps l _).composerStopped_eq (by cases l <;> decide))

/-- Where the output is held, a busy composer leaves what follows to what waits to move. -/
theorem settle_linkDropped_keeps (hq : Steady s) (hb : Busy s) (h : HoldsAtDown l s) :
    KeepsBut [.render, .composer] (linkDropped l s) (settle (linkDropped l s)) := by
  obtain ⟨hh, hu, ho⟩ := h
  have hstays : ¬MovesAtDown l s := fun hm => Bool.false_ne_true (hu.symm.trans hm.2)
  refine settle_keeps_of_held (resetDropped_steady l hq) (resetDropped_busy l hb)
    ((downed_keeps_of_stays (mt movesAtDown_resetDropped.mp hstays)).mono
      (by cases l <;> simp [authorityParts, linkPart])) ?_
  rw [linkDropped_authority, downAuthority_output, if_pos ⟨hh, hu, ho⟩,
    (resetDropped_keeps l s).authority_eq (by decide), ho]
  simp

end LinkDown

/-- Settles O16: by the state `linkDropped` of the step's own rules, and what follows it. -/
theorem linkGoesDown : Obligations.LinkGoesDown := by
  intro l s hl hstate held moves holds record dropped
  obtain ⟨hdue, hchip, -⟩ := dueIf_writes ((s.link l).sends.any Outgoing.isReset) (causeOf l) s
  have hk := linkDropped_keeps l s
  have hdropped : dropped (linkDropped l s) := by
    refine ⟨?_, (downed_other l _).trans (resetDropped_link l _ s), fun w => ?_, ?_, fun h => ?_,
      fun h => ?_, fun hh hu => ?_, fun h => ?_, hk, fun h => ?_⟩
    · exact (downed_link l _).trans
        ((congrArg downPort (resetDropped_link l l s)).trans (downPort_eq _))
    · rw [linkDropped_chip]
      exact (hdue w).trans (by rw [List.any_eq_true])
    · rw [linkDropped_chip]
      exact hchip
    · rw [linkDropped_authority, downAuthority_of_other h]
      rfl
    · rw [linkDropped_authority, downAuthority_of_moves h]
      rfl
    · rw [linkDropped_authority, downAuthority_of_lost hh hu, heldOutput]
      by_cases ho : s.authority.output = .rendering
      · have hyes : holds := ⟨hh, hu, ho⟩
        rw [if_pos ho, if_pos hyes, if_pos hyes, if_pos hyes]
        rfl
      · have hno : ¬holds := fun h => ho h.2.2
        rw [if_neg ho, if_neg hno, if_neg hno, if_neg hno]
        rfl
    · rw [linkDropped_composer, downComposer_of_moves h]
      rfl
    · rw [linkDropped_composer, downComposer_of_stays h]
  refine .intro (exec_linkDown hl hstate) (causesOf_linkDropped l s)
    ⟨.intro hdropped, fun ho hq h => ?_, fun ho hd => ?_, fun ho hb => ⟨?_, fun hq => ?_⟩⟩
  · rw [settle_linkDropped hq ho h]
    exact hdropped
  · have hcomposer := linkDropped_composer_of_holds ho
    exact (settle_render_of_dark (by rw [hcomposer]; exact hd) (linkDropped_dark ho)).trans
      (renderInForce_congr (hk.render_eq (by cases l <;> decide)) hcomposer)
  · have hcomposer := linkDropped_composer_of_holds ho
    exact (settle_composer_of_busy (linkDropped_busy ho hb) (linkDropped_dark ho)).trans
      (composerInForce_congr hcomposer)
  · exact (hk.mono (by simp)).trans ((settle_linkDropped_keeps hq hb ho).mono (by simp))

end Sys2Proof.Machine
end

section
/-! FRAME_HEAD on a READY link (R133 to R135, R162, R10 to R12, R18, R147): the frame that it opens,
the report of what changed, and what follows in the step. -/

namespace Sys2Proof.Machine

-- One proof after the other: side by side their threads want too much memory.
set_option Elab.async false

section FrameHead

variable {l : Link} {s u w : State}

/-! ## What moves into force (R10, R11, R117, R144) -/

theorem applyPendingGain_eq (u : State) :
    applyPendingGain u = u.setRender
      { u.render with
        applied := u.render.pendingGain.getD u.render.applied, pendingGain := none } := by
  unfold applyPendingGain
  cases hg : u.render.pendingGain with
  | none =>
    have hsame : u.render = { u.render with pendingGain := none } := by rw [← hg]
    exact congrArg u.setRender hsame
  | some g => rfl

theorem moveIntoForce_eq (u : State) :
    moveIntoForce u = (u.setRender (renderInForce u)).setComposer (composerInForce u) := by
  unfold moveIntoForce commitStaged renderInForce composerInForce
  rw [applyPendingGain_eq]
  cases u.composer.staging <;> rfl

/-- Once it has moved, nothing waits to move. -/
theorem inForce_nothing (s : State) :
    (∀ z, (composerInForce s).staging ≠ .staged z) ∧ (renderInForce s).pendingGain = none := by
  obtain ⟨hstaging, hgain, -⟩ := moveIntoForce_nothing s
  rw [moveIntoForce_eq] at hstaging hgain
  exact ⟨hstaging, hgain⟩

/-- What moves is a matter of the staged zone and the pending gain set. -/
theorem renderInForce_of_staging (hr : u.render = s.render)
    (hs : u.composer.staging = s.composer.staging) : renderInForce u = renderInForce s := by
  unfold renderInForce
  rw [hr, hs]

/-- A record's work and the move into force change different fields of the composer. -/
theorem composerInForce_withRecord {old r : WallRecord}
    (hc : u.composer = composerWithRecord old r s.composer) :
    composerInForce u = composerWithRecord old r (composerInForce s) := by
  have hstaging : u.composer.staging = s.composer.staging := by
    rw [hc]
    rfl
  unfold composerInForce
  rw [hstaging, hc]
  cases s.composer.staging <;> rfl

/-- The job and its kept read stay. -/
theorem composerInForce_job (s : State) :
    (composerInForce s).running = s.composer.running ∧
      (composerInForce s).deferred = s.composer.deferred := by
  unfold composerInForce
  cases s.composer.staging <;> exact ⟨rfl, rfl⟩

/-! ## The release of the banks (R15, R17, R18) -/

/-- R18: a WAITING bank becomes ACTIVE. -/
def Bank.released (b : Bank) : Bank :=
  if b.priming = .waiting then { b with priming := .active } else b

theorem Bank.released_of_not_waiting {b : Bank} (h : b.priming ≠ .waiting) : b.released = b :=
  if_neg h

theorem Bank.released_not_waiting (b : Bank) : b.released.priming ≠ .waiting := by
  unfold Bank.released
  split_ifs with h
  · exact Priming.noConfusion
  · exact h

/-- R17: no bank waits by its policy or the power state. -/
theorem Bank.primed_not_waiting {b : Bank} (held : Bool) (h : b.priming ≠ .waiting) :
    (b.primed held).priming ≠ .waiting := by
  unfold Bank.primed
  split
  · exact Priming.noConfusion
  · split_ifs
    · exact Priming.noConfusion
    · exact Priming.noConfusion
    · exact h

/-- A bank that stands as its states ask still does once it is released. -/
theorem Bank.primed_released {b : Bank} {held : Bool} (h : b.primed held = b) :
    b.released.primed held = b.released := by
  by_cases hw : b.priming = .waiting
  · obtain ⟨_, _, policy, _, _⟩ := b
    subst hw
    cases policy with
    | park => exact Priming.noConfusion (congrArg Bank.priming h)
    | float =>
      cases held with
      | true => exact Priming.noConfusion (congrArg Bank.priming h)
      | false => rfl
  · rw [Bank.released_of_not_waiting hw]
    exact h

/-- R15: a bank shows its delivered rows. -/
theorem carries_rows_iff {b : Nat} :
    s.carries b = .rows ↔
      s.chip.config ≠ .opened ∧ b < s.height / 8 ∧ darkHeld s.chip.power (s.bank b) = false ∧
        (s.bank b).priming ≠ .priming ∧ (s.bank b).priming ≠ .waiting ∧
        (s.bank b).mode = .render ∧ s.authority.output ≠ .blanked := by
  unfold State.carries
  by_cases hc : s.chip.config = .opened
  · simp [hc]
  by_cases hh : s.height / 8 ≤ b
  · simp [hc, hh]
  by_cases hd : darkHeld s.chip.power (s.bank b) = true
  · cases hk : (s.bank b).policy <;> simp [hc, hh, hd, hk]
  by_cases hp : (s.bank b).priming = .priming ∨ (s.bank b).priming = .waiting
  · rcases hp with hp | hp <;> simp [hc, hh, hd, hp]
  · obtain ⟨hp, hw⟩ := not_or.mp hp
    cases hm : (s.bank b).mode with
    | direct => simp [hc, hh, hd, hp, hw, hm]
    | render => simp [hc, hh, Nat.lt_of_not_le hh, hd, hp, hw, hm]

/-- The banks stand as the states ask. -/
theorem settleBanks_eq_self_iff :
    settleBanks s = s ↔
      (∀ b ∈ s.driver.banks, b.primed (darkHeld s.chip.power b) = b) ∧
        ∀ e ∈ s.driver.rows, s.carries (bankOf e.1) = .rows := by
  have hprime : (∀ b ∈ s.driver.banks, b.primed (darkHeld s.chip.power b) = b) →
      primeBanks s = s := fun hb => by
    unfold primeBanks
    rw [List.map_congr_left (g := id) hb, List.map_id]
    rfl
  have hrows : primeBanks s = s → (settleBanks s).driver.rows =
      s.driver.rows.filter fun e => s.carries (bankOf e.1) == .rows := fun hp => by
    rw [settleBanks, hp]
    rfl
  constructor
  · intro h
    have hmap : s.driver.banks.map (fun b => b.primed (darkHeld s.chip.power b)) =
        s.driver.banks.map id :=
      (congrArg (fun u => u.driver.banks) h).trans (List.map_id _).symm
    have hb := List.map_inj_left.mp hmap
    refine ⟨hb, fun e he => ?_⟩
    have hr := (hrows (hprime hb)).symm.trans (congrArg (fun u => u.driver.rows) h)
    exact eq_of_beq (List.filter_eq_self.mp hr e he)
  · rintro ⟨hb, hr⟩
    rw [settleBanks, hprime hb, forgetRows,
      List.filter_eq_self.mpr fun e he => beq_iff_eq.mpr (hr e he)]
    rfl

/-- The banks of a driver once they are released. -/
def releasedDriver (v : Driver) : Driver := { v with banks := v.banks.map Bank.released }

theorem settleBanks_released (h : settleBanks s = s) (hc : w.chip = s.chip)
    (ho : w.authority.output ≠ .blanked) (hd : w.driver = releasedDriver s.driver) :
    settleBanks w = w := by
  obtain ⟨hbanks, hrows⟩ := settleBanks_eq_self_iff.mp h
  have hmode : ∀ b : Bank, b.released.mode = b.mode := fun b => by
    unfold Bank.released
    split_ifs <;> rfl
  have hheld : ∀ p (b : Bank), darkHeld p b.released = darkHeld p b := fun p b => by
    unfold darkHeld
    rw [hmode]
  have hbank : ∀ i, w.bank i = (s.bank i).released := fun i => by
    unfold State.bank
    rw [hd]
    exact List.getD_map s.driver.banks Bank.reset Bank.released
  refine settleBanks_eq_self_iff.mpr ⟨?_, ?_⟩
  · rw [hd, hc]
    intro b hb
    obtain ⟨k, hk, rfl⟩ := List.mem_map.mp hb
    rw [hheld]
    exact Bank.primed_released (hbanks k hk)
  · intro e he
    rw [hd] at he
    obtain ⟨hopen, hheight, hdark, hp, hw, hm, -⟩ := carries_rows_iff.mp (hrows e he)
    rw [carries_rows_iff, hbank, Bank.released_of_not_waiting hw, hc]
    refine ⟨hopen, ?_, hdark, hp, hw, hm, ho⟩
    unfold State.height at hheight ⊢
    rwa [hc]

/-! ## The rows through what follows (R15, R114) -/

/-- R114: the composer's decision touches the composer and the store, unless it starts a job. -/
theorem settleComposer_starts (s : State) :
    KeepsBut [.composer, .store] s (settleComposer s) ∨
      ∃ k x, KeepsBut [.composer] s x ∧ settleComposer s = startJob k x := by
  have hk : KeepsBut [.composer, .store] s s := KeepsBut.refl _ s
  have resumes : ∀ e rest, KeepsBut [.composer, .store] s (resumeTop e rest s) := fun e rest =>
    placeRead_keeps _ (setComposer_keeps _ hk (by simp)) (by simp)
  have continues : ∀ r, KeepsBut [.composer, .store] s
      (placeRead s.store.scrubPointer (setRunning r s)) := fun r =>
    placeRead_keeps _ (setRunning_keeps r hk (by simp)) (by simp)
  unfold settleComposer takeDecision decideAtPoint
  split_ifs
  · exact .inl hk
  · split
    · split
      · exact .inl hk
      · exact .inr ⟨_, s, KeepsBut.refl _ s, rfl⟩
      · exact .inl (resumes _ _)
      · split_ifs
        · exact .inr ⟨_, s, KeepsBut.refl _ s, rfl⟩
        · exact .inl (resumes _ _)
    · split
      · split_ifs
        · exact .inr ⟨_, _, setComposer_keeps _ (KeepsBut.refl _ s) (by simp), rfl⟩
        · exact .inl (continues _)
      · exact .inl (continues _)
    · exact .inl hk

theorem startJob_rows (k : JobKind) (s : State) :
    (startJob k s).driver.rows = s.driver.rows := by
  cases k with
  | build =>
    have hk : KeepsBut [.composer, .store] s (startJob .build s) :=
      takeZone_keeps (setRunning_keeps _ (KeepsBut.refl _ s) (by simp)) (by simp)
    rw [hk.driver_eq (by decide)]
  | gain => rfl
  | thermal => rfl
  | scrub => rfl

/-- What follows in a step changes the rows shown only as the states ask. -/
theorem settle_rows (u : State) : (settle u).driver.rows = (settleBanks u).driver.rows := by
  have hk : KeepsBut [.composer, .store, .render] (settleBanks u)
      (settleRender (takeDeferred (settleBanks u))) :=
    settleRender_keeps (takeDeferred_keeps (KeepsBut.refl _ _) (by simp)) (by simp)
  have hscan : KeepsBut [.store] (settleComposer (settleRender (takeDeferred (settleBanks u))))
      (settle u) := settleStore_keeps (KeepsBut.refl _ _) (by simp)
  rw [hscan.driver_eq (by decide), ← hk.driver_eq (by decide)]
  rcases settleComposer_starts (settleRender (takeDeferred (settleBanks u))) with h | ⟨k, x, h, he⟩
  · rw [h.driver_eq (by decide)]
  · rw [he, startJob_rows, h.driver_eq (by decide)]

/-! ## Where nothing waits to move (R12) -/

/-- Nothing moves into force, and the render engine is left. -/
theorem settle_render_of_forced (hd : u.composer.deferred = none) (hf : NothingToForce u) :
    (settle u).render = u.render := by
  have hd' : (settleBanks u).composer.deferred = none := hd
  have hf' : NothingToForce (settleBanks u) := hf
  have hk : KeepsBut [.composer, .store, .driver, .thermal, .wear] (settleBanks u) (settle u) := by
    rw [settle, takeDeferred_of_none hd', settleRender_of_nothing hf']
    exact settleWork_keeps (KeepsBut.refl _ _) (by simp)
  exact hk.render_eq (by decide)

theorem settle_composer_of_forced (hb : Busy u) (hf : NothingToForce u) :
    (settle u).composer = u.composer := by
  have hf' : NothingToForce (settleBanks u) := hf
  rw [settle_of_busy_composer hb, settleRender_of_nothing hf', settleStore_composer]
  rfl

/-! ## The frame head at the port and the authority unit (R133, R135, R162) -/

/-- R133, R162: the port once it has passed on the frame head of sequence number `n`. -/
def headPort (n : Nat) (p : LinkPort) : LinkPort :=
  { p with
    age := 0, fresh := true, lastSequence := some n
    counts :=
      { p.counts with
        sequenceGaps :=
          if sequenceGap p.lastSequence n = true then min 4294967295 (p.counts.sequenceGaps + 1)
          else p.counts.sequenceGaps } }

theorem sequenceGap_iff {last : Option Nat} {n : Nat} :
    sequenceGap last n = true ↔ ∃ k ∈ last, n ≠ (k + 1) % 65536 := by
  cases last <;> simp [sequenceGap]

/-- R162: the gap as the specification states it. -/
theorem headPort_eq (n : Nat) (p : LinkPort) :
    headPort n p =
      { p with
        age := 0, fresh := true, lastSequence := some n
        counts :=
          { p.counts with
            sequenceGaps :=
              if ∃ k ∈ p.lastSequence, n ≠ (k + 1) % 65536 then
                min 4294967295 (p.counts.sequenceGaps + 1)
              else p.counts.sequenceGaps } } := by
  unfold headPort
  simp only [sequenceGap_iff]

/-- The frame head has passed the port. -/
def headed (l : Link) (n : Nat) (s : State) : State := s.setLink l (headPort n (s.link l))

theorem headed_keeps (l : Link) (n : Nat) (s : State) : KeepsBut [linkPart l] s (headed l n s) :=
  setLink_keepsBut l _ s

theorem headed_links (l : Link) (n : Nat) (s : State) :
    (headed l n s).link l = headPort n (s.link l) ∧
      (headed l n s).link l.other = s.link l.other := by
  cases l <;> exact ⟨rfl, rfl⟩

/-- R134, R135: what the authority unit does with the frame head that has passed. -/
def authorityAtHead (l : Link) (u : State) : State :=
  if u.started then
    if u.takesAtHead l then openFrame (moveAuthority l u)
    else if u.authority.holder = some l then openFrame u
    else u
  else u

theorem passFrameHead_eq (l : Link) (body : List Byte) (s : State) :
    passFrameHead l body s =
      conclude [] s (settle (authorityAtHead l (headed l (getU16 0 body) s))) := by
  unfold passFrameHead headed headPort
  dsimp only
  by_cases hg : sequenceGap (s.link l).lastSequence (getU16 0 body) = true
  · rw [if_pos hg, if_pos hg]
    cases l <;> rfl
  · rw [if_neg hg, if_neg hg]
    cases l <;> rfl

theorem exec_frameHead {u : LinkUnit} (hl : s.live = true) (hr : (s.link l).state = .ready)
    (hc : linkCheckPasses 0x01 u = true) (hlen : u.body.length = 2) :
    exec (.frameHead l u) s = .next
      (conclude [] s (settle (authorityAtHead l (headed l (getU16 0 u.body) s)))) := by
  refine congrArg Host.Outcome.next ((receive_of_ready hl hr hc).trans ?_)
  rw [← passFrameHead_eq]
  unfold takeReady
  rw [if_neg (fun h => absurd h.1 (by decide)), if_pos ⟨rfl, hlen⟩]

/-! ## The frame that opens (R134, R135) -/

theorem headed_authority (l : Link) (n : Nat) (s : State) :
    (headed l n s).authority = s.authority := setLink_authority ..

theorem headed_started (l : Link) (n : Nat) (s : State) :
    (headed l n s).started = s.started := by
  unfold State.started
  rw [(headed_keeps l n s).chip_eq (by cases l <;> decide)]

/-- R135: the port of `l` is no matter of whether `l` takes authority. -/
theorem takesAtHead_headed (l : Link) (n : Nat) (s : State) :
    (headed l n s).takesAtHead l = s.takesAtHead l := by
  unfold State.takesAtHead
  rw [headed_authority]
  cases s.authority.holder with
  | none => rfl
  | some h => cases l <;> cases h <;> rfl

theorem adopted_headed (l : Link) (n : Nat) (s : State) :
    adopted l (headed l n s) = adopted l s := by
  unfold adopted
  rw [headed_authority, headed, setLink_link_same]
  rfl

theorem openFrame_eq (u : State) :
    openFrame u =
      (((u.setRender (renderInForce u)).setComposer (composerInForce u)).setDriver
        (releasedDriver u.driver)).setAuthority
          { u.authority with output := .rendering, holdingTime := 0 } := by
  rw [openFrame, moveIntoForce_eq]
  rfl

/-- R134, R135, R143: the authority at a frame head that opens a frame. -/
def headAuthority (l : Link) (s : State) : Authority :=
  { s.authority with
    holder := some l
    pendingTake := if s.takesAtHead l then none else s.authority.pendingTake
    changes :=
      if s.takesAtHead l then min 65535 (s.authority.changes + 1) else s.authority.changes
    record := if s.takesAtHead l then adopted l s else s.authority.record
    output := .rendering, holdingTime := 0 }

theorem headAuthority_of_takes (h : s.takesAtHead l = true) : headAuthority l s =
    { s.authority with
      holder := some l, pendingTake := none
      changes := min 65535 (s.authority.changes + 1), record := adopted l s
      output := .rendering, holdingTime := 0 } := by
  rw [headAuthority, if_pos h, if_pos h, if_pos h]

theorem headAuthority_of_holder (h : ¬s.takesAtHead l = true)
    (hh : s.authority.holder = some l) : headAuthority l s =
    { s.authority with output := .rendering, holdingTime := 0 } := by
  rw [headAuthority, if_neg h, if_neg h, if_neg h, ← hh]

/-- The state of the step's own rules where the frame head opens a frame. -/
def frameOpened (l : Link) (n : Nat) (s : State) : State :=
  let record := (headAuthority l s).record
  ((((headed l n s).setRender (renderInForce s)).setComposer
    (composerWithRecord s.authority.record record (composerInForce s))).setDriver
      (releasedDriver s.driver)).setAuthority (headAuthority l s)

/-- A frame opens (R134): its link takes or has authority. -/
def OpensAtHead (l : Link) (s : State) : Prop :=
  s.takesAtHead l = true ∨ s.authority.holder = some l

theorem authorityAtHead_of_quiet {n : Nat} (h : s.started = false ∨ ¬OpensAtHead l s) :
    authorityAtHead l (headed l n s) = headed l n s := by
  unfold authorityAtHead
  rw [headed_started, takesAtHead_headed, headed_authority]
  rcases h with h | h
  · rw [h]
    rfl
  · obtain ⟨ht, hh⟩ := not_or.mp h
    rw [if_neg ht, if_neg hh, ite_self]

/-- The frame opens, whatever record is put in force before. -/
theorem openFrame_of_record {n : Nat} {a : Authority} {r : WallRecord}
    (ha : u.authority = a) (hc : u.composer = composerWithRecord s.authority.record r s.composer)
    (hk : u = ((headed l n s).setAuthority a).setComposer u.composer) :
    openFrame u =
      ((((headed l n s).setRender (renderInForce s)).setComposer
        (composerWithRecord s.authority.record r (composerInForce s))).setDriver
          (releasedDriver s.driver)).setAuthority
            { a with output := .rendering, holdingTime := 0 } := by
  have hrender : u.render = s.render := by
    rw [hk]
    cases l <;> rfl
  have hdriver : u.driver = s.driver := by
    rw [hk]
    cases l <;> rfl
  rw [openFrame_eq, composerInForce_withRecord hc,
    renderInForce_of_staging hrender (by rw [hc]; rfl), ha, hdriver, hk]
  rfl

theorem authorityAtHead_of_opens {n : Nat} (hs : s.started = true) (h : OpensAtHead l s) :
    authorityAtHead l (headed l n s) = frameOpened l n s := by
  unfold authorityAtHead frameOpened
  rw [headed_started, if_pos hs, takesAtHead_headed]
  by_cases ht : s.takesAtHead l = true
  · rw [if_pos ht, headAuthority_of_takes ht, moveAuthority_eq, adopted_headed, headed_authority]
    have hcomposer : (headed l n s).composer = s.composer := by cases l <;> rfl
    exact openFrame_of_record rfl (by rw [hcomposer]; rfl) rfl
  · have hh := h.resolve_left ht
    rw [if_neg ht, headAuthority_of_holder ht hh, headed_authority, if_pos hh]
    have hcomposer : (headed l n s).composer =
        composerWithRecord s.authority.record s.authority.record s.composer := by
      rw [composerWithRecord_self]
      cases l <;> rfl
    exact openFrame_of_record (headed_authority l n s) hcomposer (by cases l <;> rfl)

theorem frameOpened_keeps (l : Link) (n : Nat) (s : State) :
    KeepsBut [linkPart l, .authority, .render, .composer, .driver] s (frameOpened l n s) :=
  setAuthority_keeps _ (setDriver_keeps _ (setComposer_keeps _ (setRender_keeps _
    ((headed_keeps l n s).mono (by simp)) (by simp)) (by simp)) (by simp)) (by simp)

theorem frameOpened_links (l : Link) (n : Nat) (s : State) :
    (frameOpened l n s).link l = headPort n (s.link l) ∧
      (frameOpened l n s).link l.other = s.link l.other := by
  cases l <;> exact ⟨rfl, rfl⟩

/-! ## The report (R147) -/

/-- R135: a link that has authority does not take it. -/
theorem takesAtHead_of_holder (h : s.authority.holder = some l) : s.takesAtHead l = false := by
  unfold State.takesAtHead
  rw [h]
  simp

theorem causesOf_frameOpened {n : Nat} (h : OpensAtHead l s) :
    causesOf [] s (settle (frameOpened l n s)) =
      (if s.takesAtHead l then [.authority] else []) ++
        (if s.authority.output ≠ .rendering then [.output] else []) := by
  have hchip : (frameOpened l n s).chip = s.chip :=
    (frameOpened_keeps l n s).chip_eq (by cases l <;> decide)
  have hholder : s.authority.holder = some l ↔ ¬s.takesAtHead l = true :=
    ⟨fun hh => by rw [takesAtHead_of_holder hh]; exact Bool.false_ne_true, h.resolve_left⟩
  rw [causesOf_settle, causesOf_awake (by rw [hchip]) (by rw [hchip])]
  show (if s.authority.holder = some l then [] else _) ++
    (if s.authority.output = .rendering then [] else _) = _
  simp only [hholder, ite_not]

/-- R147: before the end of start-up a step reports nothing. -/
theorem leadsReporting_of_unstarted {c : Instr} {d : State} {extra cs : List Cause}
    {P : State → Prop} (he : exec c s = .next (conclude extra s d)) (hs : d.started = false)
    (hp : P d) : LeadsReporting c s cs P := by
  have hno : ¬d.started = true := by
    rw [hs]
    exact Bool.false_ne_true
  refine ⟨d, d, he.trans (congrArg _ (if_neg fun h => hno h.1)), hp, ?_⟩
  rw [Reported, if_neg fun h => hno h.1]

/-- The frame head opens no frame: nothing is reported. -/
theorem frameHead_quiet {n : Nat} {cs : List Cause} {P : State → Prop} {c : Instr}
    (he : exec c s = .next (conclude [] s (settle (authorityAtHead l (headed l n s)))))
    (h : s.started = false ∨ ¬OpensAtHead l s) (hcs : s.started = true → cs = [])
    (hp : P (settle (headed l n s))) : LeadsReporting c s cs P := by
  rw [authorityAtHead_of_quiet h] at he
  have hchip : (headed l n s).chip = s.chip := (headed_keeps l n s).chip_eq (by cases l <;> decide)
  cases hs : s.started with
  | true =>
    have ha := headed_authority l n s
    have hcauses := causesOf_settle.trans (causesOf_none hchip (by rw [ha]) (by rw [ha]))
    exact .intro he (hcauses.trans (hcs hs).symm) hp
  | false =>
    refine leadsReporting_of_unstarted he ?_ hp
    unfold State.started at hs ⊢
    rw [settle_chip, hchip, hs]

/-! ## What follows the opened frame -/

theorem frameOpened_forced (l : Link) (n : Nat) (s : State) :
    NothingToForce (frameOpened l n s) := .inr (inForce_nothing s)

theorem frameOpened_busy {n : Nat} (hb : Busy s) : Busy (frameOpened l n s) := by
  obtain ⟨hr, hd⟩ := composerInForce_job s
  exact hb.congr_stopped hr hd
    ((frameOpened_keeps l n s).composerStopped_eq (by cases l <;> decide))

theorem settleBanks_frameOpened {n : Nat} (h : settleBanks s = s) :
    settleBanks (frameOpened l n s) = frameOpened l n s :=
  settleBanks_released h ((frameOpened_keeps l n s).chip_eq (by cases l <;> decide))
    OutputState.noConfusion rfl

/-- From a steady state with a busy composer nothing follows. -/
theorem settle_frameOpened {n : Nat} (hq : Steady s) (hb : Busy s) :
    settle (frameOpened l n s) = frameOpened l n s := by
  have hk := frameOpened_keeps l n s
  have hgrant : NothingToGrant (frameOpened l n s) := hq.nothingToGrant.congr
    (hk .store (by cases l <;> decide)) (hk.composerStopped_eq (by cases l <;> decide))
  rw [settle_of_forced (.inl (frameOpened_busy hb)) (frameOpened_forced l n s) hgrant]
  exact settleBanks_frameOpened hq.2.1

/-- R17, R18: no bank waits when the step has ended. -/
theorem settle_frameOpened_banks {n : Nat} :
    ∀ b ∈ (settle (frameOpened l n s)).driver.banks, b.priming ≠ .waiting := by
  intro b hb
  rw [settle_banks] at hb
  obtain ⟨k, hk, rfl⟩ := List.mem_map.mp hb
  obtain ⟨j, -, rfl⟩ := List.mem_map.mp hk
  exact Bank.primed_not_waiting _ j.released_not_waiting

end FrameHead

/-- Settles O17: by the states `frameOpened` and `headed` of the step's own rules, and what follows
each. -/
theorem frameHeadActs : Obligations.FrameHeadActs := by
  intro l u s hl hr hc hlen n takes opens record released head
  have htakes : takes = s.takesAtHead l := by
    unfold takes State.takesAtHead
    cases s.authority.holder with
    | none => rfl
    | some h =>
      have hne : (h != l) = decide (h ≠ l) := decide_not.symm
      dsimp only
      rw [hne, beq_eq_decide]
  have he := exec_frameHead hl hr hc hlen
  clear_value takes
  subst htakes
  by_cases ho : s.started = true ∧ OpensAtHead l s
  · obtain ⟨hs, hopens⟩ := ho
    have hk := frameOpened_keeps l n s
    rw [authorityAtHead_of_opens hs hopens] at he
    obtain ⟨hlink, hother⟩ := frameOpened_links l n s
    have hhead : head (frameOpened l n s) :=
      ⟨hlink.trans (headPort_eq n _), hother, fun _ _ => ⟨rfl, rfl, rfl, rfl, hk⟩,
        fun h => (h.elim (fun hno => Bool.noConfusion (hs.symm.trans hno)) fun hno =>
          absurd hopens hno)⟩
    have hcauses := causesOf_frameOpened (n := n) hopens
    refine .intro he (hcauses.trans ?_) ⟨.intro hhead fun hq hb => ?_, fun _ _ =>
      ⟨settle_frameOpened_banks, fun hd => ?_, fun hb => ?_, fun hb => ?_⟩, fun h => ?_, ?_⟩
    · have hiff : opens ∧ s.authority.output ≠ .rendering ↔ s.authority.output ≠ .rendering :=
        and_iff_right hopens
      simp only [hiff]
    · rw [settle_frameOpened hq hb]
      exact hhead
    · obtain ⟨-, hdeferred⟩ := composerInForce_job s
      exact settle_render_of_forced (hdeferred.trans hd) (frameOpened_forced l n s)
    · exact settle_composer_of_forced (frameOpened_busy hb) (frameOpened_forced l n s)
    · rw [settle_banks, settle_rows, settleBanks_frameOpened hb]
      exact ⟨rfl, rfl⟩
    · exact h.elim (fun hno => Bool.noConfusion (hs.symm.trans hno)) fun hno => absurd hopens hno
    · exact settle_keeps (hk.mono (by simp)) (by simp)
  · have hquiet : s.started = false ∨ ¬OpensAtHead l s :=
      (not_and_or.mp ho).imp_left Bool.eq_false_of_not_eq_true
    have hk := headed_keeps l n s
    obtain ⟨hlink, hother⟩ := headed_links l n s
    have hhead : head (headed l n s) :=
      ⟨hlink.trans (headPort_eq n _), hother, fun hs hopens => absurd ⟨hs, hopens⟩ ho,
        fun _ => hk⟩
    have hsettle : Steady s → settle (headed l n s) = headed l n s := fun hq =>
      settle_of_steady (hq.through_authority
        (hk.mono (by cases l <;> simp [authorityParts, linkPart])) (by rw [headed_authority]))
    refine frameHead_quiet he hquiet (fun hs => ?_) ⟨.intro hhead fun hq _ => ?_,
      fun hs hopens => absurd ⟨hs, hopens⟩ ho, fun _ hq => ?_, ?_⟩
    · have hno : ¬opens := fun h => ho ⟨hs, h⟩
      rw [if_neg fun h => hno (.inl h), if_neg fun h => hno h.1]
      rfl
    · rw [hsettle hq]
      exact hhead
    · rw [hsettle hq]
      exact hk
    · exact settle_keeps (hk.mono (by simp)) (by simp)

end Sys2Proof.Machine
end
